-- ==== Sys2Proof/Word.lean ====
section
/-! DEFINITION. The hub's plainest types: a byte of the link and of the code pages, and the numbers of ports. -/

namespace Sys2Proof

/-- A byte of a frame, an internal character code or a printer code (00 Characters and text; R181). -/
abbrev Byte := BitVec 8

/-- A text held in the hub: internal character codes. -/
abbrev Text := List Byte

/-- A counter port. Port number n of the manual, 1 to 14, is the value n - 1; it is also the
station number (00 Station and operator numbers). -/
abbrev CounterPort := Fin 14

/-- Any of the fifteen link ports: port number n, 0 (the uplink) to 14. -/
abbrev LinkPort := Fin 15

/-- A label slot of a scale station, 0 to 3. -/
abbrev SlotNo := Fin 4

/-- A ticket number, 0 to 99. -/
abbrev TicketNo := Fin 100

/-- An operator: operator number n of the manual, 1 to 32, is the value n - 1. -/
abbrev OperatorNo := Fin 32

/-- The manual's number of a counter port. -/
def CounterPort.number (p : CounterPort) : Nat := p.val + 1

/-- The manual's number of an operator. -/
def OperatorNo.number (n : OperatorNo) : Nat := n.val + 1

/-- A date; 1 January 2000 to 31 December 2099 where a rule says so (00 Dates and time). -/
structure Date where
  year : Nat
  month : Nat
  day : Nat
  deriving DecidableEq, Repr

end Sys2Proof
end

