-- ==== Sys2Proof/Syntax.lean ====
section
/-! DEFINITION. The commands of the hub: one constructor of `Instr` for each row of
spec/opcode_table.json, with the data its frame, request or event carries. The table gives no row
any bits or operand; the operands here are those the row's own rule names. -/

namespace Sys2Proof

/-! ### What counter devices say -/

/-- Device kinds a HELLO declares, in the order of R2. -/
inductive DeviceKind | scale | dispenser | callDisplay
  deriving DecidableEq, Repr

/-- Calibration switch position (R12, R13). -/
inductive Switch | off | on
  deriving DecidableEq, Repr

/-- Printer condition of a HELLO or STATUS frame (R116). -/
inductive PrinterCondition | ready | paperOut | jam
  deriving DecidableEq, Repr

/-- Outcome of a PRINT_DONE (R113). -/
inductive PrintOutcome | ok | paperOut | jam
  deriving DecidableEq, Repr

/-! ### Item records as the store controller writes them (4.1) -/

inductive PricingMode | byWeight | byCount | fixed
  deriving DecidableEq, Repr

inductive PriceBasis | perKg | per100g
  deriving DecidableEq, Repr

/-- A markdown: percent and the minute window [start, stop) (R45). -/
structure Markdown where
  percent : Nat
  start : Nat
  stop : Nat
  deriving DecidableEq, Repr

/-- The fields of an item record that a snapshot copies (R44). -/
structure ItemFields where
  plu : Nat
  mode : PricingMode
  price : Nat
  basis : Option PriceBasis
  presetTare : Nat
  department : Nat
  template : Nat
  name : Text
  extra : Option Text
  sellBy : Option Nat
  deriving DecidableEq, Repr

/-- One entry of the pending list or of a PLU_STAGE block (R68). -/
inductive StageEntry
  | put (item : ItemFields) (markdown : Option Markdown)
  | delete (plu : Nat)
  deriving DecidableEq, Repr

/-! ### Templates (5.1) -/

inductive TemplateKind | item | summary
  deriving DecidableEq, Repr

/-- The field kinds of R92, in its order. -/
inductive FieldKind
  | itemName | extraText | operatorName | fixedText | copyMark
  | netWeight | tare | unitPrice | totalPrice | saving | quantity | pluNumber | ticket | serial
  | station | orderTotal | lineCount | orderNumber | packDate | sellBy | barcode
  deriving DecidableEq, Repr

inductive Justify | left | right
  deriving DecidableEq, Repr

inductive Translation | none | table0 | table1
  deriving DecidableEq, Repr

/-- A field descriptor that passed R89. -/
structure FieldDesc where
  kind : FieldKind
  line : Nat
  column : Nat
  width : Nat
  justify : Justify
  fill : Byte
  translation : Translation
  trim : Bool
  text : Option Text
  deriving DecidableEq, Repr

/-- A stored template (R88). -/
structure Template where
  kind : TemplateKind
  fields : List FieldDesc
  deriving DecidableEq, Repr

/-- A field descriptor as TEMPLATE_WRITE carries it; `none` is a value the enumerated field does not
have, which R89 judges. -/
structure FieldRaw where
  kind : Option FieldKind
  line : Nat
  column : Nat
  width : Nat
  justify : Option Justify
  fill : Byte
  translation : Option Translation
  trim : Bool
  text : Option Text
  deriving DecidableEq, Repr

/-- A template as TEMPLATE_WRITE carries it. -/
structure TemplateRaw where
  kind : Option TemplateKind
  fields : List FieldRaw
  deriving DecidableEq, Repr

/-- The half of a translation table that TRANSLATE_WRITE replaces (R90). -/
inductive TableHalf | low | high
  deriving DecidableEq, Repr

/-! ### Operators, calibration, configuration, areas, enables -/

/-- An operator record (1.8). -/
structure OperatorRecord where
  name : Text
  enabled : Bool
  voidPermission : Bool
  deriving DecidableEq, Repr

/-- The numeric fields of a calibration record (2.1). -/
structure CalFields where
  zero : Int
  mult : Nat
  max : Nat
  max1 : Nat
  e1 : Nat
  e2 : Nat
  window : Nat
  stability : Nat
  deriving DecidableEq, Repr

/-- The zero-tracking field of CAL_WRITE (R20). -/
inductive TrackingSetting | on | off | default
  deriving DecidableEq, Repr

/-- The configuration fields that hold a time or the ratio (11.2). -/
inductive NumberField
  | supervisionReload | commitDrain | closeDrain | callTimeout | parkTimeout | serviceRatio
  deriving DecidableEq, Repr

/-- The identifiers of the configuration record (11.2). -/
inductive ConfigField
  | number (f : NumberField)
  | mask (k : Fin 4)
  | zeroTracking
  deriving DecidableEq, Repr

/-- One entry of CONFIG_WRITE (R200). A mask value names station numbers 0 to 15; a zero-tracking
value of `none` is neither ON nor OFF. -/
inductive ConfigEntry
  | number (f : NumberField) (value : Nat)
  | mask (k : Fin 4) (stations : List (Fin 16))
  | zeroTracking (value : Option Bool)
  | unknown (identifier : Nat)
  deriving DecidableEq, Repr

/-- The retained areas, in the order of R197. -/
inductive Area
  | items | templates | translation | operators | calibration | config | totals | day | generation
  | audit
  deriving DecidableEq, Repr

/-- Master and class enables of the notices (R196). -/
structure Enables where
  master : Bool
  label : Bool
  order : Bool
  table : Bool
  day : Bool
  station : Bool
  calibration : Bool
  ticket : Bool
  clock : Bool
  deriving DecidableEq, Repr

/-- Parts of TOTALS_READ (R170). -/
inductive TotalsPart | grand | station | operator | department | item
  deriving DecidableEq, Repr

/-- Parts of DAY_RECORD_READ (R179). -/
inductive RecordPart | header | grand | station | operator | department | item
  deriving DecidableEq, Repr

/-! ### Frames that are thrown away -/

/-- One received character: its eight data bits and whether its stop bit was valid (R182). -/
structure RxChar where
  byte : Byte
  stopOk : Bool
  deriving DecidableEq, Repr

/-! ### The commands -/

/-- One constructor for each row of spec/opcode_table.json. -/
inductive Instr
  -- lines and frames that reach no block
  | lineDrop (p : CounterPort)
  | lineReturn (port : LinkPort)
  | uplinkLineDrop
  | frameDiscard (port : LinkPort) (chars : List RxChar) (whileTaking : Bool)
  | malformedFrame (p : CounterPort) (frame : List Byte)
  | malformedRequest (length : Byte) (rest : List Byte)
  -- frames and timers of the counter ports
  | hello (p : CounterPort) (kind : Option DeviceKind) (sw : Switch) (printer : PrinterCondition)
  | statusFrame (p : CounterPort) (sw : Switch) (printer : PrinterCondition)
  | sample (p : CounterPort) (s0 s1 s2 s3 : Int)
  | sampleGapExpiry (p : CounterPort)
  | supervisionExpiry (p : CounterPort)
  -- keys
  | login (p : CounterPort) (n : Nat)
  | logout (p : CounterPort)
  | zero (p : CounterPort)
  | tare (p : CounterPort)
  | keyedTare (p : CounterPort) (t : Nat)
  | plu (p : CounterPort) (n : Nat)
  | qty (p : CounterPort) (q : Nat)
  | print (p : CounterPort)
  | cancel (p : CounterPort)
  | void (p : CounterPort) (serial : Nat)
  | reprint (p : CounterPort) (serial : Nat)
  | next (p : CounterPort)
  | serve (p : CounterPort)
  | recall (p : CounterPort)
  | skip (p : CounterPort)
  | recallSkipped (p : CounterPort) (t : Nat)
  | cancelNext (p : CounterPort)
  | park (p : CounterPort)
  | pickup (p : CounterPort) (t : Nat)
  | closeOrder (p : CounterPort)
  -- other frames of the counter ports
  | printDone (p : CounterPort) (slot : Nat) (outcome : PrintOutcome)
  | takeRequest (p : CounterPort)
  -- the hub's own events
  | takeDecision
  | compositionComplete
  | callTimeout (t : TicketNo)
  | orderAbandoned (number : Nat)
  | clockTick
  | commitActivation
  | commitDrainExpiry
  | commitCompletion
  | closeDrainExpiry
  | dayCloseCompletion
  -- uplink requests
  | status (tag : Nat)
  | statusClear (tag : Nat) (port : Option Nat)
  | noticeEnable (tag : Nat) (enables : Enables)
  | hubReset (tag : Nat)
  | warmReset
  | powerUp (found : List (Area × Nat))
  | operatorWrite (tag : Nat) (n : Nat) (record : Option OperatorRecord)
  | calWrite (tag : Nat) (port : Nat) (fields : CalFields) (tracking : Option TrackingSetting)
  | calRead (tag : Nat) (port : Nat)
  | pluRead (tag : Nat) (first last : Nat)
  | pluStage (tag : Nat) (block : List StageEntry)
  | stageDiscard (tag : Nat)
  | commit (tag : Nat) (activation : Option (Date × Nat))
  | commitAbort (tag : Nat)
  | templateWrite (tag : Nat) (n : Nat) (template : Option TemplateRaw)
  | translateWrite (tag : Nat) (table : Nat) (half : TableHalf) (codes : List Byte)
  | orderRead (tag : Nat) (number : Option Nat)
  | totalsRead (tag : Nat) (part : Option TotalsPart) (first : Nat)
  | dayClose (tag : Nat)
  | dayRecordRead (tag : Nat) (part : Option RecordPart) (first : Nat)
  | configWrite (tag : Nat) (entries : List ConfigEntry)
  | timeSet (tag : Nat) (date : Date) (second : Nat)
  | uplinkTransmit
  deriving DecidableEq, Repr

end Sys2Proof
end

