-- ==== Sys2Proof/Config.lean ====
section
/-! DEFINITION. Figures of the part (00 Capacities) and the free values: what the manual leaves open
and this model leaves open too. -/

namespace Sys2Proof.Config

/-! ### Capacities -/

/-- Ports in UP that may hold a place for SCALE, DISPENSER, CALL_DISPLAY (R2). -/
def maxScales : Nat := 12
def maxDispensers : Nat := 2
def maxCallDisplays : Nat := 4
/-- Item table records, live and retired together (R64). -/
def maxItems : Nat := 2000
/-- Pending list entries (R68). -/
def maxStaged : Nat := 256
/-- Entries of one PLU_STAGE block (R69), records or entries of one reading reply (R67, R170, R179). -/
def blockSize : Nat := 32
/-- Field descriptors of a template (R89). -/
def maxFields : Nat := 20
/-- Label log entries (R119). -/
def maxLog : Nat := 256
/-- Copies of one label (R123). -/
def maxReprints : Nat := 3
/-- Skipped list (R138). -/
def maxSkipped : Nat := 8
/-- Call count of a ticket (R137). -/
def maxCalls : Nat := 3
/-- Live orders (R146) and lines of an order. -/
def maxOrders : Nat := 32
def maxLines : Nat := 24
/-- Order numbers of a day (R147). -/
def maxOrderNumber : Nat := 9999
/-- Notices in the queue (R194) and its lost count. -/
def maxNotices : Nat := 64
def maxLost : Nat := 255
/-- Replies in the reply queue (R188). -/
def maxReplies : Nat := 4
/-- Saturating counts of 16 bits: error counts (R184), audit counter (R203). -/
def max16 : Nat := 65535
/-- Label serials of a day (R118). -/
def maxSerial : Nat := 999999
/-- Final price of a label and largest PLU number (R51, 4.1). -/
def maxFinal : Nat := 999999
def maxPlu : Nat := 99999
/-- Order total (R146). -/
def maxOrderTotal : Nat := 9999999
/-- Ticket ages and order idle counts saturate here (R127, R155). -/
def maxAge : Nat := 999999
/-- Tops of the accumulators (9.1). -/
def countTop : Nat := 999999999
def valueTop : Nat := 999999999999
/-- Payload bytes of a reply frame that carry data (R188). -/
def replyChunk : Nat := 246
/-- The two clip values of the converter (2.3). -/
def clipHigh : Int := 8388607
def clipLow : Int := -8388608

/-! ### Free values

No rule fixes these. They have no body, so nothing can be proved of the values they take; what the
model does with them is right for every value. -/

/-- FREE VALUE. The order in which events that fall in one moment are taken, where no rule orders
them: item `code` stands at place `rank choice code` (log 5, 6). -/
opaque rank : Nat → Nat → Nat

/-- FREE VALUE. A choice between two orders or two codes that the manual leaves open (log 18, 19), and
whether the drop of the uplink cuts the frame of a notice (log 9). -/
opaque freeBit : Nat → Bool

/-- FREE VALUE. The Range content of a DISPLAY frame that shows no weight on a scale that is not known to
be single-range, at station number `port` (R17; log 17). `true` is range 1. -/
opaque blankRange : Nat → Nat → Bool

/-- FREE VALUE. The check value computed over the contents of a retained area: no rule says how it is
computed or how wide it is (R197; log 12). -/
opaque checkValue {α : Type} (contents : α) : Nat

end Sys2Proof.Config
end

