-- ==== Sys2Proof/Machine/State.lean ====
section
/-! DEFINITION. The state of the hub as plain data: every record, list, counter and flag the manual
names, the queue of waiting commands, and the state after reset. -/

namespace Sys2Proof.Machine

/-! ### Stops -/

/-- Why the machine stops. -/
inductive Fault
  /-- Raised by COMPOSITION_COMPLETE when a label is to be posted and its station's free list is empty.
  R107 says this cannot happen; the model stops where the manual has no effect to give. Safe. -/
  | noFreeSlot
  /-- Raised by COMPOSITION_COMPLETE when the order of a SUMMARY job is not live. The order stays OPEN
  while its summary is in flight (R158), so this cannot happen either. Safe. -/
  | lostOrder
  deriving DecidableEq, Repr

/-- Commands with no meaning. -/
inductive Refusal
  /-- Raised by an arm of `exec` whose row has no meaning yet. Safe. No arm raises it. -/
  | notModelled (mnemonic : String)
  deriving DecidableEq, Repr

/-! ### Codes (10.8) -/

/-- Result codes of replies, in the order of 10.8. -/
inductive ResultCode
  | ok | badFrame | badRecord | busy | calLocked | operatorBusy | stageFrozen | stageFull
  | dayClosing | commitPending | nothingStaged | tableFull | outOfRange | clockNotSet | noCommit
  | noOrder | noRecord
  deriving DecidableEq, Repr

/-- Station message codes, in the order of 10.8. -/
inductive MsgCode
  | loginRequired | busy | calMode | calPending | operatorUnknown | operatorBusy | noCal | noData
  | noZero | overload | underload | notStable | overMax | underMin | tareActive | zeroRange
  | tareInvalid | tareRange | dayClosing | noItem | itemRetired | templateMissing | clockNotSet
  | notCountItem | qtyRange | notSelected | overPrice | zeroPrice | orderFull | orderLimit
  | serialExhausted | labelFieldOverflow | priceChanged | printerBusy | notInLog | notVoidable
  | alreadyVoid | noPermission | reprintLimit | noTicket | notWaiting | alreadyWaiting
  | ticketCalled | orderOpen | ordersFull | recallLimit | notSkipped | noOrder
  deriving DecidableEq, Repr

/-! ### Totals (9.1) -/

/-- The totals part of an item record, with its group's saturated mark (R163). -/
structure ItemTotals where
  items : Nat := 0
  weight : Nat := 0
  count : Nat := 0
  value : Nat := 0
  markdown : Nat := 0
  mark : Bool := false
  deriving DecidableEq, Repr

/-- The grand accumulators. -/
structure GrandTotals where
  items : Nat := 0
  value : Nat := 0
  markdown : Nat := 0
  voids : Nat := 0
  voidValue : Nat := 0
  unprintedVoids : Nat := 0
  reprints : Nat := 0
  staleSales : Nat := 0
  forcedCancels : Nat := 0
  offlineCancels : Nat := 0
  ordersClosed : Nat := 0
  ordersAbandoned : Nat := 0
  ordersClosedByDay : Nat := 0
  ticketsIssued : Nat := 0
  ticketsServed : Nat := 0
  ticketsSkipped : Nat := 0
  ticketsDiscarded : Nat := 0
  waitSeconds : Nat := 0
  largestWait : Nat := 0
  mark : Bool := false
  deriving DecidableEq, Repr

structure StationTotals where
  items : Nat := 0
  value : Nat := 0
  labelsPrinted : Nat := 0
  reprints : Nat := 0
  voids : Nat := 0
  unprintedVoids : Nat := 0
  forcedCancels : Nat := 0
  offlineCancels : Nat := 0
  mark : Bool := false
  deriving DecidableEq, Repr

structure OperatorTotals where
  items : Nat := 0
  value : Nat := 0
  voids : Nat := 0
  voidValue : Nat := 0
  mark : Bool := false
  deriving DecidableEq, Repr

structure DepartmentTotals where
  items : Nat := 0
  value : Nat := 0
  markdown : Nat := 0
  mark : Bool := false
  deriving DecidableEq, Repr

/-- The TOTALS area. Department n of the manual is entry n - 1. -/
structure Totals where
  grand : GrandTotals
  stations : Vector StationTotals 14
  operators : Vector OperatorTotals 32
  departments : Vector DepartmentTotals 32
  deriving DecidableEq, Repr

/-! ### Item table -/

/-- LIVE or RETIRED (R66). -/
inductive ItemStatus | live | retired
  deriving DecidableEq, Repr

structure ItemRecord where
  item : ItemFields
  markdown : Option Markdown
  status : ItemStatus
  totals : ItemTotals
  deriving DecidableEq, Repr

/-- What one entry did to the item table at a completion (R85). -/
inductive EntryEffect | added | replaced | removed | retired | noRecord
  deriving DecidableEq, Repr

/-! ### Calibration and configuration -/

/-- A stored calibration record (2.1). -/
structure CalRecord extends CalFields where
  tracking : Bool
  deriving DecidableEq, Repr

/-- A station mask: entry p says whether station p is in the set. -/
abbrev StationMask := Vector Bool 14

structure ConfigRecord where
  supervisionReload : Nat
  commitDrain : Nat
  closeDrain : Nat
  callTimeout : Nat
  parkTimeout : Nat
  serviceRatio : Nat
  masks : Vector StationMask 4
  zeroTracking : Bool
  deriving DecidableEq, Repr

/-! ### Clock -/

structure Clock where
  date : Date
  second : Nat
  valid : Bool
  deriving DecidableEq, Repr

/-- A moment as a record keeps it: the date absent when the clock was not valid (R201). -/
structure Stamp where
  date : Option Date
  second : Nat
  deriving DecidableEq, Repr

/-! ### The day record and the retained store -/

/-- One item entry of a day record (R176). -/
structure DayItem where
  plu : Nat
  name : Text
  department : Nat
  mode : PricingMode
  status : ItemStatus
  totals : ItemTotals
  deriving DecidableEq, Repr

/-- The frozen day record (R176). Its header's number of item entries is the length of `items`. -/
structure DayRecord where
  number : Nat
  opened : Option Stamp
  closed : Stamp
  totalsLost : Bool
  totals : Totals
  items : List DayItem
  deriving DecidableEq, Repr

/-- The DAY area (9.4). -/
structure DayArea where
  number : Nat
  opened : Option Stamp
  nextSerial : Nat
  nextOrder : Nat
  totalsLost : Bool
  record : Option DayRecord
  deriving DecidableEq, Repr

/-- The retained store (R197), one field an area; TRANSLATION is two tables. -/
structure Retained where
  items : List ItemRecord
  templates : Vector (Option Template) 16
  table0 : Vector Byte 256
  table1 : Vector Byte 256
  operators : Vector (Option OperatorRecord) 32
  cal : Vector (Option CalRecord) 14
  config : ConfigRecord
  totals : Totals
  day : DayArea
  generation : Nat
  audit : Nat
  deriving DecidableEq, Repr

/-! ### Weighing -/

/-- Weighing states (2.2). -/
inductive WeighState | noCal | noData | initialZero | motion | stable | overload | underload
  deriving DecidableEq, Repr

/-- The weighing range of a weight (R39). -/
inductive WeighRange | one | two
  deriving DecidableEq, Repr

inductive TareKind | none | weighed | keyed | preset
  deriving DecidableEq, Repr

/-- The tare record: kind and T in grams. -/
structure Tare where
  kind : TareKind
  value : Nat
  deriving DecidableEq, Repr

/-- The weights of an in-limit result (R41); gross and net in tenths of a gram, d in grams. -/
structure Weights where
  gross : Int
  net : Int
  d : Int
  netRange : WeighRange
  grossRange : WeighRange
  stable : Bool
  deriving DecidableEq, Repr

/-- A weight result (R41). It is priceable exactly when it has no message. -/
structure WeightResult where
  state : WeighState
  weights : Option Weights
  message : Option MsgCode
  deriving DecidableEq, Repr

/-- The weighing context (2.2). -/
structure WeighCtx where
  state : WeighState
  window : List Int
  gapRunning : Bool
  pendingZero : Bool
  zo : Int
  zi : Int
  band : List Int
  tare : Tare
  latest : Option WeightResult
  deriving DecidableEq, Repr

/-! ### The sale -/

/-- Base, markdown and final in cents (R51). -/
structure Amounts where
  base : Nat
  markdown : Nat
  final : Nat
  deriving DecidableEq, Repr

/-- The live price: amounts, when there are any, and the pricing message (3.3). -/
structure LivePrice where
  amounts : Option Amounts
  message : Option MsgCode
  deriving DecidableEq, Repr

/-- The item snapshot (R44). -/
structure Snapshot where
  item : ItemFields
  generation : Nat
  percent : Nat
  quantity : Nat
  live : Option LivePrice
  deriving DecidableEq, Repr

/-- The sale record (R58). -/
structure SaleRecord where
  item : ItemFields
  generation : Nat
  percent : Nat
  quantity : Nat
  tare : Tare
  amounts : Amounts
  /-- Order number and ticket; present when the station was SERVING. -/
  order : Option (Nat × TicketNo)
  operator : Option OperatorNo
  station : CounterPort
  stamp : Stamp
  deriving DecidableEq, Repr

/-! ### Labels -/

/-- Eight lines of thirty-two printer codes, line after line, and the barcode slot (5.3). -/
structure LabelImage where
  grid : List Byte
  barcode : Option (List Nat)
  deriving DecidableEq, Repr

inductive LabelClass | item | summary | reprint
  deriving DecidableEq, Repr

/-- What a posted slot holds (6.1). -/
structure SlotLabel where
  cls : LabelClass
  image : LabelImage
  serial : Nat
  day : Nat
  sale : Option SaleRecord
  deriving DecidableEq, Repr

/-- The slot lists of a scale station (R110). -/
structure SlotCtx where
  labels : Vector (Option SlotLabel) 4
  free : List SlotNo
  post : List SlotNo
  outstanding : Option SlotNo
  deriving DecidableEq, Repr

inductive EntryState | posted | printed | unprinted | voided
  deriving DecidableEq, Repr

/-- A label log entry (6.4). Its class is ITEM exactly when it holds a sale record. -/
structure LogEntry where
  serial : Nat
  sale : Option SaleRecord
  state : EntryState
  reprints : Nat
  station : CounterPort
  order : Option Nat
  day : Nat
  deriving DecidableEq, Repr

/-! ### The composer -/

/-- What a composer job draws on (5.6). -/
inductive JobSource
  | item (sale : SaleRecord)
  | reprint (serial : Nat)
  | summary (order : Nat) (operator : Option OperatorNo) (stamp : Stamp)
  deriving DecidableEq, Repr

structure Job where
  station : CounterPort
  source : JobSource
  deriving DecidableEq, Repr

/-- A composition in flight, with the copies it read at its start (R105). -/
structure Composition where
  job : Job
  template : Template
  table0 : Vector Byte 256
  table1 : Vector Byte 256
  dropped : Bool
  deriving DecidableEq, Repr

structure Composer where
  queue : List Job
  current : Option Composition
  serviceCount : Nat
  deriving DecidableEq, Repr

/-! ### Tickets and orders -/

/-- Where a ticket stands (7.1); CALLED holds the station and the call timer. -/
inductive TicketState
  | free
  | waiting
  | called (station : CounterPort) (timer : Nat)
  | skipped
  | inService
  deriving DecidableEq, Repr

structure TicketRec where
  state : TicketState
  count : Nat
  age : Nat
  deriving DecidableEq, Repr

structure TicketUnit where
  next : TicketNo
  recs : Vector TicketRec 100
  waiting : List TicketNo
  calling : List CounterPort
  skipped : List TicketNo
  deriving DecidableEq, Repr

structure OrderLine where
  serial : Nat
  plu : Nat
  quantity : Nat
  final : Nat
  generation : Nat
  voided : Bool
  deriving DecidableEq, Repr

/-- OPEN at a station, or PARKED (8.1). -/
inductive OrderState
  | openAt (station : CounterPort)
  | parked
  deriving DecidableEq, Repr

structure Order where
  number : Nat
  ticket : TicketNo
  state : OrderState
  lines : List OrderLine
  total : Nat
  idle : Nat
  summaryInFlight : Bool
  deriving DecidableEq, Repr

/-! ### Commit and day -/

/-- The drain of a WAITING commit (R72): it runs while `expired` is false. -/
structure CommitDrain where
  timer : Nat
  expired : Bool
  awaited : Nat
  forced : Nat
  deriving DecidableEq, Repr

inductive CommitState
  | editing
  | scheduled (date : Date) (minute : Nat)
  | waiting (drain : CommitDrain)
  deriving DecidableEq, Repr

inductive DayState
  | trading
  | closing (timer : Nat) (expired : Bool)
  deriving DecidableEq, Repr

/-! ### Notices (10.7) -/

inductive OnlineState | online | offline | refused
  deriving DecidableEq, Repr

/-- Causes of a STATION_STATE notice (R2, R9). -/
inductive StationCause | attach | kindLimit | supervision | lineDrop | restart
  deriving DecidableEq, Repr

/-- Causes of a TICKET_CALLED notice (R135, R137). -/
inductive CallCause | next | take | returned | skipped | recall
  deriving DecidableEq, Repr

/-- Causes of a LABEL_VOIDED notice (R120, R122). -/
inductive VoidCause
  | unprinted (closedDay : Bool)
  | key (operator : Option OperatorNo)
  deriving DecidableEq, Repr

/-- Outcomes of an ORDER_CLOSED notice (R155, R157, R159, R161). -/
inductive OrderOutcome | served | empty | abandoned | dayClosed
  deriving DecidableEq, Repr

/-- What each notice carries besides its date and second (10.7). -/
inductive NoticeBody
  | itemIssued (serial : Nat) (station : CounterPort) (plu quantity final : Nat) (order : Option Nat)
  | summaryIssued (serial : Nat) (station : CounterPort) (order total : Nat)
  | labelVoided (serial : Nat) (station : CounterPort) (cause : VoidCause)
  | orderClosed (outcome : OrderOutcome) (order : Nat) (ticket : TicketNo)
      (station : Option CounterPort) (serial lines total : Option Nat)
  | commitApplied (generation forced entries added replaced removed retired : Nat)
  | commitTableFull (generation : Nat)
  | dayClosed (closed opened : Nat) (at_ : Stamp) (items : Nat) (anyMark : Bool)
  | stationState (port : CounterPort) (kind : Option DeviceKind) (state : OnlineState)
      (cause : StationCause)
  | calChanged (port : CounterPort) (audit : Nat)
  | ticketCalled (ticket : TicketNo) (station : CounterPort) (count : Nat) (cause : CallCause)
  | clockLost (lastDate : Date)
  | retainedLost (area : Area)
  deriving DecidableEq, Repr

structure Notice where
  stamp : Stamp
  body : NoticeBody
  deriving DecidableEq, Repr

structure NoticeQueue where
  enables : Enables
  queue : List Notice
  lost : Nat
  deriving DecidableEq, Repr

/-! ### Frames to counter devices -/

/-- The weight text of a display (R17): blank, d in grams shown as kilograms, or in CALIBRATING the
gross in tenths of a gram. -/
inductive WeightText
  | blank
  | kilograms (d : Int)
  | tenths (gross : Int)
  deriving DecidableEq, Repr

/-- The contents of a DISPLAY frame (R17). Prices are in cents. -/
structure Display where
  weight : WeightText
  unitPrice : Option Nat
  totalPrice : Option Nat
  itemName : Option Text
  message : Option MsgCode
  stable : Bool
  zero : Bool
  net : Bool
  tareActive : Bool
  range : WeighRange
  stalePrice : Bool
  dayClosing : Bool
  deriving DecidableEq, Repr

/-- Answers to a TAKE_REQUEST (R129). -/
inductive TakeAnswer
  | issue (t : TicketNo)
  | rollBlocked
  | closed
  deriving DecidableEq, Repr

/-- Frames the hub sends on counter ports (10.4). -/
inductive OutFrame
  | display (d : Display)
  | label (slot : SlotNo) (part : Nat) (codes : List Byte) (barcode : List Nat)
  | nowServing (station : CounterPort) (ticket : TicketNo) (count : Nat)
  | takeAnswer (a : TakeAnswer)
  | refused
  deriving DecidableEq, Repr

/-! ### Counter ports -/

inductive PortState | down | up | refused
  deriving DecidableEq, Repr

/-- The line and protocol error counts of a port (R184). -/
structure ErrorCounts where
  check : Nat := 0
  framing : Nat := 0
  overrun : Nat := 0
  protocol : Nat := 0
  deriving DecidableEq, Repr

inductive SaleState | noOperator | idle | item | printing | calibrating
  deriving DecidableEq, Repr

inductive ServiceState | free | asking | called | serving
  deriving DecidableEq, Repr

inductive PrinterState | ready | fault
  deriving DecidableEq, Repr

/-- A counter port: port state, station context, weighing context, slot lists, call display mask,
error counts and the frames not yet sent. `lastSent` and `displayDue` are the model's own: the frame sent
last, as bytes (log 9), and a mark that the event under way owes the station its one DISPLAY frame
(log 21). -/
structure Port where
  state : PortState
  kind : Option DeviceKind
  online : Bool
  supervision : Nat
  operator : Option OperatorNo
  sale : SaleState
  snapshot : Option Snapshot
  record : Option SaleRecord
  service : ServiceState
  calSwitch : Switch
  printer : PrinterState
  held : Option MsgCode
  weigh : WeighCtx
  slots : SlotCtx
  mask : Option (Fin 4)
  errors : ErrorCounts
  tx : List OutFrame
  lastSent : Option (List Byte)
  displayDue : Bool
  deriving DecidableEq, Repr

/-! ### Uplink -/

/-- Day figures that head a TOTALS_READ reply (R170). -/
structure TotalsHeader where
  day : Nat
  state : DayState
  opened : Option Stamp
  totalsLost : Bool
  generation : Nat
  deriving DecidableEq, Repr

/-- Header of a day record as DAY_RECORD_READ gives it (R176, R179). -/
structure RecordHeader where
  number : Nat
  opened : Option Stamp
  closed : Stamp
  totalsLost : Bool
  items : Nat
  deriving DecidableEq, Repr

/-- One entry of a totals reply (R170, R179). That an OPERATOR or DEPARTMENT entry holds its group's number is the
model's choice (log 39). -/
inductive TotalsEntry
  | grand (g : GrandTotals)
  | station (n : Nat) (g : StationTotals)
  | operator (n : Nat) (g : OperatorTotals)
  | department (n : Nat) (g : DepartmentTotals)
  | item (plu : Nat) (status : ItemStatus) (department : Nat) (mode : PricingMode) (g : ItemTotals)
  | dayItem (e : DayItem)
  deriving DecidableEq, Repr

/-- What STATUS reports of a counter port's station (R191). -/
structure StationReport where
  operator : Option OperatorNo
  sale : SaleState
  service : ServiceState
  printer : PrinterState
  calSwitch : Switch
  deriving DecidableEq, Repr

/-- What STATUS reports of one port (R191). The summary error mark is set while a line error count
is not 0 (R184). -/
structure PortReport where
  state : PortState
  kind : Option DeviceKind
  online : Bool
  supervision : Nat
  station : Option StationReport
  errors : ErrorCounts
  errorMark : Bool
  deriving DecidableEq, Repr

/-- The STATUS reply (R191). -/
structure StatusReport where
  generation : Nat
  commit : CommitState
  staged : Nat
  dayState : DayState
  dayNumber : Nat
  nextSerial : Nat
  nextOrder : Nat
  clock : Clock
  nextTicket : TicketNo
  nextHeld : Bool
  waiting : Nat
  calling : Nat
  skipped : Nat
  uplinkUp : Bool
  uplinkErrors : ErrorCounts
  uplinkErrorMark : Bool
  ports : List PortReport
  enables : Enables
  notices : Nat
  lost : Nat
  audit : Nat
  deriving DecidableEq, Repr

/-- The commit state as a COMMIT reply names it (R73). -/
inductive CommitPhase | editing | scheduled | waiting
  deriving DecidableEq, Repr

/-- The data of a reply, as the request's rule gives it. -/
inductive ReplyData
  | none
  | position (n : Nat)
  | count (n : Nat)
  | calibration (record : Option CalRecord) (state : WeighState) (window count : Nat)
      (sum zo zi : Int)
  | items (generation : Nat) (records : List ItemRecord) (more : Option Nat)
  | commit (phase : CommitPhase) (generation : Nat)
  | aborted (forced entries : Nat)
  | orderList (orders : List Order)
  | order (o : Order)
  | totals (part : TotalsPart) (header : TotalsHeader) (entries : List TotalsEntry)
      (more : Option Nat)
  | day (state : DayState) (number : Nat)
  | dayRecord (part : RecordPart) (header : RecordHeader) (entries : List TotalsEntry) (more : Bool)
  | config (clamped : List ConfigField) (record : ConfigRecord)
  | clock (before : Clock)
  | enables (before : Enables)
  | status (report : StatusReport)
  deriving DecidableEq, Repr

structure Reply where
  tag : Nat
  result : ResultCode
  data : ReplyData
  deriving DecidableEq, Repr

/-- The uplink (R5, R185, R188 to R190, R193). -/
structure Uplink where
  up : Bool
  errors : ErrorCounts
  replies : List Reply
  sentParts : Nat
  waiting : Option Instr
  resetPending : Bool
  lastSent : Option (List Byte)
  deriving DecidableEq, Repr

/-! ### The state -/

/-- Everything the hub holds. `pending` is the queue of waiting commands, `free` the model's counter
of free values taken (log 20). -/
structure State where
  pending : List Instr
  ret : Retained
  clock : Clock
  ports : Vector Port 14
  uplink : Uplink
  notices : NoticeQueue
  staged : List StageEntry
  commit : CommitState
  dayState : DayState
  composer : Composer
  log : List LogEntry
  tickets : TicketUnit
  orders : List Order
  free : Nat
  deriving DecidableEq, Repr

/-! ### Empty states of the retained areas (R197) -/

/-- The default configuration record (11.2). -/
def ConfigRecord.default : ConfigRecord where
  supervisionReload := 3
  commitDrain := 30
  closeDrain := 60
  callTimeout := 120
  parkTimeout := 30
  serviceRatio := 2
  masks := Vector.replicate 4 (Vector.replicate 14 true)
  zeroTracking := true

/-- The identity translation table (R90). -/
def identityTable : Vector Byte 256 := Vector.ofFn fun i => BitVec.ofFin i

def Totals.empty : Totals where
  grand := {}
  stations := Vector.replicate 14 {}
  operators := Vector.replicate 32 {}
  departments := Vector.replicate 32 {}

/-- The DAY area after a failed check (R171). -/
def DayArea.empty : DayArea where
  number := 0
  opened := none
  nextSerial := 1
  nextOrder := 1
  totalsLost := false
  record := none

/-- Every area at its empty state (R197); a new part's store (log 2). -/
def Retained.empty : Retained where
  items := []
  templates := Vector.replicate 16 none
  table0 := identityTable
  table1 := identityTable
  operators := Vector.replicate 32 none
  cal := Vector.replicate 14 none
  config := ConfigRecord.default
  totals := Totals.empty
  day := DayArea.empty
  generation := 0
  audit := 0

/-! ### Volatile state after a reset (11.5) -/

/-- The clock at power-up (R201). -/
def Clock.powerUp : Clock := { date := ⟨2000, 1, 1⟩, second := 0, valid := false }

/-- A weighing context as a restart leaves it (R22), the gap timer running or stopped. -/
def WeighCtx.fresh (cal : Option CalRecord) (gapRunning : Bool) : WeighCtx where
  state := if cal.isSome then .initialZero else .noCal
  window := []
  gapRunning := gapRunning
  pendingZero := true
  zo := 0
  zi := 0
  band := []
  tare := { kind := .none, value := 0 }
  latest := none

/-- All four slots free, in order (R126). -/
def SlotCtx.fresh : SlotCtx where
  labels := Vector.replicate 4 none
  free := [0, 1, 2, 3]
  post := []
  outstanding := none

/-- A port before any HELLO (R10), its weighing context fresh with the gap timer stopped (R22). -/
def Port.fresh (cal : Option CalRecord) : Port where
  state := .down
  kind := none
  online := false
  supervision := 0
  operator := none
  sale := .noOperator
  snapshot := none
  record := none
  service := .free
  calSwitch := .off
  printer := .ready
  held := none
  weigh := WeighCtx.fresh cal false
  slots := SlotCtx.fresh
  mask := none
  errors := {}
  tx := []
  lastSent := none
  displayDue := false

def Uplink.fresh : Uplink where
  up := false
  errors := {}
  replies := []
  sentParts := 0
  waiting := none
  resetPending := false
  lastSent := none

/-- Every enable OFF (R196). -/
def Enables.off : Enables := ⟨false, false, false, false, false, false, false, false, false⟩

def NoticeQueue.fresh : NoticeQueue := { enables := Enables.off, queue := [], lost := 0 }

def Composer.fresh : Composer := { queue := [], current := none, serviceCount := 0 }

/-- A free ticket record (R128). -/
def TicketRec.fresh : TicketRec := { state := .free, count := 0, age := 0 }

def TicketUnit.fresh : TicketUnit where
  next := 0
  recs := Vector.replicate 100 TicketRec.fresh
  waiting := []
  calling := []
  skipped := []

/-- The state every reset leaves around a retained store, a clock and the notices: 11.5. -/
def State.afterReset (pending : List Instr) (ret : Retained) (clock : Clock)
    (notices : NoticeQueue) (free : Nat) : State where
  pending := pending
  ret := ret
  clock := clock
  ports := Vector.ofFn fun p => Port.fresh ret.cal[p]
  uplink := Uplink.fresh
  notices := notices
  staged := []
  commit := .editing
  dayState := .trading
  composer := Composer.fresh
  log := []
  tickets := TicketUnit.fresh
  orders := []
  free := free

/-- The hub right after its first power-up: every retained area at its empty state, none found
failed, all volatile state as 11.5 gives it, and no command waiting. -/
def State.reset : State :=
  State.afterReset [] Retained.empty Clock.powerUp NoticeQueue.fresh 0

end Sys2Proof.Machine
end

