-- ==== Sys2Proof/Machine/Operands.lean ====
section
/-! DEFINITION. Plain values: rounding, saturation, dates, text renderings, barcode digits, byte forms
and the frame check, as the manual defines them. -/

namespace Sys2Proof.Machine

/-! ### Rounding (00 Rounding) and bounded numbers -/

/-- `num / den` rounded half away from zero. -/
def roundHalfAway (num : Int) (den : Nat) : Int :=
  let q : Nat := (2 * num.natAbs + den) / (2 * den)
  if num < 0 then -(q : Int) else (q : Int)

/-- `num / den` rounded half up, for values that are never negative. -/
def roundHalfUp (num den : Nat) : Nat := (2 * num + den) / (2 * den)

/-- A saturating count raised by `n` (00 Counts that saturate). -/
def satUp (top x n : Nat) : Nat := min top (x + n)

/-- A clamped setting (R200). -/
def clamp (lo hi x : Nat) : Nat := if x < lo then lo else if hi < x then hi else x

/-- Replace entry `i` of a vector by `f` of it; a number outside the vector changes nothing. -/
def modifyEntry {α : Type} {n : Nat} (v : Vector α n) (i : Nat) (f : α → α) : Vector α n :=
  if h : i < n then v.set i (f v[i]) else v

/-- Entry `i` of a vector of optional records; absent outside the vector. -/
def entryAt {α : Type} {n : Nat} (v : Vector (Option α) n) (i : Nat) : Option α :=
  if h : i < n then v[i] else none

/-- Insertion sort of items by a key: a reordering of its list whatever the keys are. -/
def insertBy {α : Type} (key : α → Nat) (x : α) : List α → List α
  | [] => [x]
  | y :: ys => if key x ≤ key y then x :: y :: ys else y :: insertBy key x ys

def sortBy {α : Type} (key : α → Nat) : List α → List α
  | [] => []
  | x :: xs => insertBy key x (sortBy key xs)

/-! ### Dates (00 Dates and time) -/

def isLeap (year : Nat) : Bool := year % 4 == 0

def daysInMonth (year month : Nat) : Nat :=
  if month = 2 then (if isLeap year then 29 else 28)
  else if month = 4 ∨ month = 6 ∨ month = 9 ∨ month = 11 then 30 else 31

/-- A date of the manual's range that exists in its month (R202). -/
def dateValid (d : Date) : Bool :=
  2000 ≤ d.year && d.year ≤ 2099 && 1 ≤ d.month && d.month ≤ 12 &&
    1 ≤ d.day && d.day ≤ daysInMonth d.year d.month

/-- The next day of the calendar (R93, R201). -/
def nextDate (d : Date) : Date :=
  if d.day < daysInMonth d.year d.month then { d with day := d.day + 1 }
  else if d.month < 12 then { d with month := d.month + 1, day := 1 }
  else ⟨d.year + 1, 1, 1⟩

def addDays (d : Date) : Nat → Date
  | 0 => d
  | n + 1 => addDays (nextDate d) n

/-- `a` is an earlier date than `b`. -/
def dateBefore (a b : Date) : Bool :=
  a.year < b.year || (a.year == b.year &&
    (a.month < b.month || (a.month == b.month && a.day < b.day)))

/-- The last date of the clock (R201). -/
def lastDate : Date := ⟨2099, 12, 31⟩

/-- The minute of day of a second of day. -/
def minuteOf (second : Nat) : Nat := second / 60

/-- The clock as a record keeps it (R201). -/
def Clock.stamp (c : Clock) : Stamp :=
  { date := if c.valid then some c.date else none, second := c.second }

/-! ### Renderings (R91) -/

/-- Exactly `k` decimal digits of `n`, leading zeros kept. -/
def fixedDigits : Nat → Nat → List Nat
  | 0, _ => []
  | k + 1, n => fixedDigits k (n / 10) ++ [n % 10]

/-- The decimal digits of `n` with no leading zeros; `fuel` bounds their number. -/
def decDigitsFuel : Nat → Nat → List Nat
  | 0, n => [n % 10]
  | k + 1, n => if n < 10 then [n] else decDigitsFuel k (n / 10) ++ [n % 10]

def decDigits (n : Nat) : List Nat := decDigitsFuel n n

/-- A digit's internal code: 48 to 57. -/
def digitCode (d : Nat) : Byte := BitVec.ofNat 8 (48 + d)

def pointCode : Byte := 46
def spaceCode : Byte := 32

def renderInt (n : Nat) : Text := (decDigits n).map digitCode
def renderFixed (k n : Nat) : Text := (fixedDigits k n).map digitCode

/-- Grams as kilograms with three decimals. -/
def renderWeight (g : Nat) : Text := renderInt (g / 1000) ++ pointCode :: renderFixed 3 (g % 1000)

/-- Cents as units with two decimals. -/
def renderAmount (c : Nat) : Text := renderInt (c / 100) ++ pointCode :: renderFixed 2 (c % 100)

/-- DD.MM.YY, the year less 2000 taken modulo 100 (R93). -/
def renderDate (d : Date) : Text :=
  renderFixed 2 d.day ++ pointCode :: (renderFixed 2 d.month ++
    pointCode :: renderFixed 2 ((d.year - 2000) % 100))

/-- Trailing spaces removed (R95 step 2). -/
def trimRight (t : Text) : Text := (t.reverse.dropWhile (· == spaceCode)).reverse

/-! ### Barcode (R100, R101) -/

/-- Digits weighted 3, 1, 3, 1 from the right end; the list is given rightmost first. -/
def weightedSum : Nat → List Nat → Nat
  | _, [] => 0
  | w, d :: ds => w * d + weightedSum (4 - w) ds

def checkDigit (data : List Nat) : Nat := (10 - weightedSum 3 data.reverse % 10) % 10

def withCheckDigit (data : List Nat) : List Nat := data ++ [checkDigit data]

def itemBarcode (plu final : Nat) : List Nat :=
  withCheckDigit (2 :: (fixedDigits 5 plu ++ fixedDigits 6 final))

def summaryBarcode (order total : Nat) : List Nat :=
  withCheckDigit (9 :: (fixedDigits 4 order ++ fixedDigits 7 total))

/-! ### Byte forms (R181) and the frame check (R183) -/

/-- `k` bytes of `n`, high byte first. -/
def beBytes : Nat → Nat → List Byte
  | 0, _ => []
  | k + 1, n => beBytes k (n / 256) ++ [BitVec.ofNat 8 n]

/-- A number with negative values: two's complement in `k` bytes. -/
def beSigned (k : Nat) (n : Int) : List Byte := beBytes k (n % (256 ^ k : Int)).toNat

/-- A field that may be absent: a byte 0, or a byte 1 and the field. -/
def beOption {α : Type} (f : α → List Byte) : Option α → List Byte
  | none => [0]
  | some x => 1 :: f x

/-- A text: its length, then its codes. -/
def beText (t : Text) : List Byte := BitVec.ofNat 8 t.length :: t

/-- A date: year in two bytes, month, day. -/
def beDate (d : Date) : List Byte := beBytes 2 d.year ++ beBytes 1 d.month ++ beBytes 1 d.day

/-- One bit into the CRC register: shift toward the most significant end, and add the generator 1021
when the bit shifted out differs from the incoming one (R183). -/
def crcBit (r : BitVec 16) (bit : Bool) : BitVec 16 :=
  if r.msb == bit then r <<< 1 else (r <<< 1) ^^^ 0x1021#16

/-- One byte into the register, most significant bit first. -/
def crcByte (r : BitVec 16) (b : Byte) : BitVec 16 :=
  [7, 6, 5, 4, 3, 2, 1, 0].foldl (fun acc i => crcBit acc (b.getLsbD i)) r

/-- The check over a list of bytes; the register starts at all ones. -/
def crc16 (bytes : List Byte) : BitVec 16 := bytes.foldl crcByte 0xFFFF#16

/-- The two check bytes, high byte first. -/
def crcBytes (bytes : List Byte) : List Byte :=
  [(crc16 bytes).extractLsb' 8 8, (crc16 bytes).extractLsb' 0 8]

/-- A whole frame: Length, Port, Kind, Tag, payload, check (10.2). -/
def frameBytes (port kind tag : Nat) (payload : List Byte) : List Byte :=
  let body := BitVec.ofNat 8 (payload.length + 6) :: BitVec.ofNat 8 port ::
    BitVec.ofNat 8 kind :: BitVec.ofNat 8 tag :: payload
  body ++ crcBytes body

/-! ### Numbers of enumerated values -/

/-- Signed value of three bytes in two's complement. -/
def signed24 (n : Nat) : Int := if n < 8388608 then (n : Int) else (n : Int) - 16777216

end Sys2Proof.Machine
end

