-- ==== Sys2Proof/Machine/Scale.lean ====
section
/-! DEFINITION. The weighing unit's arithmetic: from converter counts to a weight result, zero and
tare (chapter 2), over one calibration record and one weighing context. -/

namespace Sys2Proof.Machine

/-- The division of the top range: e2 on a two-range scale, else e1 (2.1). -/
def eTop (cal : CalFields) : Nat := if 0 < cal.max1 then cal.e2 else cal.e1

/-- Sum of the window (R26). -/
def windowSum (w : WeighCtx) : Int := w.window.foldl (· + ·) 0

/-- The gross in tenths (R27). -/
def grossOf (cal : CalFields) (sum zo : Int) : Int :=
  roundHalfAway ((sum - cal.window * (cal.zero + zo)) * cal.mult) (cal.window * 65536)

/-- The limits of stage 4 (R28), in tenths. -/
def overloadLimit (cal : CalFields) : Int := 10 * (cal.max + 9 * eTop cal)
def underloadLimit (cal : CalFields) : Int := -(200 * cal.e1)

/-- The window average in counts (R30). -/
def windowAverage (cal : CalFields) (sum : Int) : Int := roundHalfAway sum cal.window

/-- The zero limit (R30): |(Zo - Zi) × M ÷ 65,536| at most 10 × Max × 2 ÷ 100 tenths, exactly. -/
def meetsZeroLimit (cal : CalFields) (zo zi : Int) : Bool :=
  (zo - zi).natAbs * cal.mult * 100 ≤ 10 * cal.max * 2 * 65536

/-- The initial zero range (R31), in tenths. -/
def inZeroRange (cal : CalFields) (gross : Int) : Bool :=
  gross.natAbs * 100 ≤ 10 * cal.max * 10

/-- A gross within ±5 × e1 tenths (R33, R35, R41). -/
def nearZero (cal : CalFields) (gross : Int) : Bool := gross.natAbs ≤ 5 * cal.e1

/-- The range of a weight, by its magnitude (R39). -/
def rangeOf (cal : CalFields) (x : Int) : WeighRange :=
  if cal.max1 = 0 ∨ x.natAbs ≤ 10 * cal.max1 then .one else .two

/-- The division of a range (R39). -/
def divisionOf (cal : CalFields) : WeighRange → Nat
  | .one => cal.e1
  | .two => cal.e2

/-- A state's own message (R40 check 1, R41). -/
def stateMessage : WeighState → Option MsgCode
  | .noCal => some .noCal
  | .noData => some .noData
  | .initialZero => some .noZero
  | .overload => some .overload
  | .underload => some .underload
  | .motion => none
  | .stable => none

/-- Stages 10 to 12: net, ranges and the displayed net (R38, R39). -/
def weightsOf (cal : CalFields) (tare : Tare) (gross : Int) (stable : Bool) : Weights :=
  let net := gross - 10 * (tare.value : Int)
  let r := rangeOf cal net
  let e := divisionOf cal r
  { gross := gross, net := net, d := e * roundHalfAway net (10 * e), netRange := r,
    grossRange := rangeOf cal gross, stable := stable }

/-- Stage 13: the first check of R40 that fails. -/
def priceableMessage (cal : CalFields) (state : WeighState) (w : Weights) : Option MsgCode :=
  match stateMessage state with
  | some m => some m
  | none =>
    if state ≠ .stable then some .notStable
    else if w.gross > 10 * (cal.max : Int) then some .overMax
    else if w.d < 20 * (cal.e1 : Int) then some .underMin
    else none

/-- The weight result of an in-limit gross (R41). -/
def resultOf (cal : CalFields) (state : WeighState) (tare : Tare) (gross : Int) (stable : Bool) :
    WeightResult :=
  let w := weightsOf cal tare gross stable
  { state := state, weights := some w, message := priceableMessage cal state w }

/-- A result with no weights: it fails check 1 of R40 with the state's own message. -/
def blankResult (state : WeighState) : WeightResult :=
  { state := state, weights := none, message := some ((stateMessage state).getD .noData) }

/-- Stage 5: the band with a gross appended (R29). -/
def pushBand (cal : CalFields) (band : List Int) (gross : Int) : List Int :=
  (band ++ [gross]).drop ((band ++ [gross]).length - cal.stability)

/-- A full band whose spread is at most 5 × e1 tenths (R29). -/
def bandStable (cal : CalFields) (band : List Int) : Bool :=
  band.length == cal.stability &&
    band.all fun a => band.all fun b => a - b ≤ 5 * (cal.e1 : Int)

/-- Zero tracking (R33): the offset after a result. -/
def trackedZero (cal : CalRecord) (sum gross : Int) (state : WeighState) (w : WeighCtx) : Int :=
  let zo := windowAverage cal.toCalFields sum - cal.zero
  if cal.tracking ∧ state = .stable ∧ w.tare.kind = .none ∧ nearZero cal.toCalFields gross ∧
      meetsZeroLimit cal.toCalFields zo w.zi then zo
  else w.zo

/-- Stages 3 to 13 but for the initial zero (R27 to R30, R33, R38 to R40). -/
def weighPass (cal : CalRecord) (sum : Int) (w : WeighCtx) : WeighCtx :=
  let gross := grossOf cal.toCalFields sum w.zo
  if gross > overloadLimit cal.toCalFields then
    { w with state := .overload, band := [], latest := some (blankResult .overload) }
  else if gross < underloadLimit cal.toCalFields then
    { w with state := .underload, band := [], latest := some (blankResult .underload) }
  else
    let band := pushBand cal.toCalFields w.band gross
    let stable := bandStable cal.toCalFields band
    let state : WeighState :=
      if w.pendingZero then .initialZero else if stable then .stable else .motion
    { w with
      state := state
      band := band
      zo := trackedZero cal sum gross state w
      latest := some (resultOf cal.toCalFields state w.tare gross stable) }

/-- The weights a context's latest result carries. -/
def latestWeights (w : WeighCtx) : Option Weights := w.latest.bind (·.weights)

/-- The initial zero (R31), taken on a context that a pass has just left. -/
def initialZero (cal : CalRecord) (sum : Int) (w : WeighCtx) : WeighCtx :=
  match latestWeights w with
  | none => w
  | some x =>
    if w.pendingZero ∧ x.stable ∧ inZeroRange cal.toCalFields x.gross then
      let zo := windowAverage cal.toCalFields sum - cal.zero
      weighPass cal sum { w with zo := zo, zi := zo, pendingZero := false, band := [] }
    else w

/-- A full window weighed, clipping first (R26). -/
def weighWindow (cal : CalRecord) (w : WeighCtx) : WeighCtx :=
  if w.window.contains Config.clipHigh then
    { w with state := .overload, band := [], latest := some (blankResult .overload) }
  else if w.window.contains Config.clipLow then
    { w with state := .underload, band := [], latest := some (blankResult .underload) }
  else initialZero cal (windowSum w) (weighPass cal (windowSum w) w)

/-- The window length in use: W, or 16 in NO_CAL (R24). -/
def windowLength (cal : Option CalRecord) : Nat :=
  match cal with
  | none => 16
  | some c => c.window

/-- Samples pushed oldest first into a window of the given length (R24). -/
def pushWindow (len : Nat) (window samples : List Int) : List Int :=
  (window ++ samples).drop ((window ++ samples).length - len)

/-- A sample frame at a weighing context (R24). -/
def takeSamples (cal : Option CalRecord) (samples : List Int) (w : WeighCtx) : WeighCtx :=
  let w1 := { w with window := pushWindow (windowLength cal) w.window samples, gapRunning := true }
  match cal with
  | none => { w1 with state := .noCal, latest := none }
  | some c =>
    if w1.window.length < c.window then
      let st : WeighState := if w1.pendingZero then .initialZero else .noData
      { w1 with state := st, latest := some (blankResult st) }
    else weighWindow c w1

/-- The result a context reports to the station: its latest result, or in NO_CAL, where none is kept,
a result with that state (R24). -/
def reportedResult (w : WeighCtx) : WeightResult := w.latest.getD (blankResult w.state)

/-- The sample gap expiry (R25). -/
def sampleGap (cal : Option CalRecord) (w : WeighCtx) : WeighCtx :=
  let st : WeighState :=
    if cal.isNone then .noCal else if w.pendingZero then .initialZero else .noData
  { w with window := [], band := [], gapRunning := false, state := st,
           latest := some (blankResult st) }

/-- The ZERO key (R32): the context after an accepted key, or the refusal. -/
def zeroKey (cal : Option CalRecord) (w : WeighCtx) : Except MsgCode WeighCtx :=
  match cal with
  | none => .error .noCal
  | some c =>
    let zo := windowAverage c.toCalFields (windowSum w) - c.zero
    if w.state ≠ .stable then .error .notStable
    else if w.tare.kind ≠ .none then .error .tareActive
    else if !meetsZeroLimit c.toCalFields zo w.zi then .error .zeroRange
    else .ok (weighPass c (windowSum w) { w with zo := zo, band := [] })

def noTare : Tare := { kind := .none, value := 0 }

/-- The limits of R34 on a tare of `t` grams: the refusal, if any. -/
def tareRefusal (cal : CalFields) (t : Nat) : Option MsgCode :=
  if t % cal.e1 ≠ 0 then some .tareInvalid
  else if 2 * t > cal.max then some .tareRange
  else none

/-- The TARE key (R35): the tare it leaves, or the refusal. -/
def tareKey (cal : Option CalRecord) (w : WeighCtx) : Except MsgCode Tare :=
  match cal with
  | none => .error .noCal
  | some c =>
    match w.state, latestWeights w with
    | .stable, some x =>
      if nearZero c.toCalFields x.gross then .ok noTare
      else if 0 < x.gross then
        let t := c.e1 * (roundHalfAway x.gross (10 * c.e1)).toNat
        if 2 * t > c.max then .error .tareRange else .ok { kind := .weighed, value := t }
      else .error .tareInvalid
    | _, _ => .error .notStable

/-- The KEYED_TARE key (R36). -/
def keyedTareKey (cal : Option CalRecord) (t : Nat) : Except MsgCode Tare :=
  match cal with
  | none => .error .noCal
  | some c =>
    if t = 0 then .ok noTare
    else
      match tareRefusal c.toCalFields t with
      | some m => .error m
      | none => .ok { kind := .keyed, value := t }

/-- Stages 11 to 13 again on the latest gross with the tare now in force (R38); `none` where no
in-limit result stands. -/
def reweigh (cal : Option CalRecord) (w : WeighCtx) : Option WeightResult :=
  match cal, w.latest with
  | some c, some r => r.weights.map fun x => resultOf c.toCalFields r.state w.tare x.gross x.stable
  | _, _ => none

end Sys2Proof.Machine
end

