-- ==== Sys2Proof/Machine/Price.lean ====
section
/-! DEFINITION. Pricing arithmetic: markdown in force, base, markdown amount, final price and its limits
(chapter 3). -/

namespace Sys2Proof.Machine

/-- The markdown percent in force when a snapshot opens (R45). -/
def percentInForce (m : Option Markdown) (c : Clock) : Nat :=
  match m with
  | none => 0
  | some k =>
    if c.valid ∧ k.start ≤ minuteOf c.second ∧ minuteOf c.second < k.stop then k.percent else 0

/-- Grams that one unit price covers: a kilogram, or 100 g (R49). -/
def basisGrams (b : Option PriceBasis) : Nat :=
  match b with
  | some .per100g => 100
  | _ => 1000

/-- Markdown amount and final of a base (R51). -/
def amountsOf (base percent : Nat) : Amounts :=
  let m := roundHalfUp (base * percent) 100
  { base := base, markdown := m, final := base - m }

/-- The limits of a label price (R51). -/
def priceMessage (final : Nat) : Option MsgCode :=
  if final > Config.maxFinal then some .overPrice
  else if final = 0 then some .zeroPrice
  else none

/-- A live price with amounts (R51). -/
def priced (base percent : Nat) : LivePrice :=
  { amounts := some (amountsOf base percent),
    message := priceMessage (amountsOf base percent).final }

/-- A live price without amounts (R49). -/
def unpriced (m : MsgCode) : LivePrice := { amounts := none, message := some m }

/-- The displayed net a BY_WEIGHT sale is priced from, or the message that stands in the way (R49). -/
def priceableNet (latest : Option WeightResult) : Except MsgCode Nat :=
  match latest with
  | none => .error .noData
  | some r =>
    match r.message, r.weights with
    | some m, _ => .error m
    | none, none => .error .noData
    | none, some w => .ok w.d.toNat

/-- The live price of a snapshot (R48 to R51). -/
def livePrice (sn : Snapshot) (latest : Option WeightResult) : LivePrice :=
  match sn.item.mode with
  | .byWeight =>
    match priceableNet latest with
    | .error m => unpriced m
    | .ok d => priced (roundHalfUp (d * sn.item.price) (basisGrams sn.item.basis)) sn.percent
  | .byCount => priced (sn.quantity * sn.item.price) sn.percent
  | .fixed => priced sn.item.price sn.percent

end Sys2Proof.Machine
end

