-- ==== Sys2Proof/Machine/Ledger.lean ====
section
/-! DEFINITION. The accumulators: saturating additions and reversals, and the five groups a sale is
counted in (chapter 9). -/

namespace Sys2Proof.Machine

/-- One accumulator moved by `n`, up or down (R164): an addition stops at the top, a reversal leaves a
saturated accumulator and does not pass 0. -/
def accMove (up : Bool) (top x n : Nat) : Nat :=
  if up then (if top < x + n then top else x + n)
  else if top ≤ x then x else x - n

/-- Whether that movement sets the group's saturated mark (R164). -/
def accMarks (up : Bool) (top x n : Nat) : Bool :=
  if up then decide (top < x + n) else decide (x < top ∧ x < n)

def ItemTotals.move (up : Bool) (g d : ItemTotals) : ItemTotals where
  items := accMove up Config.countTop g.items d.items
  weight := accMove up Config.valueTop g.weight d.weight
  count := accMove up Config.countTop g.count d.count
  value := accMove up Config.valueTop g.value d.value
  markdown := accMove up Config.valueTop g.markdown d.markdown
  mark := g.mark || accMarks up Config.countTop g.items d.items ||
    accMarks up Config.valueTop g.weight d.weight || accMarks up Config.countTop g.count d.count ||
    accMarks up Config.valueTop g.value d.value || accMarks up Config.valueTop g.markdown d.markdown

/-- The totals part is all zero (R83): its mark is no accumulator. -/
def ItemTotals.allZero (g : ItemTotals) : Bool :=
  g.items == 0 && g.weight == 0 && g.count == 0 && g.value == 0 && g.markdown == 0

/-- The grand group moved by the accumulators of `d`; the largest wait is kept by comparison (R145). -/
def GrandTotals.move (up : Bool) (g d : GrandTotals) : GrandTotals where
  items := accMove up Config.countTop g.items d.items
  value := accMove up Config.valueTop g.value d.value
  markdown := accMove up Config.valueTop g.markdown d.markdown
  voids := accMove up Config.countTop g.voids d.voids
  voidValue := accMove up Config.valueTop g.voidValue d.voidValue
  unprintedVoids := accMove up Config.countTop g.unprintedVoids d.unprintedVoids
  reprints := accMove up Config.countTop g.reprints d.reprints
  staleSales := accMove up Config.countTop g.staleSales d.staleSales
  forcedCancels := accMove up Config.countTop g.forcedCancels d.forcedCancels
  offlineCancels := accMove up Config.countTop g.offlineCancels d.offlineCancels
  ordersClosed := accMove up Config.countTop g.ordersClosed d.ordersClosed
  ordersAbandoned := accMove up Config.countTop g.ordersAbandoned d.ordersAbandoned
  ordersClosedByDay := accMove up Config.countTop g.ordersClosedByDay d.ordersClosedByDay
  ticketsIssued := accMove up Config.countTop g.ticketsIssued d.ticketsIssued
  ticketsServed := accMove up Config.countTop g.ticketsServed d.ticketsServed
  ticketsSkipped := accMove up Config.countTop g.ticketsSkipped d.ticketsSkipped
  ticketsDiscarded := accMove up Config.countTop g.ticketsDiscarded d.ticketsDiscarded
  waitSeconds := accMove up Config.countTop g.waitSeconds d.waitSeconds
  largestWait := max g.largestWait d.largestWait
  mark := g.mark || accMarks up Config.countTop g.items d.items ||
    accMarks up Config.valueTop g.value d.value ||
    accMarks up Config.valueTop g.markdown d.markdown ||
    accMarks up Config.countTop g.voids d.voids ||
    accMarks up Config.valueTop g.voidValue d.voidValue ||
    accMarks up Config.countTop g.unprintedVoids d.unprintedVoids ||
    accMarks up Config.countTop g.reprints d.reprints ||
    accMarks up Config.countTop g.staleSales d.staleSales ||
    accMarks up Config.countTop g.forcedCancels d.forcedCancels ||
    accMarks up Config.countTop g.offlineCancels d.offlineCancels ||
    accMarks up Config.countTop g.ordersClosed d.ordersClosed ||
    accMarks up Config.countTop g.ordersAbandoned d.ordersAbandoned ||
    accMarks up Config.countTop g.ordersClosedByDay d.ordersClosedByDay ||
    accMarks up Config.countTop g.ticketsIssued d.ticketsIssued ||
    accMarks up Config.countTop g.ticketsServed d.ticketsServed ||
    accMarks up Config.countTop g.ticketsSkipped d.ticketsSkipped ||
    accMarks up Config.countTop g.ticketsDiscarded d.ticketsDiscarded ||
    accMarks up Config.countTop g.waitSeconds d.waitSeconds

def StationTotals.move (up : Bool) (g d : StationTotals) : StationTotals where
  items := accMove up Config.countTop g.items d.items
  value := accMove up Config.valueTop g.value d.value
  labelsPrinted := accMove up Config.countTop g.labelsPrinted d.labelsPrinted
  reprints := accMove up Config.countTop g.reprints d.reprints
  voids := accMove up Config.countTop g.voids d.voids
  unprintedVoids := accMove up Config.countTop g.unprintedVoids d.unprintedVoids
  forcedCancels := accMove up Config.countTop g.forcedCancels d.forcedCancels
  offlineCancels := accMove up Config.countTop g.offlineCancels d.offlineCancels
  mark := g.mark || accMarks up Config.countTop g.items d.items ||
    accMarks up Config.valueTop g.value d.value ||
    accMarks up Config.countTop g.labelsPrinted d.labelsPrinted ||
    accMarks up Config.countTop g.reprints d.reprints ||
    accMarks up Config.countTop g.voids d.voids ||
    accMarks up Config.countTop g.unprintedVoids d.unprintedVoids ||
    accMarks up Config.countTop g.forcedCancels d.forcedCancels ||
    accMarks up Config.countTop g.offlineCancels d.offlineCancels

def OperatorTotals.move (up : Bool) (g d : OperatorTotals) : OperatorTotals where
  items := accMove up Config.countTop g.items d.items
  value := accMove up Config.valueTop g.value d.value
  voids := accMove up Config.countTop g.voids d.voids
  voidValue := accMove up Config.valueTop g.voidValue d.voidValue
  mark := g.mark || accMarks up Config.countTop g.items d.items ||
    accMarks up Config.valueTop g.value d.value || accMarks up Config.countTop g.voids d.voids ||
    accMarks up Config.valueTop g.voidValue d.voidValue

def DepartmentTotals.move (up : Bool) (g d : DepartmentTotals) : DepartmentTotals where
  items := accMove up Config.countTop g.items d.items
  value := accMove up Config.valueTop g.value d.value
  markdown := accMove up Config.valueTop g.markdown d.markdown
  mark := g.mark || accMarks up Config.countTop g.items d.items ||
    accMarks up Config.valueTop g.value d.value ||
    accMarks up Config.valueTop g.markdown d.markdown

/-- What a sale moves in its item group (R165): weight for BY_WEIGHT, count for BY_COUNT. -/
def saleItemDelta (sr : SaleRecord) : ItemTotals where
  items := 1
  weight := if sr.item.mode = .byWeight then sr.quantity else 0
  count := if sr.item.mode = .byCount then sr.quantity else 0
  value := sr.amounts.final
  markdown := sr.amounts.markdown

/-- The item table with one record's totals part changed. -/
def withItemTotals (plu : Nat) (f : ItemTotals → ItemTotals) (items : List ItemRecord) :
    List ItemRecord :=
  items.map fun r => if r.item.plu = plu then { r with totals := f r.totals } else r

def Totals.atGrand (f : GrandTotals → GrandTotals) (t : Totals) : Totals :=
  { t with grand := f t.grand }

def Totals.atStation (p : CounterPort) (f : StationTotals → StationTotals) (t : Totals) : Totals :=
  { t with stations := t.stations.set p (f t.stations[p]) }

def Totals.atOperator (n : Option OperatorNo) (f : OperatorTotals → OperatorTotals) (t : Totals) :
    Totals :=
  match n with
  | none => t
  | some k => { t with operators := t.operators.set k (f t.operators[k]) }

def Totals.atDepartment (n : Nat) (f : DepartmentTotals → DepartmentTotals) (t : Totals) : Totals :=
  { t with departments := modifyEntry t.departments (n - 1) f }

/-- The sale of a sale record added to, or reversed from, its five groups (R165, R167). -/
def moveSale (up : Bool) (sr : SaleRecord) (ret : Retained) : Retained :=
  let f := sr.amounts.final
  let m := sr.amounts.markdown
  { ret with
    items := withItemTotals sr.item.plu (ItemTotals.move up · (saleItemDelta sr)) ret.items
    totals := ret.totals
      |>.atDepartment sr.item.department (DepartmentTotals.move up · { items := 1, value := f, markdown := m })
      |>.atOperator sr.operator (OperatorTotals.move up · { items := 1, value := f })
      |>.atStation sr.station (StationTotals.move up · { items := 1, value := f })
      |>.atGrand (GrandTotals.move up · { items := 1, value := f, markdown := m }) }

/-- Counts raised in the grand group. -/
def countGrand (d : GrandTotals) (ret : Retained) : Retained :=
  { ret with totals := ret.totals.atGrand (GrandTotals.move true · d) }

/-- Counts raised in a station's group. -/
def countStation (p : CounterPort) (d : StationTotals) (ret : Retained) : Retained :=
  { ret with totals := ret.totals.atStation p (StationTotals.move true · d) }

/-- Counts raised in an operator's group. -/
def countOperator (n : Option OperatorNo) (d : OperatorTotals) (ret : Retained) : Retained :=
  { ret with totals := ret.totals.atOperator n (OperatorTotals.move true · d) }

/-- Some group of the totals carries its mark. -/
def Totals.anyMark (t : Totals) : Bool :=
  t.grand.mark || t.stations.toList.any (·.mark) || t.operators.toList.any (·.mark) ||
    t.departments.toList.any (·.mark)

end Sys2Proof.Machine
end

