-- ==== Sys2Proof/Machine/ItemTable.lean ====
section
/-! DEFINITION. The item table and the pending list as plain data: lookup, validity of entries, staging,
the capacity count and the application of entries (chapter 4). -/

namespace Sys2Proof.Machine

/-- The record of a PLU number. -/
def itemOf (items : List ItemRecord) (plu : Nat) : Option ItemRecord :=
  items.find? fun r => r.item.plu == plu

/-- Put a record into the table, which stands in ascending order of PLU number: it replaces the record
of its number or joins at its place. -/
def insertItem (r : ItemRecord) : List ItemRecord → List ItemRecord
  | [] => [r]
  | x :: xs =>
    if r.item.plu < x.item.plu then r :: x :: xs
    else if r.item.plu = x.item.plu then r :: xs
    else x :: insertItem r xs

/-- The PLU number an entry names. -/
def entryPlu : StageEntry → Nat
  | .put f _ => f.plu
  | .delete n => n

def pluInRange (n : Nat) : Bool := 1 ≤ n && n ≤ Config.maxPlu

/-- The conditions of R65 on the fields of a PUT entry. -/
def itemValid (f : ItemFields) : Bool :=
  pluInRange f.plu && f.price ≤ 999999 && f.presetTare ≤ 15000 &&
    1 ≤ f.department && f.department ≤ 32 && 1 ≤ f.template && f.template ≤ 16 &&
    1 ≤ f.name.length && f.name.length ≤ 24 &&
    (f.basis.isSome == decide (f.mode = .byWeight)) &&
    f.extra.all (fun t => 1 ≤ t.length && t.length ≤ 32) && f.sellBy.all (fun d => d ≤ 365)

def markdownValid (m : Markdown) : Bool :=
  1 ≤ m.percent && m.percent ≤ 90 && m.start ≤ 1439 && 1 ≤ m.stop && m.stop ≤ 1440 &&
    m.start < m.stop

/-- An entry is valid, judged from itself alone (R65). -/
def entryValid : StageEntry → Bool
  | .put f m => itemValid f && m.all markdownValid
  | .delete n => pluInRange n

/-- The number, from 1, of the first entry that is not valid (R69). -/
def firstInvalid (block : List StageEntry) : Option Nat :=
  (block.findIdx? fun e => !entryValid e).map (· + 1)

/-- One entry taken into the pending list: in the place of the entry that holds its PLU number, or at
the end (R68). -/
def stageOne (e : StageEntry) : List StageEntry → List StageEntry
  | [] => [e]
  | x :: xs => if entryPlu x = entryPlu e then e :: xs else x :: stageOne e xs

/-- A block taken in block order (R69). -/
def stageAll (block list : List StageEntry) : List StageEntry :=
  block.foldl (fun l e => stageOne e l) list

/-- The capacity count (R74). -/
def capacityCount (items : List ItemRecord) (staged : List StageEntry) : Nat :=
  items.length + (staged.filter fun e =>
    match e with
    | .put f _ => (itemOf items f.plu).isNone
    | .delete _ => false).length

/-- A PUT entry applied (R82). -/
def applyPut (f : ItemFields) (m : Option Markdown) (items : List ItemRecord) :
    List ItemRecord × EntryEffect :=
  match itemOf items f.plu with
  | none => (insertItem { item := f, markdown := m, status := .live, totals := {} } items, .added)
  | some r =>
    (insertItem { item := f, markdown := m, status := .live, totals := r.totals } items, .replaced)

/-- A DELETE entry applied (R83); `openPlus` are the PLU numbers that open snapshots name. -/
def applyDelete (openPlus : List Nat) (n : Nat) (items : List ItemRecord) :
    List ItemRecord × EntryEffect :=
  match itemOf items n with
  | none => (items, .noRecord)
  | some r =>
    if r.totals.allZero && !openPlus.contains n then
      (items.filter fun x => x.item.plu != n, .removed)
    else (insertItem { r with status := .retired } items, .retired)

/-- The entries applied one after another, with what each did (R82, R83, R85). -/
def applyEntries (openPlus : List Nat) : List StageEntry → List ItemRecord →
    List ItemRecord × List EntryEffect
  | [], items => (items, [])
  | e :: es, items =>
    let (items1, eff) :=
      match e with
      | .put f m => applyPut f m items
      | .delete n => applyDelete openPlus n items
    let (items2, effs) := applyEntries openPlus es items1
    (items2, eff :: effs)

/-- Records of a PLU range in ascending order, at most a block of them, and where to go on: the number just after
the last of them, as R67 says of PLU_READ. R170 does not say which number a TOTALS_READ names, and takes the same
(DESIGN CHOICE, log 44). -/
def itemPage (items : List ItemRecord) (first last : Nat) : List ItemRecord × Option Nat :=
  let all := items.filter fun r => first ≤ r.item.plu && r.item.plu ≤ last
  let page := all.take Config.blockSize
  (page, if all.length ≤ Config.blockSize then none else page.getLast?.map (·.item.plu + 1))

end Sys2Proof.Machine
end

