-- ==== Sys2Proof/Machine/Flags.lean ====
section
/-! DEFINITION. What a scale station is shown: the status message, the indicators and the whole DISPLAY
frame (R17, R18), computed from the state after an event. -/

namespace Sys2Proof.Machine

def State.port (s : State) (p : CounterPort) : Port := s.ports[p]

/-- G - 1, modulo 65,536 (00 Generation). -/
def prevGen (g : Nat) : Nat := (g + 65535) % 65536

/-- G raised by a completed commit (R84). -/
def nextGen (g : Nat) : Nat := (g + 1) % 65536

/-- The order OPEN at a station (R146). -/
def orderOpenAt (orders : List Order) (p : CounterPort) : Option Order :=
  orders.find? fun o => decide (o.state = .openAt p)

/-- The live order of a number. -/
def orderOf (orders : List Order) (n : Nat) : Option Order := orders.find? fun o => o.number == n

/-- Calibration is pending: the switch is ON in ITEM or PRINTING (R12). -/
def calPending (c : Port) : Bool :=
  decide (c.calSwitch = .on) && (decide (c.sale = .item) || decide (c.sale = .printing))

/-- The message of the live price, where there is one. -/
def liveMessage (c : Port) : Option MsgCode := c.snapshot.bind fun sn => sn.live.bind (·.message)

/-- The status message of a station in ITEM (R52). -/
def itemMessage (c : Port) : Option MsgCode :=
  match c.snapshot with
  | none => none
  | some sn =>
    match sn.item.mode with
    | .byWeight => liveMessage c
    | .byCount => (liveMessage c).or (stateMessage c.weigh.state)
    | .fixed => (liveMessage c).or (stateMessage c.weigh.state)

/-- The status message (R18). -/
def statusMessage (c : Port) : Option MsgCode :=
  match c.sale with
  | .noOperator => some .loginRequired
  | .calibrating => some .calMode
  | .item => if calPending c then some .calPending else itemMessage c
  | .printing => if calPending c then some .calPending else stateMessage c.weigh.state
  | .idle => stateMessage c.weigh.state

/-- The message code shown: the held message when one stands (R18). -/
def shownMessage (c : Port) : Option MsgCode := c.held.or (statusMessage c)

def weightText (c : Port) : WeightText :=
  match latestWeights c.weigh with
  | none => .blank
  | some w => if c.sale = .calibrating then .tenths w.gross else .kilograms w.d

/-- Item name and unit price are shown in ITEM, and in PRINTING while a snapshot is open. -/
def shownSnapshot (c : Port) : Option Snapshot :=
  match c.sale with
  | .item => c.snapshot
  | .printing => c.snapshot
  | _ => none

/-- The total price (R17): the live final when it has no message, the frozen final, or the order total
while a summary job is in flight. -/
def shownTotal (orders : List Order) (p : CounterPort) (c : Port) : Option Nat :=
  match c.sale with
  | .item =>
    c.snapshot.bind fun sn => sn.live.bind fun l =>
      if l.message.isNone then l.amounts.map (·.final) else none
  | .printing =>
    match c.record with
    | some r => some r.amounts.final
    | none => (orderOpenAt orders p).map (·.total)
  | _ => none

/-- The range indicator: the range of the weight shown, always 1 on a single-range scale (R17, R39);
with no weight shown on a two-range scale, or on one with no calibration record, it is a free value (log 17). -/
def shownRange (cal : Option CalRecord) (choice : Nat) (p : CounterPort) (c : Port) : WeighRange :=
  match latestWeights c.weigh with
  | some w => if c.sale = .calibrating then w.grossRange else w.netRange
  | none =>
    if cal.any fun k => k.max1 == 0 then .one
    else if Config.blankRange choice p.number then .one else .two

/-- The zero indicator: STABLE with the gross within ±5 × e1 tenths (R17). -/
def zeroLit (cal : Option CalRecord) (c : Port) : Bool :=
  match cal, latestWeights c.weigh with
  | some k, some w => decide (c.weigh.state = .stable) && nearZero k.toCalFields w.gross
  | _, _ => false

def DayState.isClosing : DayState → Bool
  | .closing _ _ => true
  | .trading => false

/-- The whole display of a scale station (R17). The Net indicator follows the tare record, as R41 has it,
also while no weight is shown, and is dark in CALIBRATING, where the gross is shown (log 16). -/
def displayOf (s : State) (p : CounterPort) : Display :=
  let c := s.port p
  { weight := weightText c
    unitPrice := (shownSnapshot c).map (·.item.price)
    totalPrice := shownTotal s.orders p c
    itemName := (shownSnapshot c).map (·.item.name)
    message := shownMessage c
    stable := decide (c.weigh.state = .stable)
    zero := zeroLit s.ret.cal[p] c
    net := decide (c.weigh.tare.kind ≠ .none) && decide (c.sale ≠ .calibrating)
    tareActive := decide (c.weigh.tare.kind = .weighed) || decide (c.weigh.tare.kind = .keyed)
    range := shownRange s.ret.cal[p] s.free p c
    stalePrice := c.snapshot.any fun sn => sn.generation == prevGen s.ret.generation
    dayClosing := s.dayState.isClosing }

end Sys2Proof.Machine
end

