-- ==== Sys2Proof/Machine/Ops.lean ====
section
/-! DEFINITION. The shared operations on the state: ports and frames, notices, replies, the key gate, the
snapshot's close with the commit it may complete, tickets, orders, slots, the composer queue, the station
offline event and the completion of a day close. Every command's meaning is written over these. -/

namespace Sys2Proof.Machine

/-! ### Ports -/

def State.setPort (s : State) (p : CounterPort) (c : Port) : State :=
  { s with ports := s.ports.set p c }

def modPort (p : CounterPort) (f : Port → Port) (s : State) : State := s.setPort p (f (s.port p))

def modRet (f : Retained → Retained) (s : State) : State := { s with ret := f s.ret }

/-- A port the hub may send to: UP with its station ONLINE (R6). -/
def reachable (c : Port) : Bool := decide (c.state = .up) && c.online

/-- A frame given to a port; not held back for a station that cannot be reached (R6). -/
def deliver (p : CounterPort) (f : OutFrame) (s : State) : State :=
  modPort p (fun c => if reachable c then { c with tx := c.tx ++ [f] } else c) s

/-- A DISPLAY frame falls due at a station (R17). -/
def markDisplay (p : CounterPort) (s : State) : State :=
  modPort p (fun c => { c with displayDue := true }) s

/-- A DISPLAY frame falls due at every station (R17: a change of G or of the day state). -/
def markAllDisplays (s : State) : State :=
  { s with ports := s.ports.map fun c => { c with displayDue := true } }

/-- One port at the end of an event: the one DISPLAY frame it is owed, made from the state after the
event (R17). Only ONLINE scale stations are sent one. -/
def flushPort (s : State) (p : CounterPort) : Port :=
  let c := s.port p
  if c.displayDue then
    if reachable c ∧ c.kind = some .scale then
      { c with displayDue := false, tx := c.tx ++ [.display (displayOf s p)] }
    else { c with displayDue := false }
  else c

/-- The end of an event: every DISPLAY frame due is sent, at most one to a station (R17). So it stands behind the
LABEL and NOW_SERVING frames that the same event gives the port (DESIGN CHOICE, log 42). -/
def flush (s : State) : State := { s with ports := Vector.ofFn (flushPort s) }

/-! ### Error counts (R184) -/

def ErrorCounts.addProtocol (e : ErrorCounts) : ErrorCounts :=
  { e with protocol := satUp Config.max16 e.protocol 1 }

def protocolError (p : CounterPort) (s : State) : State :=
  modPort p (fun c => { c with errors := c.errors.addProtocol }) s

/-- A port's summary error mark (R184). -/
def ErrorCounts.mark (e : ErrorCounts) : Bool := e.check != 0 || e.framing != 0 || e.overrun != 0

/-! ### Notices (R194) -/

/-- The class of a notice is enabled; RETAINED_LOST belongs to none (10.7). -/
def classEnabled (e : Enables) : NoticeBody → Bool
  | .itemIssued _ _ _ _ _ _ => e.label
  | .summaryIssued _ _ _ _ => e.label
  | .labelVoided _ _ _ => e.label
  | .orderClosed _ _ _ _ _ _ _ => e.order
  | .commitApplied _ _ _ _ _ _ _ => e.table
  | .commitTableFull _ => e.table
  | .dayClosed _ _ _ _ _ => e.day
  | .stationState _ _ _ _ => e.station
  | .calChanged _ _ => e.calibration
  | .ticketCalled _ _ _ _ => e.ticket
  | .clockLost _ => e.clock
  | .retainedLost _ => false

/-- A notice taken by the queue, or dropped and counted when 64 stand there (R194). -/
def NoticeQueue.push (q : NoticeQueue) (n : Notice) : NoticeQueue :=
  if q.queue.length < Config.maxNotices then { q with queue := q.queue ++ [n] }
  else { q with lost := satUp Config.maxLost q.lost 1 }

/-- A rule queues a notice (R194): nothing is made unless the master and its class are ON. -/
def notify (b : NoticeBody) (s : State) : State :=
  if s.notices.enables.master ∧ classEnabled s.notices.enables b then
    { s with notices := s.notices.push { stamp := s.clock.stamp, body := b } }
  else s

/-! ### Held message and sale state (R18) -/

/-- A message becomes held. -/
def holdMessage (p : CounterPort) (m : MsgCode) (s : State) : State :=
  modPort p (fun c => { c with held := some m, displayDue := true }) s

/-- An accepted key clears the held message. -/
def clearHeld (p : CounterPort) (s : State) : State :=
  modPort p (fun c => { c with held := none, displayDue := true }) s

/-- A rule moves the sale state and may name a message with the move (R18). -/
def setSale (p : CounterPort) (st : SaleState) (m : Option MsgCode) (s : State) : State :=
  modPort p (fun c =>
    { c with
      sale := st
      held := if c.sale = st ∧ m = none then c.held else m
      displayDue := true }) s

def setService (p : CounterPort) (v : ServiceState) (s : State) : State :=
  modPort p (fun c => { c with service := v }) s

/-- The ticket unit takes an ASKING station off the calling-stations list (R141). -/
def leaveCalling (p : CounterPort) (s : State) : State :=
  if (s.port p).service = .asking then
    setService p .free
      { s with tickets := { s.tickets with calling := s.tickets.calling.filter (· ≠ p) } }
  else s

/-- A rule moves the sale state to IDLE; with the switch ON the station enters CALIBRATING instead
(R12). -/
def toIdle (p : CounterPort) (m : Option MsgCode) (s : State) : State :=
  if (s.port p).calSwitch = .on then setSale p .calibrating m (leaveCalling p s)
  else setSale p .idle m s

/-! ### Weight results and the tare (R38, R41, R48) -/

/-- The weighing unit hands a result to the station context, which prices it in ITEM. In NO_CAL a sample's
result is priced here and no latest result is kept (R24; log 15). -/
def handResult (p : CounterPort) (w : WeighCtx) (r : WeightResult) (s : State) : State :=
  modPort p (fun c =>
    { c with
      weigh := w
      snapshot :=
        if c.sale = .item then c.snapshot.map fun sn => { sn with live := some (livePrice sn (some r)) }
        else c.snapshot
      displayDue := true }) s

/-- The live price computed again from the latest result (R48), NO_DATA in NO_CAL while none is kept
(log 15). -/
def reprice (p : CounterPort) (s : State) : State :=
  modPort p (fun c =>
    { c with
      snapshot := c.snapshot.map fun sn => { sn with live := some (livePrice sn c.weigh.latest) }
      displayDue := true }) s

/-- The tare record changes; an in-limit latest result is weighed again (R38). -/
def applyTare (p : CounterPort) (t : Tare) (s : State) : State :=
  let w := { (s.port p).weigh with tare := t }
  match reweigh s.ret.cal[p] w with
  | some r => handResult p { w with latest := some r } r s
  | none => modPort p (fun c => { c with weigh := w, displayDue := true }) s

/-- A PRESET tare goes with its snapshot (R37). -/
def removePreset (p : CounterPort) (s : State) : State :=
  if (s.port p).weigh.tare.kind = .preset then applyTare p noTare s else s

/-- The preset tare of a new snapshot is offered (R37); the message TARE_INVALID when its limits are
broken. -/
def offerPreset (p : CounterPort) (preset : Nat) (s : State) : State × Option MsgCode :=
  match (s.port p).weigh.tare.kind, s.ret.cal[p] with
  | .weighed, _ => (s, none)
  | .keyed, _ => (s, none)
  | _, none => (s, none)
  | _, some cal =>
    if preset = 0 then (s, none)
    else if (tareRefusal cal.toCalFields preset).isSome then (s, some .tareInvalid)
    else (applyTare p { kind := .preset, value := preset } s, none)

/-! ### Commit completion and snapshot close (R47, R79, R82 to R85) -/

/-- The PLU numbers that open snapshots name (R83). -/
def openPlus (s : State) : List Nat := s.ports.toList.filterMap fun c => c.snapshot.map (·.item.plu)

/-- Open snapshots that carry G - 1 (R78). -/
def staleOpen (s : State) : Nat :=
  (s.ports.toList.filter fun c =>
    c.snapshot.any fun sn => sn.generation == prevGen s.ret.generation).length

/-- The commit in WAITING completes: entries applied, G raised, list emptied, EDITING, COMMIT_DONE and
the refresh (R82 to R85). `named` is the PLU number of a key that is reselecting: its record counts as
named by an open snapshot, since the key goes on to open one of it (log 24). -/
def completeCommit (named : List Nat) (s : State) : State :=
  match s.commit with
  | .waiting d =>
    let r := applyEntries (named ++ openPlus s) s.staged s.ret.items
    let g := nextGen s.ret.generation
    { s with ret := { s.ret with items := r.1, generation := g }, staged := [], commit := .editing }
      |> notify (.commitApplied g d.forced s.staged.length (r.2.count .added) (r.2.count .replaced)
          (r.2.count .removed) (r.2.count .retired))
      |> markAllDisplays
  | _ => s

/-- A snapshot's close as the commit controller counts it (R79). -/
def reportClose (named : List Nat) (generation : Nat) (s : State) : State :=
  match s.commit with
  | .waiting d =>
    if generation = prevGen s.ret.generation then
      let s1 := { s with commit := .waiting { d with awaited := d.awaited - 1 } }
      if d.awaited - 1 = 0 then completeCommit named s1 else s1
    else s
  | _ => s

/-- The close of the station's snapshot would complete the commit. -/
def closeCompletes (p : CounterPort) (s : State) : Bool :=
  match s.commit, (s.port p).snapshot with
  | .waiting d, some sn => sn.generation == prevGen s.ret.generation && d.awaited ≤ 1
  | _, _ => false

/-- The snapshot closes (R47): it ceases to exist, a PRESET tare goes, the close is reported. -/
def closeSnapshotFor (named : List Nat) (p : CounterPort) (s : State) : State :=
  match (s.port p).snapshot with
  | none => s
  | some sn =>
    s |> modPort p (fun c => { c with snapshot := none, displayDue := true })
      |> removePreset p
      |> reportClose named sn.generation

/-- A snapshot closed with no reselection under way. -/
def closeSnapshot (p : CounterPort) (s : State) : State := closeSnapshotFor [] p s

/-- A commit enters WAITING (R78): it completes at once when nothing is awaited. -/
def enterWaiting (s : State) : State :=
  let n := staleOpen s
  let drain : CommitDrain :=
    { timer := if n = 0 then 0 else s.ret.config.commitDrain, expired := false, awaited := n,
      forced := 0 }
  let s1 := { s with commit := .waiting drain }
  if n = 0 then completeCommit [] s1 else s1

/-- Counts of one station and of the grand group, raised together. -/
def countBoth (p : CounterPort) (d : StationTotals) (g : GrandTotals) (s : State) : State :=
  modRet (fun r => countGrand g (countStation p d r)) s

/-- A forced cancel (R62): counted, the snapshot closed, the station to IDLE with the drain's message.
One made by the commit drain counts in the commit record too (R80). -/
def forcedCancel (m : MsgCode) (p : CounterPort) (s : State) : State :=
  let s1 := countBoth p { forcedCancels := 1 } { forcedCancels := 1 } s
  let s2 :=
    match m, s1.commit with
    | .priceChanged, .waiting d => { s1 with commit := .waiting { d with forced := d.forced + 1 } }
    | _, _ => s1
  s2 |> closeSnapshot p |> toIdle p (some m)

/-- Stations in ITEM whose snapshot meets a test. -/
def stationsInItem (s : State) (test : Snapshot → Bool) : List CounterPort :=
  (List.finRange 14).filter fun p =>
    decide ((s.port p).sale = .item) && (s.port p).snapshot.any test

/-! ### Tickets (chapter 7) -/

def State.ticket (s : State) (t : TicketNo) : TicketRec := s.tickets.recs[t]

def setTicket (t : TicketNo) (r : TicketRec) (s : State) : State :=
  { s with tickets := { s.tickets with recs := s.tickets.recs.set t r } }

/-- The number is freed (R143). -/
def freeTicket (t : TicketNo) (s : State) : State := setTicket t TicketRec.fresh s

def calledAt (p : CounterPort) : TicketState → Bool
  | .called q _ => q == p
  | _ => false

/-- The ticket called to a station, if any. -/
def calledTicket (s : State) (p : CounterPort) : Option TicketNo :=
  (List.finRange 100).find? fun t => calledAt p (s.ticket t).state

/-- A call display whose mask holds the station (R133). -/
def showsCallsOf (cfg : ConfigRecord) (p : CounterPort) (c : Port) : Bool :=
  decide (c.kind = some .callDisplay) && c.mask.any fun k => cfg.masks[k][p]

/-- NOW_SERVING to the station and to the call displays whose mask includes it (R134). A DISPLAY frame that the
same event owes the station comes behind it, at the end of the event (DESIGN CHOICE, log 42). -/
def showCall (t : TicketNo) (p : CounterPort) (count : Nat) (s : State) : State :=
  { s with ports := Vector.ofFn fun q =>
      let c := s.port q
      if reachable c && (q == p || showsCallsOf s.ret.config p c) then
        { c with tx := c.tx ++ [.nowServing p t count] }
      else c }

/-- A call of a ticket to a station with the given call count (R135). -/
def callTicket (t : TicketNo) (p : CounterPort) (count : Nat) (cause : CallCause) (s : State) :
    State :=
  s |> setTicket t { s.ticket t with state := .called p s.ret.config.callTimeout, count := count }
    |> setService p .called
    |> showCall t p count
    |> notify (.ticketCalled t p count cause)

/-- The count a call gives: one more, but not above 3 (R135). -/
def raisedCount (r : TicketRec) : Nat := min Config.maxCalls (r.count + 1)

/-- A called ticket is skipped (R138): the oldest of a full skipped list is discarded. -/
def skipTicket (t : TicketNo) (p : CounterPort) (s : State) : State :=
  let s1 := setService p .free s
  let s2 :=
    match s1.tickets.skipped with
    | o :: rest =>
      if Config.maxSkipped ≤ (o :: rest).length then
        { s1 with tickets := { s1.tickets with skipped := rest } }
          |> freeTicket o
          |> modRet (countGrand { ticketsDiscarded := 1 })
      else s1
    | [] => s1
  { s2 with tickets := { s2.tickets with skipped := s2.tickets.skipped ++ [t] } }
    |> setTicket t { s.ticket t with state := .skipped }
    |> modRet (countGrand { ticketsSkipped := 1 })

/-- The ticket unit at a station's offline event (R142), but for the service state. -/
def returnTicket (p : CounterPort) (s : State) : State :=
  match calledTicket s p with
  | none => s
  | some t =>
    match s.tickets.calling with
    | q :: rest =>
      { s with tickets := { s.tickets with calling := rest } }
        |> callTicket t q (raisedCount (s.ticket t)) .returned
    | [] =>
      { s with tickets := { s.tickets with waiting := t :: s.tickets.waiting } }
        |> setTicket t { s.ticket t with state := .waiting }

/-! ### Orders (chapter 8) -/

/-- Lines not marked voided. -/
def liveLines (o : Order) : Nat := (o.lines.filter fun l => !l.voided).length

/-- Live orders stand in ascending order of number (R162). -/
def insertOrder (o : Order) : List Order → List Order
  | [] => [o]
  | x :: xs => if o.number < x.number then o :: x :: xs else x :: insertOrder o xs

def modOrder (n : Nat) (f : Order → Order) (s : State) : State :=
  { s with orders := s.orders.map fun o => if o.number = n then f o else o }

/-- The order's record and its ticket number are freed. -/
def freeOrder (o : Order) (s : State) : State :=
  freeTicket o.ticket { s with orders := s.orders.filter fun x => x.number ≠ o.number }

/-- The line of a serial marked voided, its price taken off the total (R152). -/
def voidLine (serial : Nat) (o : Order) : Order :=
  { o with
    lines := o.lines.map fun l => if l.serial = serial then { l with voided := true } else l
    total := o.total - ((o.lines.filter fun l => l.serial == serial && !l.voided).map (·.final)).sum }

/-- The order table marks a line voided on request (R152); a VOID sets the idle count to 0. -/
def markLineVoided (n serial : Nat) (keyed : Bool) (s : State) : State :=
  match orderOf s.orders n with
  | none => s
  | some o =>
    if o.lines.any fun l => l.serial == serial && !l.voided then
      modOrder n (fun x =>
        { voidLine serial x with idle := if keyed then 0 else x.idle }) s
    else s

/-! ### The label log and the slots (chapter 6) -/

def logEntry (s : State) (serial : Nat) : Option LogEntry := s.log.find? fun e => e.serial == serial

def modLog (serial : Nat) (f : LogEntry → LogEntry) (s : State) : State :=
  { s with log := s.log.map fun e => if e.serial = serial then f e else e }

/-- The two LABEL frames of a label (R112, 10.4). -/
def labelFrames (k : SlotNo) (l : SlotLabel) : List OutFrame :=
  [.label k 1 (l.image.grid.take 128) [],
   .label k 2 (l.image.grid.drop 128) (l.image.barcode.getD (List.replicate 13 255))]

/-- The printer feed (R112). -/
def feedPrinter (p : CounterPort) (s : State) : State :=
  let c := s.port p
  match c.slots.post with
  | [] => s
  | k :: _ =>
    match c.slots.labels[k] with
    | none => s
    | some l =>
      if reachable c ∧ c.printer = .ready ∧ c.slots.outstanding = none then
        modPort p (fun c =>
          { c with
            tx := c.tx ++ labelFrames k l
            slots := { c.slots with outstanding := some k } }) s
      else s

/-- A posted slot returns to the free list and gives up its contents (R110). -/
def SlotCtx.release (k : SlotNo) (c : SlotCtx) : SlotCtx :=
  { c with
    labels := c.labels.set k none
    free := c.free ++ [k]
    post := c.post.filter (· ≠ k) }

/-- One posted label of a station going offline (R120). -/
def voidUnprinted (p : CounterPort) (s : State) (k : SlotNo) : State :=
  match (s.port p).slots.labels[k] with
  | none => s
  | some l =>
    if l.cls = .reprint then s
    else if l.day ≠ s.ret.day.number then notify (.labelVoided l.serial p (.unprinted true)) s
    else
      let s1 := modLog l.serial (fun e => { e with state := .unprinted }) s
      let s2 :=
        match l.cls, l.sale with
        | .item, some sr =>
          let s2 := s1 |> modRet (moveSale false sr)
            |> countBoth p { unprintedVoids := 1 } { unprintedVoids := 1, voidValue := sr.amounts.final }
          match sr.order with
          | some (n, _) => markLineVoided n l.serial false s2
          | none => s2
        | _, _ => s1
      notify (.labelVoided l.serial p (.unprinted false)) s2

/-- The slot lists at the offline event (R120). -/
def offlineSlots (p : CounterPort) (s : State) : State :=
  ((s.port p).slots.post.foldl (voidUnprinted p) s)
    |> modPort p (fun c =>
        { c with slots := { labels := Vector.replicate 4 none, free := c.slots.free ++ c.slots.post,
                            post := [], outstanding := none } })

/-! ### The composer queue (chapter 5) -/

/-- A job of a station in composition and not dropped. -/
def composing (s : State) (p : CounterPort) : Bool :=
  s.composer.current.any fun c => decide (c.job.station = p) && !c.dropped

/-- The station has a job on the queue or in composition (R102). -/
def hasJob (s : State) (p : CounterPort) : Bool :=
  s.composer.queue.any (fun j => decide (j.station = p)) || composing s p

/-- A job whose label will take a serial. -/
def takesSerial (j : Job) : Bool :=
  match j.source with
  | .reprint _ => false
  | _ => true

/-- The count k of R57: ITEM and SUMMARY jobs on the queue or in composition, none dropped. -/
def serialJobs (s : State) : Nat :=
  (s.composer.queue.filter takesSerial).length +
    (s.composer.current.toList.filter fun c => takesSerial c.job && !c.dropped).length

/-- The label serial is exhausted for one more job (R57). -/
def serialExhausted (s : State) : Bool :=
  Config.maxSerial < s.ret.day.nextSerial + serialJobs s

/-- The composer is idle (R109). -/
def composerIdle (s : State) : Bool := s.composer.queue.isEmpty && s.composer.current.isNone

/-- A job joins the queue; with no free slot at its station PRINTER_BUSY becomes held (R103). -/
def joinComposer (j : Job) (s : State) : State :=
  let s1 := { s with composer := { s.composer with queue := s.composer.queue ++ [j] } }
  if (s.port j.station).slots.free.isEmpty then holdMessage j.station .printerBusy s1 else s1

/-- The composer at the offline event: a queued job is discarded, one in composition dropped (R108). -/
def offlineComposer (p : CounterPort) (s : State) : State :=
  { s with composer := { s.composer with
      queue := s.composer.queue.filter fun j => j.station ≠ p
      current := s.composer.current.map fun c =>
        if c.job.station = p then { c with dropped := true } else c } }

/-- The OPEN order at a station that goes offline is parked (R156). -/
def offlineOrder (p : CounterPort) (s : State) : State :=
  { s with orders := s.orders.map fun o =>
      if o.state = .openAt p then { o with state := .parked, idle := 0, summaryInFlight := false }
      else o }

/-! ### The station offline event (R9) -/

/-- The context's own part of the event, the snapshot apart. -/
def offlineContext (p : CounterPort) (s : State) : State :=
  modPort p (fun c =>
    { c with
      record := none
      operator := none
      sale := .noOperator
      service := .free
      held := none
      weigh := { c.weigh with gapRunning := false } }) s

/-- The link state becomes OFFLINE and frames not yet sent are discarded (R9, R186). -/
def offlineLink (p : CounterPort) (s : State) : State :=
  modPort p (fun c => { c with online := false, tx := [] }) s

/-- A scale station's part of the event. The reactions have no order among themselves; where the close
would complete a commit, a free value says whether it is reported before or after them (log 18). -/
def offlineScale (p : CounterPort) (s : State) : State :=
  let open_ := (s.port p).snapshot.isSome
  let completes := closeCompletes p s
  let first := completes && Config.freeBit s.free
  let s1 := if completes then { s with free := s.free + 1 } else s
  let s2 := if open_ then countBoth p { offlineCancels := 1 } { offlineCancels := 1 } s1 else s1
  let s3 := if first then closeSnapshot p s2 else s2
  s3 |> offlineSlots p |> leaveCalling p |> returnTicket p |> offlineOrder p |> offlineComposer p
     |> closeSnapshot p |> offlineContext p

/-- The station offline event (R9), but for the day close test made after it (R174). Where its close completes
a commit, COMMIT_DONE stands ahead of STATION_STATE, the event's last notice (log 18). -/
def goOffline (p : CounterPort) (cause : StationCause) (s : State) : State :=
  let s1 := offlineLink p s
  let s2 := if (s.port p).kind = some .scale then offlineScale p s1 else s1
  notify (.stationState p (s.port p).kind .offline cause) s2

/-! ### Completion of a day close (R174 to R178) -/

/-- A live order ends DAY_CLOSED (R161). -/
def endOrderByDay (s : State) (o : Order) : State :=
  let s1 := modRet (countGrand { ordersClosedByDay := 1 }) s
  match o.state with
  | .openAt p =>
    s1 |> notify (.orderClosed .dayClosed o.number o.ticket (some p) none (some (liveLines o)) (some o.total))
       |> freeOrder o
       |> setService p .free
  | .parked =>
    s1 |> notify (.orderClosed .dayClosed o.number o.ticket none none (some (liveLines o)) (some o.total))
       |> freeOrder o

/-- Step 1: every live order ends, in an order no rule fixes (log 6). -/
def endLiveOrders (s : State) : State :=
  (sortBy (fun o => Config.rank s.free o.number) s.orders).foldl endOrderByDay
    { s with free := s.free + 1 }

/-- Waiting, called or skipped: a ticket that the day close discards (R144). -/
def discardable : TicketState → Bool
  | .waiting => true
  | .called _ _ => true
  | .skipped => true
  | _ => false

/-- Step 2: the service line of the day ends (R144). -/
def endServiceLine (s : State) : State :=
  let n := (s.tickets.recs.toList.filter fun r => discardable r.state).length
  { s with
    ret := countGrand { ticketsDiscarded := n } s.ret
    ports := Vector.ofFn fun p =>
      let c := s.port p
      if (calledTicket s p).isSome || s.tickets.calling.contains p then { c with service := .free }
      else c
    tickets := { s.tickets with
      recs := s.tickets.recs.map fun r => if discardable r.state then TicketRec.fresh else r
      waiting := []
      calling := []
      skipped := [] } }

/-- Step 3: the day record (R176). -/
def buildDayRecord (s : State) : DayRecord where
  number := s.ret.day.number
  opened := s.ret.day.opened
  closed := s.clock.stamp
  totalsLost := s.ret.day.totalsLost
  totals := s.ret.totals
  items := (s.ret.items.filter fun r => r.totals.items != 0).map fun r =>
    { plu := r.item.plu, name := r.item.name, department := r.item.department, mode := r.item.mode,
      status := r.status, totals := r.totals }

/-- Some mark stands in a day record (R178). -/
def DayRecord.anyMark (r : DayRecord) : Bool :=
  r.totalsLost || r.totals.anyMark || r.items.any fun e => e.totals.mark

/-- Steps 4 to 9 (R177, R178). -/
def openNewDay (r : DayRecord) (s : State) : State :=
  let n := (s.ret.day.number + 1) % 65536
  { s with
    ret := { s.ret with
      items := (s.ret.items.filter fun x => x.status = .live).map fun x => { x with totals := {} }
      totals := Totals.empty
      day :=
        { number := n, opened := some s.clock.stamp, nextSerial := 1, nextOrder := 1,
          totalsLost := false, record := some r } }
    log := []
    dayState := .trading }
    |> notify (.dayClosed r.number n r.closed r.items.length r.anyMark)
    |> markAllDisplays

/-- The whole completion (R175 to R178). -/
def completeDayClose (s : State) : State :=
  let s1 := endServiceLine (endLiveOrders s)
  openNewDay (buildDayRecord s1) s1

/-- The completion test of a CLOSING day (R174). -/
def closeReady (s : State) : Bool :=
  s.dayState.isClosing && s.ports.toList.all (fun c => c.snapshot.isNone) && composerIdle s

/-- The test made; the close completes when it holds. -/
def dayTest (s : State) : State := if closeReady s then completeDayClose s else s

/-! ### Frames from counter ports and the key gate (R4, R6, R8, R11) -/

def anyKind (_ : Option DeviceKind) : Bool := true
def scaleOnly (k : Option DeviceKind) : Bool := decide (k = some .scale)
def dispenserOnly (k : Option DeviceKind) : Bool := decide (k = some .dispenser)

/-- Supervision reloaded by a frame that is handed on (R8). -/
def reloadSupervision (p : CounterPort) (s : State) : State :=
  modPort p (fun c => { c with supervision := s.ret.config.supervisionReload }) s

/-- A frame other than HELLO that passed the kind checks (R4, R6). -/
def handOn (p : CounterPort) (accepts : Option DeviceKind → Bool) (f : State → State) (s : State) :
    State :=
  let c := s.port p
  match c.state with
  | .refused => modPort p (fun c => { c with tx := c.tx ++ [.refused] }) s
  | .down => protocolError p s
  | .up =>
    if c.online then
      if accepts c.kind then f (reloadSupervision p s) else protocolError p s
    else s

/-- A refused key changes the held message alone (R11, R18). -/
def refuseKey (p : CounterPort) (m : MsgCode) (s : State) : State := holdMessage p m s

/-- The gate for LOGIN and LOGOUT (R11); `noOp` says what NO_OPERATOR does. -/
def logGate (c : Port) (takenInNoOperator : Bool) : Option MsgCode :=
  match c.sale with
  | .noOperator => if takenInNoOperator then none else some .loginRequired
  | .idle => none
  | .calibrating => none
  | .item => some .busy
  | .printing => some .busy

/-- The gate for sales keys (R11). -/
def salesGate (c : Port) : Option MsgCode :=
  match c.sale with
  | .noOperator => some .loginRequired
  | .idle => none
  | .item => none
  | .printing => some .busy
  | .calibrating => some .calMode

/-- A KEY frame: handed on, gated, given to its owner, and answered by one DISPLAY frame (R11), which stands behind
what the owner sends the station (log 42). -/
def keyEvent (p : CounterPort) (gate : Port → Option MsgCode) (own : State → State) (s : State) :
    State :=
  flush (handOn p scaleOnly (fun s1 =>
    markDisplay p
      (match gate (s1.port p) with
       | some m => refuseKey p m s1
       | none => own s1)) s)

/-- A sales key taken in IDLE only; in ITEM it is refused with BUSY (R121, R123, R131, R148). -/
def idleOnly (p : CounterPort) (own : State → State) (s : State) : State :=
  if (s.port p).sale = .item then refuseKey p .busy s else own s

/-! ### Uplink requests (R185, R187, R188, R193) -/

/-- A reply joins the reply queue (R188). -/
def reply (tag : Nat) (result : ResultCode) (data : ReplyData) (s : State) : State :=
  { s with uplink := { s.uplink with replies := s.uplink.replies ++ [{ tag, result, data }] } }

/-- A reply with no data. -/
def refuseRequest (tag : Nat) (result : ResultCode) (s : State) : State := reply tag result .none s

/-- A malformed request is answered BAD_FRAME and counted (R187). -/
def badFrame (tag : Nat) (s : State) : State :=
  refuseRequest tag .badFrame
    { s with uplink := { s.uplink with errors := s.uplink.errors.addProtocol } }

/-- A good frame on the uplink: taken at once when the reply queue has room, which brings the uplink UP;
else it waits, or is an overrun behind one that waits (R5, R185). After a HUB_RESET nothing is taken
(R193). -/
def arrive (i : Instr) (own : State → State) (s : State) : State :=
  if s.uplink.resetPending then s
  else if s.uplink.replies.length < Config.maxReplies then
    flush (own { s with uplink := { s.uplink with up := true } })
  else if s.uplink.waiting.isNone then
    { s with uplink := { s.uplink with waiting := some i } }
  else
    { s with uplink := { s.uplink with errors :=
        { s.uplink.errors with overrun := satUp Config.max16 s.uplink.errors.overrun 1 } } }

end Sys2Proof.Machine
end

