-- ==== Sys2Proof/Machine/Commits.lean ====
section
/-! DEFINITION. The item table from the uplink: reading, staging, the commit and its drain (chapter 4). -/

namespace Sys2Proof.Machine

/-! ### PLU_READ, PLU_STAGE, STAGE_DISCARD (R67, R69, R70) -/

def pluReadOp (tag first last : Nat) (s : State) : State :=
  if !pluInRange first || !pluInRange last || decide (last < first) then
    refuseRequest tag .badRecord s
  else
    let page := itemPage s.ret.items first last
    reply tag .ok (.items s.ret.generation page.1 page.2) s

/-- PLU_READ (R67). -/
def execPluRead (tag first last : Nat) (s : State) : Host.Outcome State Fault Refusal :=
  .next (arrive (.pluRead tag first last) (pluReadOp tag first last) s)

/-- The list is frozen while a commit is in flight (R69, R70). -/
def stageFrozen (s : State) : Bool := decide (s.commit ≠ .editing)

/-- The checks of R69 in order: the list after the block, or the reply of a refusal. -/
def stageCheck (s : State) (block : List StageEntry) :
    Except (ResultCode × ReplyData) (List StageEntry) :=
  if stageFrozen s then .error (.stageFrozen, .none)
  else if s.dayState.isClosing then .error (.dayClosing, .none)
  else
    match firstInvalid block with
    | some n => .error (.badRecord, .position n)
    | none =>
      let list := stageAll block s.staged
      if Config.maxStaged < list.length then .error (.stageFull, .none) else .ok list

def pluStageOp (tag : Nat) (block : List StageEntry) (s : State) : State :=
  if block.isEmpty ∨ Config.blockSize < block.length then badFrame tag s
  else
    match stageCheck s block with
    | .error (code, d) => reply tag code d s
    | .ok list => reply tag .ok (.count list.length) { s with staged := list }

/-- PLU_STAGE (R69). -/
def execPluStage (tag : Nat) (block : List StageEntry) (s : State) :
    Host.Outcome State Fault Refusal :=
  .next (arrive (.pluStage tag block) (pluStageOp tag block) s)

def stageDiscardOp (tag : Nat) (s : State) : State :=
  if stageFrozen s then refuseRequest tag .stageFrozen s
  else reply tag .ok (.count s.staged.length) { s with staged := [] }

/-- STAGE_DISCARD (R70). -/
def execStageDiscard (tag : Nat) (s : State) : Host.Outcome State Fault Refusal :=
  .next (arrive (.stageDiscard tag) (stageDiscardOp tag) s)

/-! ### COMMIT and COMMIT_ABORT (R73, R86) -/

/-- An activation date and minute of check 4. -/
def activationValid (a : Date × Nat) : Bool := dateValid a.1 && decide (a.2 ≤ 1439)

/-- The table has room for the list (R74). -/
def tableFits (s : State) : Bool := decide (capacityCount s.ret.items s.staged ≤ Config.maxItems)

/-- The checks of R73 in order. -/
def commitRefusal (s : State) (activation : Option (Date × Nat)) : Option ResultCode :=
  if s.commit ≠ .editing then some .commitPending
  else if s.dayState.isClosing then some .dayClosing
  else if s.staged.isEmpty then some .nothingStaged
  else if activation.any (fun a => !activationValid a) then some .outOfRange
  else if activation.isSome ∧ !s.clock.valid then some .clockNotSet
  else if !tableFits s then some .tableFull
  else none

def CommitState.phase : CommitState → CommitPhase
  | .editing => .editing
  | .scheduled _ _ => .scheduled
  | .waiting _ => .waiting

/-- An accepted commit enters WAITING or SCHEDULED (R73). -/
def acceptCommit (activation : Option (Date × Nat)) (s : State) : State :=
  match activation with
  | none => enterWaiting s
  | some (d, m) => { s with commit := .scheduled d m }

def commitOp (tag : Nat) (activation : Option (Date × Nat)) (s : State) : State :=
  match commitRefusal s activation with
  | some code => refuseRequest tag code s
  | none =>
    let s1 := acceptCommit activation s
    reply tag .ok (.commit s1.commit.phase s1.ret.generation) s1

/-- COMMIT (R73). -/
def execCommit (tag : Nat) (activation : Option (Date × Nat)) (s : State) :
    Host.Outcome State Fault Refusal :=
  .next (arrive (.commit tag activation) (commitOp tag activation) s)

/-- The forced cancels of the commit in flight (R86). -/
def CommitState.forced : CommitState → Nat
  | .waiting d => d.forced
  | .scheduled _ _ => 0
  | .editing => 0

def commitAbortOp (tag : Nat) (s : State) : State :=
  if s.commit = .editing then refuseRequest tag .noCommit s
  else reply tag .ok (.aborted s.commit.forced s.staged.length) { s with commit := .editing }

/-- COMMIT_ABORT (R86). -/
def execCommitAbort (tag : Nat) (s : State) : Host.Outcome State Fault Refusal :=
  .next (arrive (.commitAbort tag) (commitAbortOp tag) s)

/-! ### Activation (R75, R76) -/

/-- The clock has reached a date and minute. -/
def clockReached (c : Clock) (d : Date) (minute : Nat) : Bool :=
  c.valid && (dateBefore d c.date || (decide (c.date = d) && decide (minute ≤ minuteOf c.second)))

/-- The activation test of R75. -/
def activationDue (s : State) : Bool :=
  match s.commit with
  | .scheduled d m => clockReached s.clock d m
  | _ => false

/-- A scheduled commit activates (R76). -/
def activateCommit (s : State) : State :=
  if tableFits s then enterWaiting s
  else { s with commit := .editing } |> notify (.commitTableFull s.ret.generation)

/-- The activation test made (R75). -/
def activationTest (s : State) : State := if activationDue s then activateCommit s else s

/-- The clock stands at a minute boundary (R201). -/
def atMinute (s : State) : Bool := decide (s.clock.second % 60 = 0)

/-- COMMIT_ACTIVATION (R75, R76): at a minute boundary of the clock. Elsewhere no test is made, and
where it fails nothing is activated (log 3, 4). -/
def execCommitActivation (s : State) : Host.Outcome State Fault Refusal :=
  if atMinute s then .next (flush (activationTest s)) else .next s

/-! ### The drain and completion (R80, R82 to R85) -/

/-- The commit completes when nothing is awaited (R79, R80 step 4). -/
def completeIfDrained (s : State) : State :=
  match s.commit with
  | .waiting d => if d.awaited = 0 then completeCommit [] s else s
  | _ => s

/-- The commit drain expires (R80). -/
def commitDrainExpired (s : State) : State :=
  match s.commit with
  | .waiting d =>
    let s1 := { s with commit := .waiting { d with timer := 0, expired := true } }
    let stale := stationsInItem s1 fun sn => sn.generation == prevGen s1.ret.generation
    completeIfDrained (stale.foldl (fun acc p => forcedCancel .priceChanged p acc) s1)
  | _ => s

/-- A drain timer with one second left or none, still running. -/
def CommitState.lastSecond : CommitState → Bool
  | .waiting d => !d.expired && decide (d.timer ≤ 1)
  | _ => false

/-- COMMIT_DRAIN_EXPIRY (R80): the last second of a running drain is taken off, ahead of the CLOCK_TICK
that would do so. Otherwise there is no expiry and nothing changes (log 3, 4). -/
def execCommitDrainExpiry (s : State) : Host.Outcome State Fault Refusal :=
  if s.commit.lastSecond then .next (flush (commitDrainExpired s)) else .next s

/-- COMMIT_COMPLETION (R82 to R85): a WAITING commit that awaits no snapshot completes. Otherwise nothing
changes (log 3, 4). -/
def execCommitCompletion (s : State) : Host.Outcome State Fault Refusal :=
  .next (flush (completeIfDrained s))

end Sys2Proof.Machine
end

