-- ==== Sys2Proof/Machine/Day.lean ====
section
/-! DEFINITION. Reading the figures and closing the day (chapter 9). -/

namespace Sys2Proof.Machine

/-! ### TOTALS_READ (R170) -/

/-- Groups from a first number on, each with its number: R170 says so of the station groups, and the model of the
others (log 39). -/
def groupsFrom {α β : Type} {n : Nat} (v : Vector α n) (first : Nat) (f : Nat → α → β) : List β :=
  ((List.finRange n).filter fun i => decide (first ≤ i.val + 1)).map fun i => f (i.val + 1) v[i]

def numberIn (lo hi n : Nat) : Bool := decide (lo ≤ n) && decide (n ≤ hi)

/-- The entries of a part with no item groups, from a whole set of totals; `none` where the first index
is out of range (R170, R179). -/
def stationEntries (t : Totals) (first : Nat) : Option (List TotalsEntry) :=
  if numberIn 1 14 first then some (groupsFrom t.stations first .station) else none

def operatorEntries (t : Totals) (first : Nat) : Option (List TotalsEntry) :=
  if numberIn 1 32 first then some (groupsFrom t.operators first .operator) else none

def departmentEntries (t : Totals) (first : Nat) : Option (List TotalsEntry) :=
  if numberIn 1 32 first then some (groupsFrom t.departments first .department) else none

/-- One page of the item groups, and the PLU number to continue from (R170), the one after the last of the page
(log 44). -/
def itemEntries (items : List ItemRecord) (first : Nat) : Option (List TotalsEntry × Option Nat) :=
  if pluInRange first then
    let page := itemPage items first Config.maxPlu
    some (page.1.map fun r => .item r.item.plu r.status r.item.department r.item.mode r.totals, page.2)
  else none

/-- What a TOTALS_READ carries, or `none` where it is refused with BAD_RECORD. -/
def totalsPart (s : State) (part : Option TotalsPart) (first : Nat) :
    Option (List TotalsEntry × Option Nat) :=
  match part with
  | none => none
  | some .grand => some ([.grand s.ret.totals.grand], none)
  | some .station => (stationEntries s.ret.totals first).map (·, none)
  | some .operator => (operatorEntries s.ret.totals first).map (·, none)
  | some .department => (departmentEntries s.ret.totals first).map (·, none)
  | some .item => itemEntries s.ret.items first

def totalsHeader (s : State) : TotalsHeader where
  day := s.ret.day.number
  state := s.dayState
  opened := s.ret.day.opened
  totalsLost := s.ret.day.totalsLost
  generation := s.ret.generation

def totalsReadOp (tag : Nat) (part : Option TotalsPart) (first : Nat) (s : State) : State :=
  match part, totalsPart s part first with
  | some k, some (entries, more) => reply tag .ok (.totals k (totalsHeader s) entries more) s
  | _, _ => refuseRequest tag .badRecord s

/-- TOTALS_READ (R170). -/
def execTotalsRead (tag : Nat) (part : Option TotalsPart) (first : Nat) (s : State) :
    Host.Outcome State Fault Refusal :=
  .next (arrive (.totalsRead tag part first) (totalsReadOp tag part first) s)

/-! ### DAY_RECORD_READ (R179) -/

/-- The entries of a part of the day record and whether more follow; `none` where the request is refused
with BAD_RECORD. A group entry carries its number, as in TOTALS_READ (log 39). -/
def recordPart (r : DayRecord) (part : Option RecordPart) (first : Nat) :
    Option (List TotalsEntry × Bool) :=
  match part with
  | none => none
  | some .header => some ([], false)
  | some .grand => some ([.grand r.totals.grand], false)
  | some .station => (stationEntries r.totals first).map (·, false)
  | some .operator => (operatorEntries r.totals first).map (·, false)
  | some .department => (departmentEntries r.totals first).map (·, false)
  | some .item =>
    if numberIn 1 r.items.length first then
      let rest := r.items.drop (first - 1)
      some ((rest.take Config.blockSize).map .dayItem, decide (Config.blockSize < rest.length))
    else none

def DayRecord.header (r : DayRecord) : RecordHeader where
  number := r.number
  opened := r.opened
  closed := r.closed
  totalsLost := r.totalsLost
  items := r.items.length

/-- An absent record is answered NO_RECORD whatever the part and index are (log 38). -/
def dayRecordReadOp (tag : Nat) (part : Option RecordPart) (first : Nat) (s : State) : State :=
  match s.ret.day.record with
  | none => refuseRequest tag .noRecord s
  | some r =>
    match part, recordPart r part first with
    | some k, some (entries, more) => reply tag .ok (.dayRecord k r.header entries more) s
    | _, _ => refuseRequest tag .badRecord s

/-- DAY_RECORD_READ (R179). -/
def execDayRecordRead (tag : Nat) (part : Option RecordPart) (first : Nat) (s : State) :
    Host.Outcome State Fault Refusal :=
  .next (arrive (.dayRecordRead tag part first) (dayRecordReadOp tag part first) s)

/-! ### DAY_CLOSE and the close drain (R172, R173) -/

/-- The checks of R172 in order. -/
def dayCloseRefusal (s : State) : Option ResultCode :=
  if s.commit ≠ .editing then some .commitPending
  else if s.dayState.isClosing then some .busy
  else none

/-- An accepted DAY_CLOSE: CLOSING, the drain loaded, and the completion test made at once. -/
def beginClose (s : State) : State :=
  { s with dayState := .closing s.ret.config.closeDrain false } |> markAllDisplays |> dayTest

def dayCloseOp (tag : Nat) (s : State) : State :=
  match dayCloseRefusal s with
  | some code => refuseRequest tag code s
  | none =>
    let s1 := beginClose s
    reply tag .ok (.day s1.dayState s1.ret.day.number) s1

/-- DAY_CLOSE (R172). -/
def execDayClose (tag : Nat) (s : State) : Host.Outcome State Fault Refusal :=
  .next (arrive (.dayClose tag) (dayCloseOp tag) s)

/-- The close drain expires (R173). -/
def closeDrainExpired (s : State) : State :=
  let s1 := { s with dayState := .closing 0 true }
  dayTest ((stationsInItem s1 fun _ => true).foldl (fun acc p => forcedCancel .dayClosing p acc) s1)

/-- A close drain with one second left or none, still running. -/
def DayState.lastSecond : DayState → Bool
  | .closing timer expired => !expired && decide (timer ≤ 1)
  | .trading => false

/-- CLOSE_DRAIN_EXPIRY (R173): the last second of a running close drain is taken off, ahead of the
CLOCK_TICK that would do so. Otherwise nothing changes (log 3, 4). -/
def execCloseDrainExpiry (s : State) : Host.Outcome State Fault Refusal :=
  if s.dayState.lastSecond then .next (flush (closeDrainExpired s)) else .next s

/-- DAY_CLOSE_COMPLETION (R174 to R178): a CLOSING day that meets the completion test completes.
Otherwise nothing changes (log 3, 4). -/
def execDayCloseCompletion (s : State) : Host.Outcome State Fault Refusal :=
  .next (flush (dayTest s))

end Sys2Proof.Machine
end

