-- ==== Sys2Proof/Machine/Tickets.lean ====
section
/-! DEFINITION. The service line: NEXT, SERVE, RECALL, SKIP, RECALL_SKIPPED, CANCEL_NEXT, TAKE_REQUEST and
CALL_TIMEOUT (chapter 7). -/

namespace Sys2Proof.Machine

/-! ### The table of R131 -/

/-- NEXT by the service state; `none` goes on to R132. -/
def nextRefusal : ServiceState → Option MsgCode
  | .free => none
  | .asking => some .alreadyWaiting
  | .called => some .ticketCalled
  | .serving => some .orderOpen

/-- SERVE, RECALL and SKIP by the service state. -/
def calledRefusal : ServiceState → Option MsgCode
  | .free => some .noTicket
  | .asking => some .noTicket
  | .called => none
  | .serving => some .orderOpen

/-- A key that R131 refuses in a CLOSING day, ahead of its table. -/
def closedDayFirst (m : Option MsgCode) (s : State) : Option MsgCode :=
  if s.dayState.isClosing then some .dayClosing else m

/-- A service key in IDLE: refused by the table, or taken with the held message cleared. -/
def serviceKey (p : CounterPort) (refusal : Option MsgCode) (own : State → State) (s : State) : State :=
  match refusal with
  | some m => refuseKey p m s
  | none => own s

/-- A key on the ticket called to this station; without one it is refused with NO_TICKET. -/
def withCalled (p : CounterPort) (f : TicketNo → State → State) (s : State) : State :=
  match calledTicket s p with
  | none => refuseKey p .noTicket s
  | some t => f t s

/-! ### NEXT (R132) -/

/-- The head of the waiting queue is called, or the station joins the calling-stations list. -/
def askNext (p : CounterPort) (s : State) : State :=
  match s.tickets.waiting with
  | t :: rest =>
    { s with tickets := { s.tickets with waiting := rest } }
      |> callTicket t p (raisedCount (s.ticket t)) .next
  | [] =>
    { s with tickets := { s.tickets with calling := s.tickets.calling ++ [p] } }
      |> setService p .asking

def nextOp (p : CounterPort) (s : State) : State :=
  serviceKey p (closedDayFirst (nextRefusal (s.port p).service) s)
    (fun s => s |> clearHeld p |> askNext p) s

/-- NEXT (R131, R132). -/
def execNext (p : CounterPort) (s : State) : Host.Outcome State Fault Refusal :=
  .next (keyEvent p salesGate (idleOnly p (nextOp p)) s)

/-! ### SERVE (R136, R145, R147, R149) -/

/-- The order number after one (R147). -/
def orderNumberAfter (n : Nat) : Nat := if Config.maxOrderNumber ≤ n then 1 else n + 1

/-- The first number, counting up from `n`, that no live order holds; 32 steps always find one (R147). -/
def freeOrderNumber (orders : List Order) : Nat → Nat → Nat
  | 0, n => n
  | k + 1, n =>
    if (orderOf orders n).isSome then freeOrderNumber orders k (orderNumberAfter n) else n

/-- The order a SERVE opens (R149). -/
def newOrder (p : CounterPort) (t : TicketNo) (n : Nat) : Order where
  number := n
  ticket := t
  state := .openAt p
  lines := []
  total := 0
  idle := 0
  summaryInFlight := false

def openOrder (p : CounterPort) (t : TicketNo) (s : State) : State :=
  let n := freeOrderNumber s.orders Config.maxOrders s.ret.day.nextOrder
  { s with orders := insertOrder (newOrder p t n) s.orders }
    |> modRet (fun r => { r with day := { r.day with nextOrder := orderNumberAfter n } })
    |> setService p .serving

/-- The called ticket goes IN_SERVICE and its wait is taken (R136, R145). -/
def beginService (t : TicketNo) (s : State) : State :=
  let wait := (s.ticket t).age
  s |> setTicket t { s.ticket t with state := .inService }
    |> modRet (countGrand { ticketsServed := 1, waitSeconds := wait, largestWait := wait })

def serveTicket (p : CounterPort) (t : TicketNo) (s : State) : State :=
  if Config.maxOrders ≤ s.orders.length then refuseKey p .ordersFull s
  else s |> clearHeld p |> beginService t |> openOrder p t

def serveOp (p : CounterPort) (s : State) : State :=
  serviceKey p (closedDayFirst (calledRefusal (s.port p).service) s) (withCalled p (serveTicket p)) s

/-- SERVE (R131, R136). -/
def execServe (p : CounterPort) (s : State) : Host.Outcome State Fault Refusal :=
  .next (keyEvent p salesGate (idleOnly p (serveOp p)) s)

/-! ### RECALL and SKIP (R137, R138) -/

def recallTicket (p : CounterPort) (t : TicketNo) (s : State) : State :=
  if Config.maxCalls ≤ (s.ticket t).count then refuseKey p .recallLimit s
  else s |> clearHeld p |> callTicket t p ((s.ticket t).count + 1) .recall

def recallOp (p : CounterPort) (s : State) : State :=
  serviceKey p (calledRefusal (s.port p).service) (withCalled p (recallTicket p)) s

/-- RECALL (R131, R137). -/
def execRecall (p : CounterPort) (s : State) : Host.Outcome State Fault Refusal :=
  .next (keyEvent p salesGate (idleOnly p (recallOp p)) s)

def skipOp (p : CounterPort) (s : State) : State :=
  serviceKey p (calledRefusal (s.port p).service)
    (withCalled p fun t s => s |> clearHeld p |> skipTicket t p) s

/-- SKIP (R131, R138). -/
def execSkip (p : CounterPort) (s : State) : Host.Outcome State Fault Refusal :=
  .next (keyEvent p salesGate (idleOnly p (skipOp p)) s)

/-! ### RECALL_SKIPPED and CANCEL_NEXT (R140, R141) -/

/-- A ticket number a key carries. -/
def ticketOfNumber (n : Nat) : Option TicketNo := if h : n < 100 then some ⟨n, h⟩ else none

/-- The ticket leaves the skipped list and is called with count 1. -/
def recallSkipped (p : CounterPort) (n : Nat) (s : State) : State :=
  match ticketOfNumber n with
  | none => refuseKey p .notSkipped s
  | some t =>
    if s.tickets.skipped.contains t then
      { s with tickets := { s.tickets with skipped := s.tickets.skipped.filter (· ≠ t) } }
        |> clearHeld p
        |> callTicket t p 1 .skipped
    else refuseKey p .notSkipped s

def recallSkippedOp (p : CounterPort) (n : Nat) (s : State) : State :=
  serviceKey p (closedDayFirst (nextRefusal (s.port p).service) s) (recallSkipped p n) s

/-- RECALL_SKIPPED (R131, R140). -/
def execRecallSkipped (p : CounterPort) (t : Nat) (s : State) : Host.Outcome State Fault Refusal :=
  .next (keyEvent p salesGate (idleOnly p (recallSkippedOp p t)) s)

def cancelNextOp (p : CounterPort) (s : State) : State :=
  if (s.port p).service = .asking then s |> clearHeld p |> leaveCalling p
  else refuseKey p .notWaiting s

/-- CANCEL_NEXT (R131, R141). -/
def execCancelNext (p : CounterPort) (s : State) : Host.Outcome State Fault Refusal :=
  .next (keyEvent p salesGate (idleOnly p (cancelNextOp p)) s)

/-! ### TAKE_REQUEST (R129) -/

/-- A new ticket placed: called to the oldest asking station, or at the tail of the waiting queue. -/
def placeTicket (t : TicketNo) (s : State) : State :=
  match s.tickets.calling with
  | q :: rest =>
    { s with tickets := { s.tickets with calling := rest } }
      |> callTicket t q (raisedCount (s.ticket t)) .take
  | [] => { s with tickets := { s.tickets with waiting := s.tickets.waiting ++ [t] } }

def issueTicket (p : CounterPort) (s : State) : State :=
  let t := s.tickets.next
  s |> setTicket t { state := .waiting, count := 0, age := 0 }
    |> (fun s => { s with tickets := { s.tickets with next := t + 1 } })
    |> modRet (countGrand { ticketsIssued := 1 })
    |> deliver p (.takeAnswer (.issue t))
    |> placeTicket t

def takeRequestOp (p : CounterPort) (s : State) : State :=
  if s.dayState.isClosing then deliver p (.takeAnswer .closed) s
  else if (s.ticket s.tickets.next).state ≠ .free then deliver p (.takeAnswer .rollBlocked) s
  else issueTicket p s

/-- TAKE_REQUEST (R129). -/
def execTakeRequest (p : CounterPort) (s : State) : Host.Outcome State Fault Refusal :=
  .next (flush (handOn p dispenserOnly (takeRequestOp p) s))

/-! ### CALL_TIMEOUT (R139) -/

/-- CALL_TIMEOUT (R139): the last second of a call timer is taken off, ahead of the CLOCK_TICK that would
do so. A ticket that is not called, or has more left, does not time out and nothing changes (log 3, 4). -/
def execCallTimeout (t : TicketNo) (s : State) : Host.Outcome State Fault Refusal :=
  match (s.ticket t).state with
  | .called p timer => if timer ≤ 1 then .next (skipTicket t p s) else .next s
  | _ => .next s

end Sys2Proof.Machine
end

