-- ==== Sys2Proof/Machine/Orders.lean ====
section
/-! DEFINITION. Orders: PARK, PICKUP, CLOSE_ORDER, ORDER_ABANDONED and ORDER_READ (chapter 8). -/

namespace Sys2Proof.Machine

/-! ### PARK and PICKUP (R148, R153, R154) -/

/-- A key on the order OPEN at this station; elsewhere it is refused with NO_ORDER (R148). -/
def withOpenOrder (p : CounterPort) (f : Order → State → State) (s : State) : State :=
  if (s.port p).service = .serving then
    match orderOpenAt s.orders p with
    | none => refuseKey p .noOrder s
    | some o => f o s
  else refuseKey p .noOrder s

def parkOrder (p : CounterPort) (o : Order) (s : State) : State :=
  s |> clearHeld p
    |> modOrder o.number (fun x => { x with state := .parked, idle := 0 })
    |> setService p .free

/-- PARK (R148, R153). -/
def execPark (p : CounterPort) (s : State) : Host.Outcome State Fault Refusal :=
  .next (keyEvent p salesGate (idleOnly p (withOpenOrder p (parkOrder p))) s)

/-- The PARKED order that holds a ticket. -/
def parkedOrder (orders : List Order) (t : Nat) : Option Order :=
  orders.find? fun o => decide (o.state = .parked) && o.ticket.val == t

def pickupOrder (p : CounterPort) (t : Nat) (s : State) : State :=
  match parkedOrder s.orders t with
  | none => refuseKey p .noOrder s
  | some o =>
    s |> clearHeld p
      |> modOrder o.number (fun x => { x with state := .openAt p, idle := 0 })
      |> setService p .serving

def pickupOp (p : CounterPort) (t : Nat) (s : State) : State :=
  serviceKey p (nextRefusal (s.port p).service) (pickupOrder p t) s

/-- PICKUP (R148, R154). -/
def execPickup (p : CounterPort) (t : Nat) (s : State) : Host.Outcome State Fault Refusal :=
  .next (keyEvent p salesGate (idleOnly p (pickupOp p t)) s)

/-! ### CLOSE_ORDER (R157, R158) -/

/-- An order with no unvoided line closes EMPTY (R157). -/
def closeEmpty (p : CounterPort) (o : Order) (s : State) : State :=
  s |> clearHeld p
    |> freeOrder o
    |> setService p .free
    |> notify (.orderClosed .empty o.number o.ticket (some p) none none none)

/-- The SUMMARY job queued, and the station in PRINTING (R158). -/
def queueSummary (p : CounterPort) (o : Order) (s : State) : State :=
  let job : Job :=
    { station := p, source := .summary o.number (s.port p).operator s.clock.stamp }
  s |> modOrder o.number (fun x => { x with summaryInFlight := true })
    |> setSale p .printing none
    |> joinComposer job

def closeOrder (p : CounterPort) (o : Order) (s : State) : State :=
  if hasJob s p then refuseKey p .busy s
  else if liveLines o = 0 then closeEmpty p o s
  else if serialExhausted s then refuseKey p .serialExhausted s
  else queueSummary p o s

/-- CLOSE_ORDER (R148, R157, R158). -/
def execCloseOrder (p : CounterPort) (s : State) : Host.Outcome State Fault Refusal :=
  .next (keyEvent p salesGate (idleOnly p (withOpenOrder p (closeOrder p))) s)

/-! ### ORDER_ABANDONED (R155) -/

/-- The park timeout in seconds. -/
def parkSeconds (s : State) : Nat := s.ret.config.parkTimeout * 60

/-- A live order is abandoned (R155). -/
def abandonOrder (o : Order) (s : State) : State :=
  s |> freeOrder o
    |> modRet (countGrand { ordersAbandoned := 1 })
    |> notify (.orderClosed .abandoned o.number o.ticket none none (some (liveLines o)) (some o.total))

/-- ORDER_ABANDONED (R155): a PARKED order that the coming tick brings to the park timeout, or that is
past it. Another order is not abandoned and nothing changes (log 3, 4). -/
def execOrderAbandoned (n : Nat) (s : State) : Host.Outcome State Fault Refusal :=
  match orderOf s.orders n with
  | none => .next s
  | some o =>
    if o.state = .parked ∧ parkSeconds s ≤ o.idle + 1 then .next (abandonOrder o s) else .next s

/-! ### ORDER_READ (R162) -/

def orderReadOp (tag : Nat) (number : Option Nat) (s : State) : State :=
  match number with
  | none => reply tag .ok (.orderList s.orders) s
  | some n =>
    if n < 1 ∨ Config.maxOrderNumber < n then refuseRequest tag .badRecord s
    else
      match orderOf s.orders n with
      | none => refuseRequest tag .noOrder s
      | some o => reply tag .ok (.order o) s

/-- ORDER_READ (R162). -/
def execOrderRead (tag : Nat) (number : Option Nat) (s : State) : Host.Outcome State Fault Refusal :=
  .next (arrive (.orderRead tag number) (orderReadOp tag number) s)

end Sys2Proof.Machine
end

