-- ==== Sys2Proof/Machine/Stations.lean ====
section
/-! DEFINITION. Ports, stations and operators: the line of a counter port, HELLO, STATUS frames,
supervision, LOGIN, LOGOUT and OPERATOR_WRITE (chapter 1). -/

namespace Sys2Proof.Machine

/-! ### Lines -/

/-- A port leaves UP or REFUSED: its place and its mask are given up, frames not yet sent are discarded (R1,
R133, R186). That a REFUSED frame not yet sent goes when a REFUSED port drops is the model's choice (log 40). -/
def portDown (p : CounterPort) (s : State) : State :=
  modPort p (fun c => { c with state := .down, mask := none, tx := [] }) s

/-- LINE_DROP (R1). -/
def execLineDrop (p : CounterPort) (s : State) : Host.Outcome State Fault Refusal :=
  match (s.port p).state with
  | .down => .next s
  | .refused => .next (portDown p s)
  | .up =>
    if (s.port p).online then .next (flush (dayTest (portDown p (goOffline p .lineDrop s))))
    else .next (portDown p s)

/-- LINE_RETURN (R1): the port stays DOWN until a HELLO or, on the uplink, a good frame is taken. The
line's level is no state of the hub (log 8). -/
def execLineReturn (_port : LinkPort) (s : State) : Host.Outcome State Fault Refusal := .next s

/-! ### HELLO (R2, R3, R7) -/

def kindLimit : DeviceKind → Nat
  | .scale => Config.maxScales
  | .dispenser => Config.maxDispensers
  | .callDisplay => Config.maxCallDisplays

/-- Other ports in UP that hold a place for a kind (R2, R3). -/
def placesHeld (s : State) (p : CounterPort) (k : DeviceKind) : Nat :=
  ((List.finRange 14).filter fun q =>
    decide (q ≠ p) && decide ((s.port q).state = .up) && decide ((s.port q).kind = some k)).length

/-- A mask that another call display in UP holds (R133). -/
def maskTaken (s : State) (p : CounterPort) (k : Fin 4) : Bool :=
  (List.finRange 14).any fun q =>
    decide (q ≠ p) && decide ((s.port q).state = .up) &&
      decide ((s.port q).kind = some .callDisplay) && decide ((s.port q).mask = some k)

/-- The mask of an attaching device: the one it holds, or the lowest that is free (R133). -/
def attachMask (s : State) (p : CounterPort) (k : DeviceKind) : Option (Fin 4) :=
  if k = .callDisplay then
    (s.port p).mask.or ((List.finRange 4).find? fun m => !maskTaken s p m)
  else none

def printerStateOf : PrinterCondition → PrinterState
  | .ready => .ready
  | _ => .fault

/-- The station restart (R7, R22): the context emptied and set afresh, error counts kept. -/
def restarted (s : State) (p : CounterPort) (k : DeviceKind) (sw : Switch) (pr : PrinterCondition) :
    Port :=
  let base : Port :=
    { Port.fresh s.ret.cal[p] with
      state := .up
      kind := some k
      online := true
      supervision := s.ret.config.supervisionReload
      mask := attachMask s p k
      errors := (s.port p).errors
      lastSent := (s.port p).lastSent }
  match k with
  | .scale =>
    { base with
      calSwitch := sw
      printer := printerStateOf pr
      sale := if sw = .on then .calibrating else .noOperator
      weigh := WeighCtx.fresh s.ret.cal[p] true
      displayDue := true }
  | _ => base

/-- A HELLO counted against its kind's limit: the port attaches or is REFUSED (R2, R3). A REFUSED port's
context, its device kind too, stays as it was before the HELLO (log 36). -/
def attach (p : CounterPort) (k : DeviceKind) (sw : Switch) (pr : PrinterCondition) (s : State) :
    State :=
  if placesHeld s p k < kindLimit k then
    s.setPort p (restarted s p k sw pr) |> notify (.stationState p (some k) .online .attach)
  else
    s |> modPort p (fun c => { c with state := .refused, mask := none, tx := [.refused] })
      |> notify (.stationState p (some k) .refused .kindLimit)

/-- A HELLO of a known kind on a port in any state (R2 to R4). The offline event of R3 runs whole first, with
the day close test that ends it (R174). -/
def helloOp (p : CounterPort) (k : DeviceKind) (sw : Switch) (pr : PrinterCondition) (s : State) :
    State :=
  match (s.port p).state with
  | .refused => modPort p (fun c => { c with tx := c.tx ++ [.refused] }) s
  | .down => attach p k sw pr s
  | .up =>
    if (s.port p).online then attach p k sw pr (dayTest (goOffline p .restart s))
    else attach p k sw pr s

/-- HELLO (R2, R3, R4). A kind that is none of the three makes it malformed. -/
def execHello (p : CounterPort) (kind : Option DeviceKind) (sw : Switch) (pr : PrinterCondition)
    (s : State) : Host.Outcome State Fault Refusal :=
  match kind with
  | none => .next (protocolError p s)
  | some k => .next (flush (helloOp p k sw pr s))

/-! ### STATUS frames (R12, R13, R116) -/

/-- The calibration switch reported ON or OFF (R12, R13). -/
def switchReport (p : CounterPort) (sw : Switch) (s : State) : State :=
  let c := s.port p
  if c.calSwitch = sw then s
  else
    let s1 := modPort p (fun c => { c with calSwitch := sw }) s
    match sw, c.sale with
    | .on, .noOperator => setSale p .calibrating none (leaveCalling p s1)
    | .on, .idle => setSale p .calibrating none (leaveCalling p s1)
    | .off, .calibrating =>
      setSale p (if c.operator.isSome then .idle else .noOperator) none s1
    | _, _ => s1

/-- The printer condition reported (R116). -/
def printerReport (p : CounterPort) (pr : PrinterCondition) (s : State) : State :=
  match pr, (s.port p).printer with
  | .ready, .fault => feedPrinter p (modPort p (fun c => { c with printer := .ready }) s)
  | .ready, .ready => s
  | _, _ => modPort p (fun c => { c with printer := .fault }) s

def statusOp (p : CounterPort) (sw : Switch) (pr : PrinterCondition) (s : State) : State :=
  if (s.port p).kind = some .scale then s |> switchReport p sw |> printerReport p pr else s

/-- STATUS_FRAME (R6, R12, R13, R116). -/
def execStatusFrame (p : CounterPort) (sw : Switch) (pr : PrinterCondition) (s : State) :
    Host.Outcome State Fault Refusal :=
  .next (flush (handOn p anyKind (statusOp p sw pr) s))

/-! ### Supervision (R8) -/

/-- The count of an ONLINE station reaches 0 (R8, R9). -/
def supervisionRunOut (p : CounterPort) (s : State) : State :=
  s |> modPort p (fun c => { c with supervision := 0 })
    |> goOffline p .supervision
    |> dayTest

/-- SUPERVISION_EXPIRY (R8): the last second of an ONLINE station's count is taken off, ahead of the
CLOCK_TICK that would do so. With more left there is no expiry and nothing changes (log 3, 4). -/
def execSupervisionExpiry (p : CounterPort) (s : State) : Host.Outcome State Fault Refusal :=
  if (s.port p).online ∧ (s.port p).supervision ≤ 1 then .next (flush (supervisionRunOut p s))
  else .next s

/-! ### Operators (R14 to R16) -/

/-- An operator number of a key or request, 1 to 32. -/
def operatorOfNumber (n : Nat) : Option OperatorNo :=
  if h : n - 1 < 32 then (if 1 ≤ n then some ⟨n - 1, h⟩ else none) else none

/-- The station an operator is logged in at. -/
def stationOf (s : State) (n : OperatorNo) : Option CounterPort :=
  (List.finRange 14).find? fun q => decide ((s.port q).operator = some n)

/-- The operator is logged out at a station where someone else's LOGIN takes them away (R15 step 1). -/
def logoutAt (q : CounterPort) (s : State) : State :=
  let s1 := s |> modPort q (fun c => { c with operator := none, displayDue := true }) |> leaveCalling q
  if (s.port q).sale = .idle then setSale q .noOperator none s1 else s1

/-- The checks of R15. -/
def loginRefusal (s : State) (p : CounterPort) (n : Nat) : Option MsgCode :=
  match operatorOfNumber n with
  | none => some .operatorUnknown
  | some k =>
    if (s.ret.operators[k]).any (·.enabled) then
      match stationOf s k with
      | some q =>
        if q ≠ p ∧ ((s.port q).sale = .item ∨ (s.port q).sale = .printing) then some .operatorBusy
        else none
      | none => none
    else some .operatorUnknown

/-- Steps 2 to 4 of R15 at the station of the key. -/
def loginAt (p : CounterPort) (k : OperatorNo) (s : State) : State :=
  let s1 := modPort p (fun c => { c with operator := some k, held := none, displayDue := true }) s
  if (s.port p).sale = .noOperator ∧ (s.port p).calSwitch = .off then setSale p .idle none s1 else s1

def loginOp (p : CounterPort) (n : Nat) (s : State) : State :=
  match loginRefusal s p n, operatorOfNumber n with
  | some m, _ => refuseKey p m s
  | none, some k =>
    let s1 :=
      match stationOf s k with
      | some q => if q ≠ p then logoutAt q s else s
      | none => s
    loginAt p k s1
  | none, none => s

/-- LOGIN (R15). -/
def execLogin (p : CounterPort) (n : Nat) (s : State) : Host.Outcome State Fault Refusal :=
  .next (keyEvent p (logGate · true) (loginOp p n) s)

/-- The operator is logged out (R16). -/
def logoutOp (p : CounterPort) (s : State) : State :=
  let s1 := s |> modPort p (fun c => { c with operator := none, held := none, displayDue := true })
    |> leaveCalling p
  if (s.port p).sale = .idle then setSale p .noOperator none s1 else s1

/-- LOGOUT (R16). -/
def execLogout (p : CounterPort) (s : State) : Host.Outcome State Fault Refusal :=
  .next (keyEvent p (logGate · false) (logoutOp p) s)

/-- The checks of R14, in the order it lists them: a bad name is answered ahead of a login (log 35). -/
def operatorWriteRefusal (s : State) (n : Nat) (r : Option OperatorRecord) : Option ResultCode :=
  match operatorOfNumber n with
  | none => some .badRecord
  | some k =>
    if r.any fun x => x.name.isEmpty || decide (12 < x.name.length) then some .badRecord
    else if (stationOf s k).isSome then some .operatorBusy
    else none

def operatorWriteOp (tag n : Nat) (r : Option OperatorRecord) (s : State) : State :=
  match operatorWriteRefusal s n r, operatorOfNumber n with
  | some code, _ => refuseRequest tag code s
  | none, some k =>
    s |> modRet (fun t => { t with operators := t.operators.set k r }) |> reply tag .ok .none
  | none, none => refuseRequest tag .badRecord s

/-- OPERATOR_WRITE (R14). -/
def execOperatorWrite (tag n : Nat) (r : Option OperatorRecord) (s : State) :
    Host.Outcome State Fault Refusal :=
  .next (arrive (.operatorWrite tag n r) (operatorWriteOp tag n r) s)

end Sys2Proof.Machine
end

