-- ==== Sys2Proof/Machine/Clocks.lean ====
section
/-! DEFINITION. The one-second tick with all it drives, TIME_SET and CONFIG_WRITE (chapter 11). -/

namespace Sys2Proof.Machine

/-! ### The clock's own step (R201) -/

/-- The clock after a tick, and whether it has run past its last date. -/
def Clock.tick (c : Clock) : Clock × Bool :=
  if c.second < 86399 then ({ c with second := c.second + 1 }, false)
  else if !c.valid then ({ c with second := 0 }, false)
  else if dateBefore c.date lastDate then ({ c with date := nextDate c.date, second := 0 }, false)
  else ({ c with second := 0, valid := false }, true)

/-- The tick at the clock, with the CLOCK_LOST notice carrying the last valid date. -/
def tickClock (s : State) : State :=
  let r := s.clock.tick
  let s1 := { s with clock := r.1 }
  if r.2 then notify (.clockLost r.1.date) s1 else s1

/-! ### Counts driven by the tick -/

/-- A ticket's call timer and age (R127, R139). -/
def TicketRec.tick (r : TicketRec) : TicketRec :=
  let aged := { r with age := satUp Config.maxAge r.age 1 }
  match r.state with
  | .waiting => aged
  | .skipped => aged
  | .called p timer => { aged with state := .called p (timer - 1) }
  | .free => r
  | .inService => r

/-- The commit drain (R80). -/
def CommitState.tick : CommitState → CommitState
  | .waiting d => .waiting (if d.expired then d else { d with timer := d.timer - 1 })
  | c => c

/-- The close drain (R173). -/
def DayState.tick : DayState → DayState
  | .closing timer expired => .closing (if expired then timer else timer - 1) expired
  | .trading => .trading

/-- Every count the tick drives, taken one step: supervision of ONLINE stations (R8), call timers, ticket
ages, order idle counts (R155) and the two drains. -/
def tickCounts (s : State) : State :=
  { s with
    ports := s.ports.map fun c => if c.online then { c with supervision := c.supervision - 1 } else c
    tickets := { s.tickets with recs := s.tickets.recs.map TicketRec.tick }
    orders := s.orders.map fun o => { o with idle := satUp Config.maxAge o.idle 1 }
    commit := s.commit.tick
    dayState := s.dayState.tick }

/-! ### What falls due at a tick -/

/-- The events a tick may bring about. -/
inductive TickEvent
  | supervision (p : CounterPort)
  | call (t : TicketNo)
  | abandon (order : Nat)
  | activation
  | commitDrain
  | closeDrain
  deriving DecidableEq, Repr

/-- The number under which Config.rank places an event. -/
def TickEvent.code : TickEvent → Nat
  | .supervision p => p.val
  | .call t => 20 + t.val
  | .activation => 14
  | .commitDrain => 15
  | .closeDrain => 16
  | .abandon n => 200 + n

/-- A call timer that stands at 0. -/
def timedOut : TicketState → Option CounterPort
  | .called p 0 => some p
  | _ => none

/-- A PARKED order at its park timeout (R155). -/
def parkedOut (s : State) (o : Order) : Bool :=
  decide (o.state = .parked) && decide (parkSeconds s ≤ o.idle)

/-- An event is due. -/
def tickDue (s : State) : TickEvent → Bool
  | .supervision p => (s.port p).online && decide ((s.port p).supervision = 0)
  | .call t => (timedOut (s.ticket t).state).isSome
  | .abandon n => (orderOf s.orders n).any (parkedOut s)
  | .activation => atMinute s && activationDue s
  | .commitDrain =>
    match s.commit with
    | .waiting d => !d.expired && decide (d.timer = 0)
    | _ => false
  | .closeDrain =>
    match s.dayState with
    | .closing timer expired => !expired && decide (timer = 0)
    | .trading => false

/-- What each event does: the event of the row of its name. -/
def runTickEvent (s : State) : TickEvent → State
  | .supervision p => supervisionRunOut p s
  | .call t =>
    match timedOut (s.ticket t).state with
    | some p => skipTicket t p s
    | none => s
  | .abandon n =>
    match orderOf s.orders n with
    | some o => abandonOrder o s
    | none => s
  | .activation => activationTest s
  | .commitDrain => commitDrainExpired s
  | .closeDrain => closeDrainExpired s

/-- An event taken, if it is still due when its turn comes: an event taken before it may have ended what
it is about. Each is an event of its own for R17, with one DISPLAY frame to each station it meets (R80). -/
def takeTickEvent (s : State) (e : TickEvent) : State :=
  if tickDue s e then flush (runTickEvent s e) else s

/-- Every event a tick could bring about. -/
def tickEvents (s : State) : List TickEvent :=
  (List.finRange 14).map TickEvent.supervision ++
    [TickEvent.activation, TickEvent.commitDrain, TickEvent.closeDrain] ++
    (List.finRange 100).map TickEvent.call ++
    s.orders.map fun o => TickEvent.abandon o.number

/-- The events a tick has brought; the activation test only at a minute boundary (R75). -/
def dueEvents (s : State) : List TickEvent := (tickEvents s).filter (tickDue s)

/-- The events in an order no rule fixes (log 5), each taken whole. -/
def takeDueEvents (s : State) : State :=
  (sortBy (fun e => Config.rank s.free e.code) (dueEvents s)).foldl takeTickEvent
    { s with free := s.free + 1 }

def clockTick (s : State) : State := s |> tickClock |> tickCounts |> takeDueEvents

/-- CLOCK_TICK (R201; R8, R75, R80, R127, R139, R155, R173): the clock first, then every count, then what
falls due (log 29). -/
def execClockTick (s : State) : Host.Outcome State Fault Refusal := .next (clockTick s)

/-! ### TIME_SET (R202) -/

def timeSetOp (tag : Nat) (d : Date) (second : Nat) (s : State) : State :=
  if !dateValid d || decide (86399 < second) then refuseRequest tag .outOfRange s
  else
    { s with clock := { date := d, second := second, valid := true } }
      |> reply tag .ok (.clock s.clock)
      |> activationTest

/-- TIME_SET (R202, R75). -/
def execTimeSet (tag : Nat) (d : Date) (second : Nat) (s : State) :
    Host.Outcome State Fault Refusal :=
  .next (arrive (.timeSet tag d second) (timeSetOp tag d second) s)

/-! ### CONFIG_WRITE (R200) -/

/-- The field an entry names; `none` when its identifier is not in the table. -/
def configFieldOf : ConfigEntry → Option ConfigField
  | .number f _ => some (.number f)
  | .mask k _ => some (.mask k)
  | .zeroTracking _ => some .zeroTracking
  | .unknown _ => none

/-- An entry that fails by itself: an unknown identifier, or a tracking value neither ON nor OFF. -/
def entryFails : ConfigEntry → Bool
  | .unknown _ => true
  | .zeroTracking none => true
  | _ => false

/-- The position, from 1, of the first failing entry; of two entries with one identifier the later fails
(log 26). -/
def firstFailing : Nat → List ConfigField → List ConfigEntry → Option Nat
  | _, _, [] => none
  | n, seen, e :: es =>
    match configFieldOf e with
    | none => some n
    | some f =>
      if entryFails e || seen.contains f then some n else firstFailing (n + 1) (f :: seen) es

/-- The range of a field (11.2). -/
def numberRange : NumberField → Nat × Nat
  | .supervisionReload => (2, 10)
  | .commitDrain => (5, 300)
  | .closeDrain => (5, 300)
  | .callTimeout => (30, 600)
  | .parkTimeout => (5, 120)
  | .serviceRatio => (1, 4)

def withNumber (f : NumberField) (v : Nat) (c : ConfigRecord) : ConfigRecord :=
  match f with
  | .supervisionReload => { c with supervisionReload := v }
  | .commitDrain => { c with commitDrain := v }
  | .closeDrain => { c with closeDrain := v }
  | .callTimeout => { c with callTimeout := v }
  | .parkTimeout => { c with parkTimeout := v }
  | .serviceRatio => { c with serviceRatio := v }

/-- A mask as stored: stations 1 to 14 of those named (R200). A station named more than once is held once, and the
field is not clamped for it (DESIGN CHOICE, log 43). -/
def maskOf (stations : List (Fin 16)) : StationMask :=
  Vector.ofFn fun p => stations.any fun n => n.val == p.val + 1

/-- One entry applied. -/
def applyEntry (c : ConfigRecord) : ConfigEntry → ConfigRecord
  | .number f v => withNumber f (clamp (numberRange f).1 (numberRange f).2 v) c
  | .mask k stations => { c with masks := c.masks.set k (maskOf stations) }
  | .zeroTracking (some b) => { c with zeroTracking := b }
  | .zeroTracking none => c
  | .unknown _ => c

/-- The field of an entry whose value had to be changed to fit. -/
def clampedField : ConfigEntry → Option ConfigField
  | .number f v =>
    if clamp (numberRange f).1 (numberRange f).2 v = v then none else some (.number f)
  | .mask k stations =>
    if stations.any fun n => n.val == 0 || n.val == 15 then some (.mask k) else none
  | .zeroTracking _ => none
  | .unknown _ => none

def configWriteOp (tag : Nat) (entries : List ConfigEntry) (s : State) : State :=
  if 11 < entries.length then badFrame tag s
  else
    match firstFailing 1 [] entries with
    | some n => reply tag .badRecord (.position n) s
    | none =>
      let c := entries.foldl applyEntry s.ret.config
      s |> modRet (fun r => { r with config := c })
        |> reply tag .ok (.config (entries.filterMap clampedField) c)

/-- CONFIG_WRITE (R200). -/
def execConfigWrite (tag : Nat) (entries : List ConfigEntry) (s : State) :
    Host.Outcome State Fault Refusal :=
  .next (arrive (.configWrite tag entries) (configWriteOp tag entries) s)

end Sys2Proof.Machine
end

