-- ==== Sys2Proof/Machine/LabelImage.lean ====
section
/-! DEFINITION. From a template and its sources to a label image: sources, placing, truncation and the
barcode slot (5.3 to 5.5). -/

namespace Sys2Proof.Machine

/-- The group of a field kind (R92): numeric and date fields may not be truncated (R99). -/
def mustFit : FieldKind → Bool
  | .itemName => false
  | .extraText => false
  | .operatorName => false
  | .fixedText => false
  | .copyMark => false
  | .barcode => false
  | _ => true

/-- The name in the operator table of an operator; absent when the number is absent there. -/
def operatorName (ops : Vector (Option OperatorRecord) 32) (n : Option OperatorNo) : Option Text :=
  n.bind fun k => ops[k].map (·.name)

/-- The SELL_BY date of a sale record (R93). -/
def sellByDate (sr : SaleRecord) : Option Date :=
  match sr.stamp.date, sr.item.sellBy with
  | some d, some n => some (addDays d n)
  | _, _ => none

/-- The source of a field on an ITEM or REPRINT job (R92), as internal text; `none` when absent. -/
def itemFieldText (ops : Vector (Option OperatorRecord) 32) (sr : SaleRecord) (serial : Nat)
    (copy : Bool) (f : FieldDesc) : Option Text :=
  let weighed := decide (sr.item.mode = .byWeight)
  match f.kind with
  | .itemName => some sr.item.name
  | .extraText => sr.item.extra
  | .operatorName => operatorName ops sr.operator
  | .fixedText => some (f.text.getD [])
  | .copyMark => if copy then some (f.text.getD []) else none
  | .netWeight => if weighed then some (renderWeight sr.quantity) else none
  | .tare => if weighed then some (renderWeight sr.tare.value) else none
  | .unitPrice => some (renderAmount sr.item.price)
  | .totalPrice => some (renderAmount sr.amounts.final)
  | .saving => some (renderAmount sr.amounts.markdown)
  | .quantity => if weighed then none else some (renderInt sr.quantity)
  | .pluNumber => some (renderInt sr.item.plu)
  | .ticket => sr.order.map fun o => renderFixed 2 o.2.val
  | .serial => some (renderInt serial)
  | .station => some (renderInt sr.station.number)
  | .orderTotal => none
  | .lineCount => none
  | .orderNumber => sr.order.map fun o => renderInt o.1
  | .packDate => sr.stamp.date.map renderDate
  | .sellBy => (sellByDate sr).map renderDate
  | .barcode => none

/-- The source of a field on a SUMMARY job (R92). -/
def summaryFieldText (ops : Vector (Option OperatorRecord) 32) (o : Order) (station : CounterPort)
    (operator : Option OperatorNo) (stamp : Stamp) (serial : Nat) (f : FieldDesc) : Option Text :=
  match f.kind with
  | .operatorName => operatorName ops operator
  | .fixedText => some (f.text.getD [])
  | .ticket => some (renderFixed 2 o.ticket.val)
  | .serial => some (renderInt serial)
  | .station => some (renderInt station.number)
  | .orderTotal => some (renderAmount o.total)
  | .lineCount => some (renderInt (liveLines o))
  | .orderNumber => some (renderInt o.number)
  | .packDate => stamp.date.map renderDate
  | .itemName => none
  | .extraText => none
  | .copyMark => none
  | .netWeight => none
  | .tare => none
  | .unitPrice => none
  | .totalPrice => none
  | .saving => none
  | .quantity => none
  | .pluNumber => none
  | .sellBy => none
  | .barcode => none

/-- A character's printer code under a translation (R90). -/
def translateCode (t0 t1 : Vector Byte 256) (tr : Translation) (c : Byte) : Byte :=
  match tr with
  | .none => c
  | .table0 => t0[c.toNat]'c.isLt
  | .table1 => t1[c.toNat]'c.isLt

/-- Text fitted to a width (R97): the codes, and whether some were lost. -/
def fitText (width : Nat) (justify : Justify) (fill : Byte) (t : List Byte) : List Byte × Bool :=
  let pad := List.replicate (width - t.length) fill
  match justify with
  | .left => (t.take width ++ pad, decide (width < t.length))
  | .right => (pad ++ t.drop (t.length - width), decide (width < t.length))

/-- A field's columns and whether it was TRUNCATED; an absent field is fill throughout (R95, R96). -/
def placeField (t0 t1 : Vector Byte 256) (f : FieldDesc) (text : Option Text) : List Byte × Bool :=
  match text with
  | none => (List.replicate f.width f.fill, false)
  | some t =>
    let t1' := if f.trim then trimRight t else t
    fitText f.width f.justify f.fill (t1'.map (translateCode t0 t1 f.translation))

/-- Codes written into the grid from a line and column, both counted from 1 (R98). -/
def writeGrid (line column : Nat) (codes grid : List Byte) : List Byte :=
  let at_ := 32 * (line - 1) + (column - 1)
  grid.take at_ ++ codes ++ grid.drop (at_ + codes.length)

/-- Every position of a fresh grid holds printer code 32 (5.3). -/
def emptyGrid : List Byte := List.replicate 256 spaceCode

/-- The fields composed in list order: the grid, and whether a numeric or date field was TRUNCATED
(R98, R99). A BARCODE field is not placed. -/
def composeFields (t0 t1 : Vector Byte 256) (text : FieldDesc → Option Text) :
    List FieldDesc → List Byte × Bool → List Byte × Bool
  | [], acc => acc
  | f :: fs, acc =>
    if f.kind = .barcode then composeFields t0 t1 text fs acc
    else
      let r := placeField t0 t1 f (text f)
      composeFields t0 t1 text fs
        (writeGrid f.line f.column r.1 acc.1, acc.2 || (mustFit f.kind && r.2))

/-- The image of a template with its field sources and barcode digits, and the overflow of R99. -/
def imageOf (c : Composition) (text : FieldDesc → Option Text) (barcode : List Nat) :
    LabelImage × Bool :=
  let r := composeFields c.table0 c.table1 text c.template.fields (emptyGrid, false)
  ({ grid := r.1
     barcode := if c.template.fields.any fun f => decide (f.kind = .barcode) then some barcode
       else none }, r.2)

/-- The template an item's number gives: kind ITEM only (R43, R105). -/
def itemTemplate (ret : Retained) (n : Nat) : Option Template :=
  (entryAt ret.templates (n - 1)).filter fun t => decide (t.kind = .item) && decide (1 ≤ n)

/-- The template of kind SUMMARY with the lowest number (R105). -/
def summaryTemplate (ret : Retained) : Option Template :=
  ret.templates.toList.findSome? fun t => t.filter fun t => decide (t.kind = .summary)

/-- The template has a PACK_DATE or SELL_BY field (R43, R56). -/
def hasDateField (t : Template) : Bool :=
  t.fields.any fun f => decide (f.kind = .packDate) || decide (f.kind = .sellBy)

end Sys2Proof.Machine
end

