-- ==== Sys2Proof/Machine/Composer.lean ====
section
/-! DEFINITION. The composer's two steps, TAKE_DECISION and COMPOSITION_COMPLETE, and what a post, an
issue and a refusal do (5.6, 5.7, 6.3). -/

namespace Sys2Proof.Machine

/-! ### Refusals -/

/-- The drain that has already passed a station's snapshot, by its message (R61). -/
def passedDrain (s : State) (sn : Snapshot) : Option MsgCode :=
  match s.commit, s.dayState with
  | .waiting d, _ =>
    if d.expired ∧ sn.generation = prevGen s.ret.generation then some .priceChanged else none
  | _, .closing _ true => some .dayClosing
  | _, _ => none

/-- A refused ITEM job returns the station to ITEM; a drain that has passed its snapshot cancels it at
once (R61). -/
def refuseItem (p : CounterPort) (m : MsgCode) (s : State) : State :=
  let s1 := s |> modPort p (fun c => { c with record := none }) |> setSale p .item (some m) |> reprice p
  match (s1.port p).snapshot.bind (passedDrain s1) with
  | some d => forcedCancel d p s1
  | none => s1

/-- A refused SUMMARY job leaves the order OPEN and the station IDLE with the code held (R160). -/
def refuseSummary (p : CounterPort) (n : Nat) (m : MsgCode) (s : State) : State :=
  s |> modOrder n (fun o => { o with summaryInFlight := false }) |> toIdle p (some m)

/-- A refusal reported to its owner (R107). -/
def reportRefusal (j : Job) (m : MsgCode) (s : State) : State :=
  match j.source with
  | .item _ => refuseItem j.station m s
  | .reprint _ => holdMessage j.station m s
  | .summary n _ _ => refuseSummary j.station n m s

/-! ### Taking a job (R104, R105) -/

def isSummary (j : Job) : Bool :=
  match j.source with
  | .summary _ _ _ => true
  | _ => false

/-- A job is eligible when its station's free list holds a slot (R104). -/
def eligible (s : State) (j : Job) : Bool := !(s.port j.station).slots.free.isEmpty

/-- The take decision's choice: the job and the service count it leaves (R104). -/
def takeChoice (s : State) : Option (Job × Nat) :=
  let sum := s.composer.queue.find? fun j => eligible s j && isSummary j
  let oth := s.composer.queue.find? fun j => eligible s j && !isSummary j
  match sum, oth with
  | none, none => none
  | some j, none => some (j, 0)
  | none, some k => some (k, 0)
  | some j, some k =>
    if s.ret.config.serviceRatio ≤ s.composer.serviceCount then some (j, 0)
    else some (k, s.composer.serviceCount + 1)

/-- The refusal a REPRINT job's log entry gives at its start (R105). -/
def entryRefusal (e : LogEntry) : Option MsgCode :=
  if e.state ≠ .printed then some .notVoidable
  else if Config.maxReprints ≤ e.reprints then some .reprintLimit
  else none

/-- The template of a job, or the refusal at its start (R105). Where a reprint is refused both for its
entry and for its template, no rule orders the two (log 19): the choice is free. -/
def startOf (s : State) (j : Job) : Except MsgCode Template :=
  match j.source with
  | .item sr =>
    match itemTemplate s.ret sr.item.template with
    | some t => .ok t
    | none => .error .templateMissing
  | .summary _ _ _ =>
    match summaryTemplate s.ret with
    | some t => .ok t
    | none => .error .templateMissing
  | .reprint serial =>
    match logEntry s serial with
    | none => .error .notInLog
    | some e =>
      match entryRefusal e, e.sale.bind fun sr => itemTemplate s.ret sr.item.template with
      | none, some t => .ok t
      | none, none => .error .templateMissing
      | some m, some _ => .error m
      | some m, none => if Config.freeBit s.free then .error m else .error .templateMissing

/-- Taking a job clears PRINTER_BUSY from its station, if it is still the held message (R103). -/
def clearPrinterBusy (p : CounterPort) (s : State) : State :=
  if (s.port p).held = some .printerBusy then clearHeld p s else s

/-- The composition of a taken job starts, or ends at its start (R105). -/
def startComposition (j : Job) (s : State) : State :=
  match startOf s j with
  | .ok t =>
    let c : Composition :=
      { job := j, template := t, table0 := s.ret.table0, table1 := s.ret.table1, dropped := false }
    { s with composer := { s.composer with current := some c } }
  | .error m => dayTest (reportRefusal j m { s with free := s.free + 1 })

/-- The take decision (R104). -/
def takeDecision (s : State) : State :=
  match s.composer.current, takeChoice s with
  | none, some (j, n) =>
    { s with composer := { s.composer with
        queue := s.composer.queue.filter fun k => k.station ≠ j.station, serviceCount := n } }
      |> clearPrinterBusy j.station
      |> startComposition j
  | _, _ => s

/-- TAKE_DECISION (R104, R105): the FREE composer takes the next eligible job and starts it. -/
def execTakeDecision (s : State) : Host.Outcome State Fault Refusal := .next (flush (takeDecision s))

/-! ### Posting and issuing (R107, R111, R117) -/

/-- A label posted to the head of the station's free list (R111). -/
def postLabel (p : CounterPort) (k : SlotNo) (l : SlotLabel) (s : State) : State :=
  modPort p (fun c =>
    { c with slots := { c.slots with
        labels := c.slots.labels.set k (some l)
        free := c.slots.free.tail
        post := c.slots.post ++ [k] } }) s

/-- The next serial taken (R118). -/
def takeSerial (s : State) : State :=
  modRet (fun r => { r with day := { r.day with nextSerial := r.day.nextSerial + 1 } }) s

/-- A new log entry, over the oldest when 256 stand (R119). -/
def pushLog (e : LogEntry) (s : State) : State :=
  { s with log := (s.log ++ [e]).drop ((s.log ++ [e]).length - Config.maxLog) }

/-- The line an issued item label makes (R151). -/
def lineOf (serial : Nat) (sr : SaleRecord) : OrderLine where
  serial := serial
  plu := sr.item.plu
  quantity := sr.quantity
  final := sr.amounts.final
  generation := sr.generation
  voided := false

/-- A line appended to a live order (R151). -/
def appendLine (n serial : Nat) (sr : SaleRecord) (s : State) : State :=
  modOrder n (fun o =>
    { o with lines := o.lines ++ [lineOf serial sr], total := o.total + sr.amounts.final, idle := 0 }) s

/-- The stale-sale test of an issue (R63). -/
def countStale (sr : SaleRecord) (s : State) : State :=
  if sr.generation = prevGen s.ret.generation then modRet (countGrand { staleSales := 1 }) s else s

/-- Issue of an item label (R117, R60). -/
def issueItem (p : CounterPort) (sr : SaleRecord) (s : State) : State :=
  let serial := s.ret.day.nextSerial
  let order := sr.order.map (·.1)
  let s1 := s |> takeSerial
    |> pushLog { serial := serial, sale := some sr, state := .posted, reprints := 0, station := p,
                 order := order, day := s.ret.day.number }
    |> modRet (moveSale true sr)
    |> countStale sr
  let s2 :=
    match order with
    | some n => appendLine n serial sr s1
    | none => s1
  s2 |> notify (.itemIssued serial p sr.item.plu sr.quantity sr.amounts.final order)
     |> closeSnapshot p
     |> modPort p (fun c => { c with record := none })
     |> toIdle p none

/-- Issue of a summary label, and the order's close SERVED (R117, R159). -/
def issueSummary (p : CounterPort) (o : Order) (s : State) : State :=
  let serial := s.ret.day.nextSerial
  s |> takeSerial
    |> pushLog { serial := serial, sale := none, state := .posted, reprints := 0, station := p,
                 order := some o.number, day := s.ret.day.number }
    |> notify (.summaryIssued serial p o.number o.total)
    |> modRet (countGrand { ordersClosed := 1 })
    |> notify (.orderClosed .served o.number o.ticket (some p) (some serial) (some (liveLines o))
        (some o.total))
    |> freeOrder o
    |> setService p .free
    |> toIdle p none

/-- A posted reprint (R124): with no held message to clear, the station is shown nothing (R17). -/
def postReprint (p : CounterPort) (serial : Nat) (s : State) : State :=
  s |> modLog serial (fun e => { e with reprints := e.reprints + 1 })
    |> countBoth p { reprints := 1 } { reprints := 1 }
    |> if (s.port p).held.isSome then clearHeld p else id

/-- A composed label posted, issued where its class asks for it, and the printer fed (R107 step 5,
R111, R112, R117, R124). R107 says that the free list is never empty here. -/
def postOutcome (p : CounterPort) (l : SlotLabel) (after : State → State) (s : State) :
    Except Fault State :=
  match (s.port p).slots.free with
  | [] => .error .noFreeSlot
  | k :: _ => .ok (s |> postLabel p k l |> after |> feedPrinter p)

/-- The outcome of a completed composition that is not dropped (R107). -/
def completeJob (c : Composition) (s : State) : Except Fault State :=
  let p := c.job.station
  let ops := s.ret.operators
  let serial := s.ret.day.nextSerial
  let day := s.ret.day.number
  match c.job.source with
  | .item sr =>
    let r := imageOf c (itemFieldText ops sr serial false) (itemBarcode sr.item.plu sr.amounts.final)
    if r.2 then .ok (refuseItem p .labelFieldOverflow s)
    else postOutcome p { cls := .item, image := r.1, serial := serial, day := day, sale := some sr }
      (issueItem p sr) s
  | .reprint n =>
    match (logEntry s n).filter (fun e => decide (e.state = .printed)) |>.bind (·.sale) with
    | none => .ok (holdMessage p .notVoidable s)
    | some sr =>
      let r := imageOf c (itemFieldText ops sr n true) (itemBarcode sr.item.plu sr.amounts.final)
      if r.2 then .ok (holdMessage p .labelFieldOverflow s)
      else postOutcome p { cls := .reprint, image := r.1, serial := n, day := day, sale := none }
        (postReprint p n) s
  | .summary n operator stamp =>
    match orderOf s.orders n with
    | none => .error .lostOrder
    | some o =>
      let r := imageOf c (summaryFieldText ops o p operator stamp serial)
        (summaryBarcode o.number o.total)
      if r.2 then .ok (refuseSummary p n .labelFieldOverflow s)
      else postOutcome p { cls := .summary, image := r.1, serial := serial, day := day, sale := none }
        (issueSummary p o) s

/-- The composer becomes FREE (R107). -/
def freeComposer (s : State) : State := { s with composer := { s.composer with current := none } }

/-- COMPOSITION_COMPLETE (R107): a dropped result is discarded, another refused or posted; the composer
is then FREE and the day close test is made (R174). With nothing in composition there is no completion
and nothing changes (log 4). -/
def execCompositionComplete (s : State) : Host.Outcome State Fault Refusal :=
  match s.composer.current with
  | none => .next s
  | some c =>
    let s1 := freeComposer s
    if c.dropped then .next (flush (dayTest s1))
    else
      match completeJob c s1 with
      | .ok s2 => .next (flush (dayTest s2))
      | .error f => .fault f

end Sys2Proof.Machine
end

