-- ==== Sys2Proof/Machine/Sale.lean ====
section
/-! DEFINITION. The keys of a sale: PLU, QTY, PRINT and CANCEL (chapter 3). -/

namespace Sys2Proof.Machine

/-! ### PLU (R43 to R46) -/

/-- The checks of R43 in order: the record the key selects, or its refusal. -/
def pluRecord (s : State) (n : Nat) : Except MsgCode ItemRecord :=
  if s.dayState.isClosing then .error .dayClosing
  else if !pluInRange n then .error .noItem
  else
    match itemOf s.ret.items n with
    | none => .error .noItem
    | some r =>
      if r.status = .retired then .error .itemRetired
      else
        match itemTemplate s.ret r.item.template with
        | none => .error .templateMissing
        | some t => if hasDateField t && !s.clock.valid then .error .clockNotSet else .ok r

/-- The snapshot a record opens (R44, R45): quantity 1, no live price. -/
def snapshotOf (s : State) (r : ItemRecord) : Snapshot where
  item := r.item
  generation := s.ret.generation
  percent := percentInForce r.markdown s.clock
  quantity := 1
  live := none

/-- A new snapshot at a station: filled, its preset tare offered, priced, and the station in ITEM
(R46). -/
def openSnapshot (p : CounterPort) (r : ItemRecord) (s : State) : State :=
  let s1 := modPort p (fun c => { c with snapshot := some (snapshotOf s r) }) s
  let offer := offerPreset p r.item.presetTare s1
  offer.1 |> reprice p
    |> modPort p (fun c => { c with sale := .item, held := offer.2, displayDue := true })

/-- The old snapshot closes first; where that completes a commit the new one is filled from the table as
the completion leaves it (R46, R79). A DELETE of the keyed number leaves its record RETIRED there, as for a
number that an open snapshot names (log 24), so the table always holds the record. -/
def pluOp (p : CounterPort) (n : Nat) (s : State) : State :=
  match pluRecord s n with
  | .error m => refuseKey p m s
  | .ok r =>
    let s1 := closeSnapshotFor [n] p s
    openSnapshot p ((itemOf s1.ret.items n).getD r) s1

/-- PLU (R43 to R46). -/
def execPlu (p : CounterPort) (n : Nat) (s : State) : Host.Outcome State Fault Refusal :=
  .next (keyEvent p salesGate (pluOp p n) s)

/-! ### QTY (R53, R55) -/

/-- The open snapshot of a station in ITEM. -/
def snapshotInItem (c : Port) : Option Snapshot := if c.sale = .item then c.snapshot else none

/-- The refusal of a QTY key (R53). -/
def qtyRefusal (c : Port) (q : Nat) : Option MsgCode :=
  match snapshotInItem c with
  | none => some .notCountItem
  | some sn =>
    if sn.item.mode ≠ .byCount then some .notCountItem
    else if q < 1 ∨ 999 < q then some .qtyRange
    else none

def qtyOp (p : CounterPort) (q : Nat) (s : State) : State :=
  match qtyRefusal (s.port p) q with
  | some m => refuseKey p m s
  | none =>
    s |> modPort p (fun c => { c with snapshot := c.snapshot.map fun sn => { sn with quantity := q } })
      |> reprice p
      |> clearHeld p

/-- QTY (R53). -/
def execQty (p : CounterPort) (q : Nat) (s : State) : Host.Outcome State Fault Refusal :=
  .next (keyEvent p salesGate (qtyOp p q) s)

/-! ### PRINT (R56 to R59) -/

/-- The order a sale joins: the OPEN order of a SERVING station (R56, R58). -/
def servedOrder (s : State) (p : CounterPort) : Option Order :=
  if (s.port p).service = .serving then orderOpenAt s.orders p else none

/-- Check 1 of R56: a BY_WEIGHT sale needs a priceable result; the displayed net is its quantity. -/
def printQuantity (c : Port) (sn : Snapshot) : Except MsgCode Nat :=
  match sn.item.mode with
  | .byWeight => priceableNet c.weigh.latest
  | .byCount => .ok sn.quantity
  | .fixed => .ok 1

/-- Check 2 of R56: the live price as it stands when the key is taken. -/
def printAmounts (c : Port) (sn : Snapshot) : Except MsgCode Amounts :=
  let l := sn.live.getD (livePrice sn c.weigh.latest)
  match l.message, l.amounts with
  | some m, _ => .error m
  | none, some a => .ok a
  | none, none => .error .noData

/-- Check 3 of R56: a date field needs a valid clock; a number with no template passes. -/
def dateMissing (s : State) (sn : Snapshot) : Bool :=
  !s.clock.valid &&
    (entryAt s.ret.templates (sn.item.template - 1)).any hasDateField

/-- Checks 3 to 7 of R56. -/
def printRefusal (s : State) (p : CounterPort) (sn : Snapshot) (final : Nat) : Option MsgCode :=
  if dateMissing s sn then some .clockNotSet
  else if hasJob s p then some .busy
  else if (servedOrder s p).any (fun o => Config.maxLines ≤ o.lines.length) then some .orderFull
  else if (servedOrder s p).any (fun o => Config.maxOrderTotal < o.total + final) then
    some .orderLimit
  else if serialExhausted s then some .serialExhausted
  else none

/-- The sale record of an accepted PRINT (R58). -/
def saleRecord (s : State) (p : CounterPort) (sn : Snapshot) (q : Nat) (a : Amounts) : SaleRecord where
  item := sn.item
  generation := sn.generation
  percent := sn.percent
  quantity := q
  tare := if sn.item.mode = .byWeight then (s.port p).weigh.tare else noTare
  amounts := a
  order := (servedOrder s p).map fun o => (o.number, o.ticket)
  operator := (s.port p).operator
  station := p
  stamp := s.clock.stamp

/-- The station enters PRINTING with its frozen sale, and the ITEM job joins the queue (R59). -/
def enterPrinting (p : CounterPort) (r : SaleRecord) (s : State) : State :=
  s |> modPort p (fun c =>
        { c with
          sale := .printing
          record := some r
          snapshot := c.snapshot.map fun sn => { sn with live := none }
          held := none
          displayDue := true })
    |> joinComposer { station := p, source := .item r }

/-- The checks of R56 in order: the frozen sale record, or the refusal. -/
def printSale (s : State) (p : CounterPort) : Except MsgCode SaleRecord :=
  match snapshotInItem (s.port p) with
  | none => .error .notSelected
  | some sn =>
    match printQuantity (s.port p) sn with
    | .error m => .error m
    | .ok q =>
      match printAmounts (s.port p) sn with
      | .error m => .error m
      | .ok a =>
        match printRefusal s p sn a.final with
        | some m => .error m
        | none => .ok (saleRecord s p sn q a)

def printOp (p : CounterPort) (s : State) : State :=
  match printSale s p with
  | .error m => refuseKey p m s
  | .ok r => enterPrinting p r s

/-- PRINT (R55 to R59). -/
def execPrint (p : CounterPort) (s : State) : Host.Outcome State Fault Refusal :=
  .next (keyEvent p salesGate (printOp p) s)

/-! ### CANCEL (R54) -/

/-- In ITEM the snapshot closes and the station goes to IDLE; the day close test follows the close
(R174). In IDLE the held message is cleared. -/
def cancelOp (p : CounterPort) (s : State) : State :=
  if (s.port p).sale = .item then dayTest (toIdle p none (closeSnapshot p s)) else clearHeld p s

/-- CANCEL (R54). -/
def execCancel (p : CounterPort) (s : State) : Host.Outcome State Fault Refusal :=
  .next (keyEvent p salesGate (cancelOp p) s)

end Sys2Proof.Machine
end

