-- ==== Sys2Proof/Machine/Labels.lean ====
section
/-! DEFINITION. Labels after their issue and what they are made from: VOID, REPRINT, PRINT_DONE,
TEMPLATE_WRITE and TRANSLATE_WRITE (chapters 5 and 6). -/

namespace Sys2Proof.Machine

/-! ### VOID (R121, R122) -/

/-- The order a log entry belongs to is the order OPEN at this SERVING station (R121): the number is
checked with the line of the label, since a number may come round again in a day (R147). -/
def entryOrderOpen (s : State) (p : CounterPort) (e : LogEntry) : Bool :=
  match e.order with
  | none => true
  | some n =>
    (servedOrder s p).any fun o => o.number == n && o.lines.any fun l => l.serial == e.serial

/-- The void permission of the operator logged in at a station (R121). -/
def mayVoid (s : State) (p : CounterPort) : Bool :=
  ((s.port p).operator.bind fun k => s.ret.operators[k]).any (·.voidPermission)

/-- The checks of R121 in order: the entry and its sale, or the refusal. -/
def voidTarget (s : State) (p : CounterPort) (serial : Nat) :
    Except MsgCode (LogEntry × SaleRecord) :=
  match logEntry s serial with
  | none => .error .notInLog
  | some e =>
    if e.state = .voided ∨ e.state = .unprinted then .error .alreadyVoid
    else
      match e.sale with
      | none => .error .notVoidable
      | some sr =>
        if e.state = .posted ∨ e.station ≠ p ∨ !entryOrderOpen s p e then .error .notVoidable
        else if !mayVoid s p then .error .noPermission
        else .ok (e, sr)

/-- A posted reprint of a serial of this day that is not outstanding (R122 step 4; log 25). -/
def withdrawable (serial day : Nat) (c : SlotCtx) (k : SlotNo) : Bool :=
  decide (c.outstanding ≠ some k) &&
    c.labels[k].any fun l => decide (l.cls = .reprint) && l.serial == serial && l.day == day

/-- The withdrawals at one station; their slots join its free list in post-list order (log 37). -/
def withdrawAt (serial day : Nat) (c : SlotCtx) : SlotCtx :=
  (c.post.filter (withdrawable serial day c)).foldl (fun acc k => acc.release k) c

def withdrawReprints (serial : Nat) (s : State) : State :=
  { s with ports := s.ports.map fun c => { c with slots := withdrawAt serial s.ret.day.number c.slots } }

/-- The counts of a keyed void (R167). -/
def countVoid (p : CounterPort) (op : Option OperatorNo) (final : Nat) (s : State) : State :=
  s |> modRet (countOperator op { voids := 1, voidValue := final })
    |> countBoth p { voids := 1 } { voids := 1, voidValue := final }

/-- An accepted VOID (R122). -/
def acceptVoid (p : CounterPort) (e : LogEntry) (sr : SaleRecord) (s : State) : State :=
  let op := (s.port p).operator
  let s1 := s |> modLog e.serial (fun x => { x with state := .voided })
    |> modRet (moveSale false sr)
    |> countVoid p op sr.amounts.final
  let s2 :=
    match e.order with
    | some n => markLineVoided n e.serial true s1
    | none => s1
  s2 |> withdrawReprints e.serial |> notify (.labelVoided e.serial p (.key op)) |> clearHeld p

def voidOp (p : CounterPort) (serial : Nat) (s : State) : State :=
  match voidTarget s p serial with
  | .error m => refuseKey p m s
  | .ok (e, sr) => acceptVoid p e sr s

/-- VOID (R121, R122). -/
def execVoid (p : CounterPort) (serial : Nat) (s : State) : Host.Outcome State Fault Refusal :=
  .next (keyEvent p salesGate (idleOnly p (voidOp p serial)) s)

/-! ### REPRINT (R123) -/

/-- The checks of R123 in order. -/
def reprintRefusal (s : State) (p : CounterPort) (serial : Nat) : Option MsgCode :=
  match logEntry s serial with
  | none => some .notInLog
  | some e =>
    if e.sale.isNone ∨ e.state ≠ .printed then some .notVoidable
    else if Config.maxReprints ≤ e.reprints then some .reprintLimit
    else if hasJob s p then some .busy
    else none

def reprintOp (p : CounterPort) (serial : Nat) (s : State) : State :=
  match reprintRefusal s p serial with
  | some m => refuseKey p m s
  | none => s |> clearHeld p |> joinComposer { station := p, source := .reprint serial }

/-- REPRINT (R123). -/
def execReprint (p : CounterPort) (serial : Nat) (s : State) : Host.Outcome State Fault Refusal :=
  .next (keyEvent p salesGate (idleOnly p (reprintOp p serial)) s)

/-! ### PRINT_DONE (R113 to R115) -/

/-- The log takes a print completion: an entry of the slot's serial and day that is POSTED becomes
PRINTED (R113 step 2). -/
def markPrinted (l : SlotLabel) (s : State) : State :=
  if l.cls = .reprint then s
  else modLog l.serial (fun e =>
    if e.state = .posted ∧ e.day = l.day then { e with state := .printed } else e) s

/-- The label of a slot, if it holds one, with an effect of it. -/
def withLabel (p : CounterPort) (k : SlotNo) (f : SlotLabel → State → State) (s : State) : State :=
  match (s.port p).slots.labels[k] with
  | none => s
  | some l => f l s

/-- PRINT_DONE with OK for the outstanding slot (R113). -/
def labelPrinted (p : CounterPort) (k : SlotNo) (s : State) : State :=
  s |> withLabel p k markPrinted
    |> modPort p (fun c => { c with slots := { c.slots.release k with outstanding := none } })
    |> modRet (countStation p { labelsPrinted := 1 })
    |> feedPrinter p

/-- PRINT_DONE with a printer fault for the outstanding slot (R114). -/
def labelFailed (p : CounterPort) (s : State) : State :=
  modPort p (fun c =>
    { c with printer := .fault, slots := { c.slots with outstanding := none } }) s

def printDoneOp (p : CounterPort) (slot : Nat) (outcome : PrintOutcome) (s : State) : State :=
  match (s.port p).slots.outstanding with
  | none => protocolError p s
  | some k =>
    if k.val = slot then
      match outcome with
      | .ok => labelPrinted p k s
      | .paperOut => labelFailed p s
      | .jam => labelFailed p s
    else protocolError p s

/-- PRINT_DONE (R113 to R115). -/
def execPrintDone (p : CounterPort) (slot : Nat) (outcome : PrintOutcome) (s : State) :
    Host.Outcome State Fault Refusal :=
  .next (flush (handOn p scaleOnly (printDoneOp p slot outcome) s))

/-! ### TEMPLATE_WRITE (R89) -/

/-- A text stands for FIXED_TEXT and COPY_MARK, 1 to 32 characters, and for no other kind. -/
def fieldTextValid (k : FieldKind) (text : Option Text) : Bool :=
  if k = .fixedText ∨ k = .copyMark then
    text.any fun t => 1 ≤ t.length && t.length ≤ 32
  else text.isNone

/-- A descriptor judged by check 3 of R89. -/
def fieldOf (f : FieldRaw) : Option FieldDesc :=
  match f.kind, f.justify, f.translation with
  | some k, some j, some t =>
    if 1 ≤ f.line ∧ f.line ≤ 8 ∧ 1 ≤ f.column ∧ f.column ≤ 32 ∧ 1 ≤ f.width ∧ f.width ≤ 32 ∧
        f.column + f.width ≤ 33 ∧ fieldTextValid k f.text then
      some { kind := k, line := f.line, column := f.column, width := f.width, justify := j,
             fill := f.fill, translation := t, trim := f.trim, text := f.text }
    else none
  | _, _, _ => none

/-- Checks 2 and 3 of R89: the template, or what the BAD_RECORD reply carries. -/
def templateOf (t : TemplateRaw) : Except ReplyData Template :=
  match t.kind with
  | none => .error .none
  | some k =>
    if t.fields.length < 1 ∨ Config.maxFields < t.fields.length then .error .none
    else
      match t.fields.findIdx? fun f => (fieldOf f).isNone with
      | some i => .error (.position (i + 1))
      | none => .ok { kind := k, fields := t.fields.filterMap fieldOf }

/-- The store with one number changed. -/
def storeTemplate (n : Nat) (t : Option Template) (ret : Retained) : Retained :=
  { ret with templates := modifyEntry ret.templates (n - 1) fun _ => t }

def templateWriteOp (tag n : Nat) (t : Option TemplateRaw) (s : State) : State :=
  if n < 1 ∨ 16 < n then refuseRequest tag .badRecord s
  else
    match t with
    | none => s |> modRet (storeTemplate n none) |> reply tag .ok .none
    | some raw =>
      match templateOf raw with
      | .error d => reply tag .badRecord d s
      | .ok v => s |> modRet (storeTemplate n (some v)) |> reply tag .ok .none

/-- TEMPLATE_WRITE (R89). -/
def execTemplateWrite (tag n : Nat) (t : Option TemplateRaw) (s : State) :
    Host.Outcome State Fault Refusal :=
  .next (arrive (.templateWrite tag n t) (templateWriteOp tag n t) s)

/-! ### TRANSLATE_WRITE (R90) -/

/-- A table with one half replaced whole. -/
def withHalf (half : TableHalf) (codes : List Byte) (t : Vector Byte 256) : Vector Byte 256 :=
  Vector.ofFn fun i =>
    match half with
    | .low => if i.val < 128 then codes.getD i.val 0 else t[i]
    | .high => if 128 ≤ i.val then codes.getD (i.val - 128) 0 else t[i]

def storeHalf (table : Nat) (half : TableHalf) (codes : List Byte) (ret : Retained) : Retained :=
  if table = 0 then { ret with table0 := withHalf half codes ret.table0 }
  else { ret with table1 := withHalf half codes ret.table1 }

def translateWriteOp (tag table : Nat) (half : TableHalf) (codes : List Byte) (s : State) : State :=
  if codes.length ≠ 128 then badFrame tag s
  else if 1 < table then refuseRequest tag .badRecord s
  else s |> modRet (storeHalf table half codes) |> reply tag .ok .none

/-- TRANSLATE_WRITE (R90). -/
def execTranslateWrite (tag table : Nat) (half : TableHalf) (codes : List Byte) (s : State) :
    Host.Outcome State Fault Refusal :=
  .next (arrive (.translateWrite tag table half codes) (translateWriteOp tag table half codes) s)

end Sys2Proof.Machine
end

