-- ==== Sys2Proof/Machine/Wire.lean ====
section
/-! DEFINITION. Frames as bytes: the forms of R181, the payloads of replies, notices and counter-port
frames, reply trains (R188), and the receiver's checks (R182, R183, R186). Where the rules leave a layout open, for
a mark, a part that depends on another field or an order of fields, it is the model's (log 28). -/

namespace Sys2Proof.Machine

/-! ### Frame kinds (10.4, 10.5) -/

def kindDisplay : Nat := 7
def kindLabel : Nat := 8
def kindNowServing : Nat := 9
def kindTakeAnswer : Nat := 10
def kindRefused : Nat := 11
def kindReply : Nat := 13
def kindNotice : Nat := 14

/-! ### Forms (R181) -/

/-- An enumerated value, numbered from 1. -/
def beEnum (n : Nat) : List Byte := beBytes 1 n

/-- A mark as the values yes and no, in that order. -/
def beMark (b : Bool) : List Byte := beEnum (if b then 1 else 2)

/-- A list whose number of entries varies. -/
def beList {α : Type} (f : α → List Byte) (l : List α) : List Byte :=
  beBytes 1 l.length ++ l.flatMap f

def beStation (p : CounterPort) : List Byte := beBytes 1 p.number

/-- A moment: a date that may be absent, and the second of day. -/
def beStamp (t : Stamp) : List Byte := beOption beDate t.date ++ beBytes 3 t.second

/-! ### Numbers of enumerated values -/

def ResultCode.wire (r : ResultCode) : Nat := r.ctorIdx + 1
def MsgCode.wire (m : MsgCode) : Nat := m.ctorIdx + 1
def deviceKindWire (k : DeviceKind) : Nat := k.ctorIdx + 1
def pricingModeWire (m : PricingMode) : Nat := m.ctorIdx + 1
def priceBasisWire (b : PriceBasis) : Nat := b.ctorIdx + 1
def switchWire (w : Switch) : Nat := w.ctorIdx + 1
def areaWire (a : Area) : Nat := a.ctorIdx + 1
def ItemStatus.wire (t : ItemStatus) : Nat := t.ctorIdx + 1
def WeighState.wire (w : WeighState) : Nat := w.ctorIdx + 1
def PortState.wire (p : PortState) : Nat := p.ctorIdx + 1
def SaleState.wire (t : SaleState) : Nat := t.ctorIdx + 1
def ServiceState.wire (v : ServiceState) : Nat := v.ctorIdx + 1
def PrinterState.wire (q : PrinterState) : Nat := q.ctorIdx + 1
def StationCause.wire (c : StationCause) : Nat := c.ctorIdx + 1
def CallCause.wire (c : CallCause) : Nat := c.ctorIdx + 1
def CommitPhase.wire (c : CommitPhase) : Nat := c.ctorIdx + 1

/-- States of a STATION_STATE notice in the order its rules name them: R2, R9 (log 28). -/
def OnlineState.wire : OnlineState → Nat
  | .online => 1
  | .refused => 2
  | .offline => 3

/-- Outcomes of an order in the order the rules name them: R155, R157, R159, R161. -/
def OrderOutcome.wire : OrderOutcome → Nat
  | .abandoned => 1
  | .empty => 2
  | .served => 3
  | .dayClosed => 4

def DayState.wire : DayState → Nat
  | .trading => 1
  | .closing _ _ => 2

def WeighRange.wire : WeighRange → Nat
  | .one => 1
  | .two => 2

/-! ### Reply data -/

def beCalRecord (r : CalRecord) : List Byte :=
  beSigned 3 r.zero ++ beBytes 3 r.mult ++ beBytes 2 r.max ++ beBytes 2 r.max1 ++ beBytes 1 r.e1 ++
    beBytes 1 r.e2 ++ beBytes 1 r.window ++ beBytes 1 r.stability ++ beMark r.tracking

def beMarkdown (m : Markdown) : List Byte := beBytes 1 m.percent ++ beBytes 2 m.start ++ beBytes 2 m.stop

/-- An item record of PLU_READ: every field of 4.1 except the totals part, the status where the table of 4.1 has it
(log 28). -/
def beItemRecord (r : ItemRecord) : List Byte :=
  beBytes 3 r.item.plu ++ beEnum r.status.wire ++ beEnum (pricingModeWire r.item.mode) ++
    beBytes 3 r.item.price ++ beOption (fun b => beEnum (priceBasisWire b)) r.item.basis ++
    beBytes 2 r.item.presetTare ++ beBytes 1 r.item.department ++ beBytes 1 r.item.template ++
    beText r.item.name ++ beOption beText r.item.extra ++ beOption (beBytes 2) r.item.sellBy ++
    beOption beMarkdown r.markdown

/-- The station of an order, present when OPEN. -/
def orderStation (o : Order) : Option CounterPort :=
  match o.state with
  | .openAt p => some p
  | .parked => none

def orderStateWire (o : Order) : Nat := if o.state = .parked then 2 else 1

/-- An order in the list of ORDER_READ (R162). -/
def beOrderRow (o : Order) : List Byte :=
  beBytes 2 o.number ++ beBytes 1 o.ticket.val ++ beEnum (orderStateWire o) ++
    beOption beStation (orderStation o) ++ beBytes 1 o.lines.length ++ beBytes 1 (liveLines o) ++
    beBytes 3 o.total ++ beBytes 3 o.idle ++ beMark o.summaryInFlight

def beLine (l : OrderLine) : List Byte :=
  beBytes 3 l.serial ++ beBytes 3 l.plu ++ beBytes 2 l.quantity ++ beBytes 3 l.final ++
    beBytes 2 l.generation ++ beMark l.voided

/-- An order whole, in the order of the table of 8.1 (log 28), up to its lines. -/
def beOrderHead (o : Order) : List Byte :=
  beBytes 2 o.number ++ beBytes 1 o.ticket.val ++ beEnum (orderStateWire o) ++
    beOption beStation (orderStation o)

def beOrderTail (o : Order) : List Byte := beBytes 3 o.total ++ beBytes 3 o.idle ++ beMark o.summaryInFlight

/-- A count takes four bytes and a value or a weight five. -/
def beCount (n : Nat) : List Byte := beBytes 4 n
def beValue (n : Nat) : List Byte := beBytes 5 n

def beGrand (g : GrandTotals) : List Byte :=
  beCount g.items ++ beValue g.value ++ beValue g.markdown ++ beCount g.voids ++
    beValue g.voidValue ++ beCount g.unprintedVoids ++ beCount g.reprints ++ beCount g.staleSales ++
    beCount g.forcedCancels ++ beCount g.offlineCancels ++ beCount g.ordersClosed ++
    beCount g.ordersAbandoned ++ beCount g.ordersClosedByDay ++ beCount g.ticketsIssued ++
    beCount g.ticketsServed ++ beCount g.ticketsSkipped ++ beCount g.ticketsDiscarded ++
    beCount g.waitSeconds ++ beCount g.largestWait ++ beMark g.mark

def beStationTotals (g : StationTotals) : List Byte :=
  beCount g.items ++ beValue g.value ++ beCount g.labelsPrinted ++ beCount g.reprints ++
    beCount g.voids ++ beCount g.unprintedVoids ++ beCount g.forcedCancels ++
    beCount g.offlineCancels ++ beMark g.mark

def beOperatorTotals (g : OperatorTotals) : List Byte :=
  beCount g.items ++ beValue g.value ++ beCount g.voids ++ beValue g.voidValue ++ beMark g.mark

def beDepartmentTotals (g : DepartmentTotals) : List Byte :=
  beCount g.items ++ beValue g.value ++ beValue g.markdown ++ beMark g.mark

def beItemTotals (g : ItemTotals) : List Byte :=
  beCount g.items ++ beValue g.weight ++ beCount g.count ++ beValue g.value ++ beValue g.markdown ++
    beMark g.mark

/-- An entry of a totals reply. R170 gives the number, the accumulators and the mark for STATION; that OPERATOR and
DEPARTMENT entries have the same form is the model's choice (log 39). -/
def beTotalsEntry : TotalsEntry → List Byte
  | .grand g => beGrand g
  | .station n g => beBytes 1 n ++ beStationTotals g
  | .operator n g => beBytes 1 n ++ beOperatorTotals g
  | .department n g => beBytes 1 n ++ beDepartmentTotals g
  | .item plu st dep mode g =>
    beBytes 3 plu ++ beEnum st.wire ++ beBytes 1 dep ++ beEnum (pricingModeWire mode) ++ beItemTotals g
  | .dayItem e =>
    beBytes 3 e.plu ++ beText e.name ++ beBytes 1 e.department ++ beEnum (pricingModeWire e.mode) ++
      beEnum e.status.wire ++ beItemTotals e.totals

/-- An open moment that may be absent whole: its date and its second each as a field that may be absent (log 28). -/
def beOpened (t : Option Stamp) : List Byte :=
  beOption beDate (t.bind (·.date)) ++ beOption (beBytes 3) (t.map (·.second))

def beTotalsHeader (h : TotalsHeader) : List Byte :=
  beBytes 2 h.day ++ beEnum h.state.wire ++ beOpened h.opened ++ beMark h.totalsLost ++
    beBytes 2 h.generation

def beRecordHeader (h : RecordHeader) : List Byte :=
  beBytes 2 h.number ++ beOpened h.opened ++ beStamp h.closed ++ beMark h.totalsLost ++
    beBytes 2 h.items

/-- The number of a configuration field in the table of 11.2. -/
def configFieldWire : ConfigField → Nat
  | .number .supervisionReload => 1
  | .number .commitDrain => 2
  | .number .closeDrain => 3
  | .number .callTimeout => 4
  | .number .parkTimeout => 5
  | .number .serviceRatio => 6
  | .mask k => 7 + k.val
  | .zeroTracking => 11

/-- The stations of a mask, in ascending order (log 28). -/
def maskStations (m : StationMask) : List CounterPort := (List.finRange 14).filter fun p => m[p]

def beConfig (c : ConfigRecord) : List Byte :=
  beBytes 1 c.supervisionReload ++ beBytes 2 c.commitDrain ++ beBytes 2 c.closeDrain ++
    beBytes 2 c.callTimeout ++ beBytes 1 c.parkTimeout ++ beBytes 1 c.serviceRatio ++
    c.masks.toList.flatMap (fun m => beList beStation (maskStations m)) ++ beMark c.zeroTracking

def beEnables (e : Enables) : List Byte :=
  beMark e.master ++ beMark e.label ++ beMark e.order ++ beMark e.table ++ beMark e.day ++
    beMark e.station ++ beMark e.calibration ++ beMark e.ticket ++ beMark e.clock

def beErrors (e : ErrorCounts) (mark : Bool) : List Byte :=
  beBytes 2 e.check ++ beBytes 2 e.framing ++ beBytes 2 e.overrun ++ beBytes 2 e.protocol ++
    beMark mark

def beStationReport (r : StationReport) : List Byte :=
  beOption (fun k => beBytes 1 (OperatorNo.number k)) r.operator ++ beEnum r.sale.wire ++
    beEnum r.service.wire ++ beEnum r.printer.wire ++ beEnum (switchWire r.calSwitch)

/-- A counter port in the STATUS reply. -/
def bePortReport (r : PortReport) : List Byte :=
  beEnum r.state.wire ++ beOption (fun k => beEnum (deviceKindWire k)) r.kind ++
    beEnum (if r.online then 1 else 2) ++ beBytes 1 r.supervision ++
    (match r.station with
     | some st => beStationReport st
     | none => []) ++
    beErrors r.errors r.errorMark

/-- The commit record's own parts in a STATUS reply, behind the length of the pending list (R191). -/
def beCommitState (c : CommitState) (staged : Nat) : List Byte :=
  match c with
  | .editing => beEnum 1 ++ beBytes 2 staged
  | .scheduled d m => beEnum 2 ++ beBytes 2 staged ++ beDate d ++ beBytes 2 m
  | .waiting d =>
    beEnum 3 ++ beBytes 2 staged ++ beBytes 1 d.awaited ++ beBytes 2 d.timer ++ beMark d.expired

/-- The close drain in a STATUS reply, in CLOSING alone (R191). -/
def beCloseDrain : DayState → List Byte
  | .trading => []
  | .closing timer expired => beBytes 2 timer ++ beMark expired

/-- The clock as TIME_SET answers it (R202). -/
def beClock (c : Clock) : List Byte := beDate c.date ++ beBytes 3 c.second ++ beMark c.valid

/-- The clock in a STATUS reply, its valid flag first (R191). -/
def beStatusClock (c : Clock) : List Byte := beMark c.valid ++ beDate c.date ++ beBytes 3 c.second

/-- The STATUS reply in the units a train may be cut between. -/
def statusUnits (r : StatusReport) : List (List Byte) :=
  [beBytes 2 r.generation ++ beCommitState r.commit r.staged,
   beEnum r.dayState.wire ++ beBytes 2 r.dayNumber ++ beCloseDrain r.dayState ++
     beBytes 3 r.nextSerial ++ beBytes 2 r.nextOrder,
   beStatusClock r.clock,
   beBytes 1 r.nextTicket.val ++ beMark r.nextHeld ++ beBytes 1 r.waiting ++ beBytes 1 r.calling ++
     beBytes 1 r.skipped,
   beEnum (if r.uplinkUp then 2 else 1) ++ beErrors r.uplinkErrors r.uplinkErrorMark] ++
  r.ports.map bePortReport ++
  [beEnables r.enables ++ beBytes 1 r.notices ++ beBytes 1 r.lost, beBytes 2 r.audit]

/-- The number of entries a list of a totals reply is sent with; the one grand group and a header have a
fixed number and none (log 28). -/
def entryCount (fixed : Bool) (entries : List TotalsEntry) : List (List Byte) :=
  if fixed then [] else [beBytes 1 entries.length]

/-- The data of a reply in the units a train may be cut between: its entries (R188; log 10). -/
def replyUnits : ReplyData → List (List Byte)
  | .none => []
  | .position n => [beBytes 1 n]
  | .count n => [beBytes 2 n]
  | .calibration r st len n sum zo zi =>
    [beOption beCalRecord r ++ beEnum st.wire ++ beBytes 1 len ++ beBytes 1 n ++ beSigned 4 sum ++
      beSigned 4 zo ++ beSigned 4 zi]
  | .items g rs more =>
    (beBytes 2 g ++ beBytes 1 rs.length) :: rs.map beItemRecord ++ [beOption (beBytes 3) more]
  | .commit ph g => [beEnum ph.wire ++ beBytes 2 g]
  | .aborted f n => [beBytes 1 f ++ beBytes 2 n]
  | .orderList os => beBytes 1 os.length :: os.map beOrderRow
  | .order o => (beOrderHead o ++ beBytes 1 o.lines.length) :: o.lines.map beLine ++ [beOrderTail o]
  | .totals part h es more =>
    beTotalsHeader h :: entryCount (decide (part = .grand)) es ++ es.map beTotalsEntry ++
      (if part = .item then [beOption (beBytes 3) more] else [])
  | .day st n => [beEnum st.wire ++ beBytes 2 n]
  | .dayRecord part h es more =>
    beRecordHeader h :: entryCount (decide (part = .grand) || decide (part = .header)) es ++
      es.map beTotalsEntry ++ [beMark more]
  | .config cl c => [beList (fun f => beEnum (configFieldWire f)) cl, beConfig c]
  | .clock c => [beClock c]
  | .enables e => [beEnables e]
  | .status r => statusUnits r

/-! ### Reply trains (R188) -/

/-- Data cut into parts of at most 246 bytes, at unit boundaries; there is always one part. -/
def cutTrain : List Byte → List (List Byte) → List (List Byte)
  | acc, [] => [acc]
  | acc, u :: us =>
    if acc.length + u.length ≤ Config.replyChunk then cutTrain (acc ++ u) us
    else acc :: cutTrain u us

/-- One frame of a train: result code, part number, whether more follow, data. -/
def replyFrame (r : Reply) (part : Nat) (more : Bool) (data : List Byte) : List Byte :=
  frameBytes 0 kindReply r.tag (beEnum r.result.wire ++ beBytes 1 part ++ beMark more ++ data)

/-- The parts of a reply. -/
def replyParts (r : Reply) : List (List Byte) := cutTrain [] (replyUnits r.data)

/-- Frame number `k`, from 0, of a reply's train. -/
def replyFrameAt (r : Reply) (k : Nat) : List Byte :=
  replyFrame r (k + 1) (decide (k + 1 < (replyParts r).length)) ((replyParts r).getD k [])

/-! ### Notices (10.7) -/

/-- The notice type, numbered as the table of 10.7 lists them. -/
def NoticeBody.wire : NoticeBody → Nat
  | .itemIssued _ _ _ _ _ _ => 1
  | .summaryIssued _ _ _ _ => 1
  | .labelVoided _ _ _ => 2
  | .orderClosed _ _ _ _ _ _ _ => 3
  | .commitApplied _ _ _ _ _ _ _ => 4
  | .commitTableFull _ => 4
  | .dayClosed _ _ _ _ _ => 5
  | .stationState _ _ _ _ => 6
  | .calChanged _ _ => 7
  | .ticketCalled _ _ _ _ => 8
  | .clockLost _ => 9
  | .retainedLost _ => 10

/-- The end of a LABEL_VOIDED notice: the cause, with the closed-day mark for a label of an earlier day
alone (R120), or the voiding operator, who is never absent, ahead of it (R122; log 28). -/
def beVoidCause : VoidCause → List Byte
  | .unprinted closedDay => beEnum 1 ++ if closedDay then beMark true else []
  | .key op => beBytes 1 ((op.map OperatorNo.number).getD 0) ++ beEnum 2

/-- A part that an outcome carries or does not. -/
def bePresent {α : Type} (f : α → List Byte) (x : Option α) : List Byte := (x.map f).getD []

/-- The station of an ORDER_CLOSED notice: ABANDONED carries none, DAY_CLOSED one that may be absent. -/
def beClosedStation (o : OrderOutcome) (p : Option CounterPort) : List Byte :=
  match o with
  | .abandoned => []
  | .dayClosed => beOption beStation p
  | .served => bePresent beStation p
  | .empty => bePresent beStation p

def beNoticeData : NoticeBody → List Byte
  | .itemIssued serial p plu q final order =>
    beBytes 3 serial ++ beStation p ++ beBytes 3 plu ++ beBytes 2 q ++ beBytes 3 final ++
      beOption (beBytes 2) order
  | .summaryIssued serial p order total =>
    beBytes 3 serial ++ beStation p ++ beBytes 2 order ++ beBytes 3 total
  | .labelVoided serial p cause => beBytes 3 serial ++ beStation p ++ beVoidCause cause
  | .orderClosed o n t p serial lines total =>
    beEnum o.wire ++ beBytes 2 n ++ beBytes 1 t.val ++ beClosedStation o p ++
      bePresent (beBytes 3) serial ++ bePresent (beBytes 1) lines ++ bePresent (beBytes 3) total
  | .commitApplied g f n a rp rm rt =>
    beEnum 2 ++ beBytes 2 g ++ beBytes 1 f ++ beBytes 2 n ++ beBytes 2 a ++ beBytes 2 rp ++
      beBytes 2 rm ++ beBytes 2 rt
  | .commitTableFull g => beEnum 1 ++ beBytes 2 g ++ beBytes 1 0
  | .dayClosed c o at_ n mark => beBytes 2 c ++ beBytes 2 o ++ beStamp at_ ++ beBytes 2 n ++ beMark mark
  | .stationState p k st cause =>
    beStation p ++ beEnum ((k.map deviceKindWire).getD 0) ++ beEnum st.wire ++ beEnum cause.wire
  | .calChanged p a => beStation p ++ beBytes 2 a
  | .ticketCalled t p n cause => beBytes 1 t.val ++ beStation p ++ beBytes 1 n ++ beEnum cause.wire
  | .clockLost d => beDate d
  | .retainedLost a => beEnum (areaWire a)

/-- A NOTICE frame, with tag 0. -/
def noticeFrame (n : Notice) : List Byte :=
  frameBytes 0 kindNotice 0 (beEnum n.body.wire ++ beStamp n.stamp ++ beNoticeData n.body)

/-! ### Frames on counter ports (10.4) -/

def minusCode : Byte := 45

/-- The weight text of a display, as internal codes: kilograms with three decimals, or tenths. -/
def beWeightText : WeightText → List Byte
  | .blank => beText []
  | .kilograms d =>
    beText ((if d < 0 then [minusCode] else []) ++ renderWeight d.natAbs)
  | .tenths g => beText ((if g < 0 then [minusCode] else []) ++ renderInt g.natAbs)

/-- The contents of R17 in the order its table lists them. -/
def beDisplay (d : Display) : List Byte :=
  beWeightText d.weight ++ beOption (beBytes 3) d.unitPrice ++ beOption (beBytes 3) d.totalPrice ++
    beOption beText d.itemName ++ beOption (fun m => beEnum m.wire) d.message ++ beMark d.stable ++
    beMark d.zero ++ beMark d.net ++ beMark d.tareActive ++ beBytes 1 d.range.wire ++
    beMark d.stalePrice ++ beMark d.dayClosing

def beTakeAnswer : TakeAnswer → List Byte
  | .issue t => beEnum 1 ++ beBytes 1 t.val
  | .rollBlocked => beEnum 2
  | .closed => beEnum 3

/-- A frame the hub sends on a counter port, as bytes. -/
def outFrameBytes (p : CounterPort) : OutFrame → List Byte
  | .display d => frameBytes p.number kindDisplay 0 (beDisplay d)
  | .label k part codes barcode =>
    frameBytes p.number kindLabel 0
      (beBytes 1 k.val ++ beBytes 1 part ++ codes ++ barcode.map fun x => BitVec.ofNat 8 x)
  | .nowServing q t n =>
    frameBytes p.number kindNowServing 0 (beStation q ++ beBytes 1 t.val ++ beBytes 1 n)
  | .takeAnswer a => frameBytes p.number kindTakeAnswer 0 (beTakeAnswer a)
  | .refused => frameBytes p.number kindRefused 0 []

/-! ### The receiver (R182, R183) -/

/-- What the receiver makes of the characters of a frame. -/
inductive RxVerdict | nothing | framing | overrun | check | good
  deriving DecidableEq, Repr

/-- The check bytes of a complete frame are the CRC of what stands before them (R183). -/
def checkHolds (frame : List Byte) : Bool :=
  decide (frame.drop (frame.length - 2) = crcBytes (frame.take (frame.length - 2)))

/-- The checks of R182 in order; `full` says that a complete frame waits. With no character there is no
frame. -/
def receive (chars : List RxChar) (full : Bool) : RxVerdict :=
  match chars with
  | [] => .nothing
  | c :: _ =>
    let n := c.byte.toNat
    let frame := chars.take n
    if n < 6 ∨ frame.length < n ∨ frame.any (fun x => !x.stopOk) then .framing
    else if full then .overrun
    else if checkHolds (frame.map (·.byte)) then .good
    else .check

/-- A complete frame that passes the checks of R182. -/
def goodFrame (frame : List Byte) : Bool :=
  decide (receive (frame.map fun b => { byte := b, stopOk := true }) false = .good) &&
    decide (frame.length = (frame.headD 0).toNat)

end Sys2Proof.Machine
end

