-- ==== Sys2Proof/Machine/Requests.lean ====
section
/-! DEFINITION. From the bytes of a good frame to the command it spells: the forms of R181 read, the kind
checks of the counter ports (R186) and of the uplink (R187). Where R181 gives a request no form, the layout is
the model's (log 28). -/

namespace Sys2Proof.Machine

/-! ### Forms (R181) -/

/-- Reads a field from the front of a payload, or finds that the form does not allow what stands there. -/
abbrev Reader := StateT (List Byte) Option

def readByte : Reader Nat
  | [] => none
  | b :: rest => some (b.toNat, rest)

/-- A number of `k` bytes behind those already read. -/
def readNumFrom (high : Nat) : Nat → Reader Nat
  | 0 => pure high
  | k + 1 => do readNumFrom (256 * high + (← readByte)) k

/-- A number of `k` bytes, high byte first. -/
def readNum (k : Nat) : Reader Nat := readNumFrom 0 k

/-- A count of three bytes in two's complement. -/
def readSigned : Reader Int := do return signed24 (← readNum 3)

/-- An enumerated value whose owning rule judges an unknown number (log 11). -/
def readJudged {α : Type} (values : List α) : Reader (Option α) := do
  let n ← readByte
  return if n = 0 then none else values[n - 1]?

/-- An enumerated value, numbered from 1 in the order of `values`. -/
def readEnum {α : Type} (values : List α) : Reader α := do
  match ← readJudged values with
  | some x => pure x
  | none => failure

/-- A mark, yes and no in that order (log 28). -/
def readMark : Reader Bool := readEnum [true, false]

/-- ON and OFF in that order, as NOTICE_ENABLE lists them. -/
def readOnOff : Reader Bool := readEnum [true, false]

/-- A field that may be absent. -/
def readOption {α : Type} (r : Reader α) : Reader (Option α) := do
  match ← readByte with
  | 0 => pure none
  | 1 => return some (← r)
  | _ => failure

/-- A list of a fixed number of entries. -/
def readList {α : Type} (r : Reader α) : Nat → Reader (List α)
  | 0 => pure []
  | k + 1 => do
    let x ← r
    return x :: (← readList r k)

/-- A list whose number of entries varies. -/
def readCounted {α : Type} (r : Reader α) : Reader (List α) := do readList r (← readByte)

def readCode : Reader Byte := do return BitVec.ofNat 8 (← readByte)

/-- A text: its length, then its codes. -/
def readText : Reader Text := readCounted readCode

def readDate : Reader Date := do
  return { year := ← readNum 2, month := ← readByte, day := ← readByte }

/-- The whole of a payload, with nothing left over. -/
def readWhole {α : Type} (r : Reader α) (payload : List Byte) : Option α :=
  match r payload with
  | some (x, []) => some x
  | _ => none

/-! ### The data of requests (10.5) -/

def readOperatorRecord : Reader OperatorRecord := do
  return { name := ← readText, enabled := ← readMark, voidPermission := ← readMark }

def readCalFields : Reader CalFields := do
  return { zero := ← readSigned, mult := ← readNum 3, max := ← readNum 2, max1 := ← readNum 2,
           e1 := ← readByte, e2 := ← readByte, window := ← readByte, stability := ← readByte }

def readMarkdown : Reader Markdown := do
  return { percent := ← readByte, start := ← readNum 2, stop := ← readNum 2 }

/-- An item record: every field of 4.1 but the status and the totals part (R65). -/
def readItem : Reader ItemFields := do
  return { plu := ← readNum 3, mode := ← readEnum [.byWeight, .byCount, .fixed], price := ← readNum 3,
           basis := ← readOption (readEnum [.perKg, .per100g]), presetTare := ← readNum 2,
           department := ← readByte, template := ← readByte, name := ← readText,
           extra := ← readOption readText, sellBy := ← readOption (readNum 2) }

/-- An entry of a PLU_STAGE block, PUT or DELETE (R68, R69). -/
def readStageEntry : Reader StageEntry := do
  match ← readByte with
  | 1 => return .put (← readItem) (← readOption readMarkdown)
  | 2 => return .delete (← readNum 3)
  | _ => failure

/-- The field kinds of R92, in its order. -/
def fieldKinds : List FieldKind :=
  [.itemName, .extraText, .operatorName, .fixedText, .copyMark, .netWeight, .tare, .unitPrice,
   .totalPrice, .saving, .quantity, .pluNumber, .ticket, .serial, .station, .orderTotal, .lineCount,
   .orderNumber, .packDate, .sellBy, .barcode]

/-- A field descriptor in the order of the table of 5.1. -/
def readField : Reader FieldRaw := do
  return { kind := ← readJudged fieldKinds, line := ← readByte, column := ← readByte, width := ← readByte,
           justify := ← readJudged [.left, .right], fill := ← readCode,
           translation := ← readJudged [.none, .table0, .table1], trim := ← readMark,
           text := ← readOption readText }

def readTemplate : Reader TemplateRaw := do
  return { kind := ← readJudged [.item, .summary], fields := ← readCounted readField }

def readEnables : Reader Enables := do
  return { master := ← readOnOff, label := ← readOnOff, order := ← readOnOff, table := ← readOnOff,
           day := ← readOnOff, station := ← readOnOff, calibration := ← readOnOff, ticket := ← readOnOff,
           clock := ← readOnOff }

/-- A station number of a mask, 0 to 15 (R200). -/
def readMaskStation : Reader (Fin 16) := do
  let n ← readByte
  if h : n < 16 then pure ⟨n, h⟩ else failure

/-- The fields of the configuration record, in the order of the table of 11.2. -/
def configFields : List ConfigField :=
  [.number .supervisionReload, .number .commitDrain, .number .closeDrain, .number .callTimeout,
   .number .parkTimeout, .number .serviceRatio, .mask 0, .mask 1, .mask 2, .mask 3, .zeroTracking]

/-- The value of an entry, in the form its field gives it (R200). -/
def readConfigValue : ConfigField → Reader ConfigEntry
  | .number f => do return .number f (← readNum 2)
  | .mask k => do return .mask k (← readCounted readMaskStation)
  | .zeroTracking => do return .zeroTracking (← readJudged [true, false])

/-- The rest of a payload, whatever it holds. -/
def readRest : Reader Unit := fun _ => some ((), [])

/-- The entries of a CONFIG_WRITE. An unknown identifier gives its value no form, so nothing behind it can be
read, and it is the last entry (log 28). -/
def readConfigEntries : Nat → Reader (List ConfigEntry)
  | 0 => pure []
  | k + 1 => do
    let n ← readByte
    match if n = 0 then none else configFields[n - 1]? with
    | none => do readRest; return [.unknown n]
    | some f => do
      let e ← readConfigValue f
      return e :: (← readConfigEntries k)

/-- A list whose number of entries the form bounds (R187). -/
def readBounded {α : Type} (lo hi : Nat) (r : Nat → Reader (List α)) : Reader (List α) := do
  let n ← readByte
  if lo ≤ n ∧ n ≤ hi then r n else failure

/-- A request by its code, numbered in the order of the table of 10.5, with its data. -/
def readRequestCode (tag : Nat) : Nat → Reader Instr
  | 1 => return .status tag
  | 2 => return .statusClear tag (← readOption readByte)
  | 3 => return .noticeEnable tag (← readEnables)
  | 4 => return .hubReset tag
  | 5 => return .operatorWrite tag (← readByte) (← readOption readOperatorRecord)
  | 6 => return .calWrite tag (← readByte) (← readCalFields) (← readJudged [.on, .off, .default])
  | 7 => return .calRead tag (← readByte)
  | 8 => return .pluRead tag (← readNum 3) (← readNum 3)
  | 9 => return .pluStage tag (← readBounded 1 Config.blockSize (readList readStageEntry))
  | 10 => return .stageDiscard tag
  | 11 => do
    let activation ← readOption (do
      let date ← readDate
      return (date, ← readNum 2))
    return .commit tag activation
  | 12 => return .commitAbort tag
  | 13 => return .templateWrite tag (← readByte) (← readOption readTemplate)
  | 14 => return .translateWrite tag (← readByte) (← readEnum [.low, .high]) (← readList readCode 128)
  | 15 => return .orderRead tag (← readOption (readNum 2))
  | 16 => do
    let part ← readJudged [.grand, .station, .operator, .department, .item]
    return .totalsRead tag part (← readNum 3)
  | 17 => return .dayClose tag
  | 18 => do
    let part ← readJudged [.header, .grand, .station, .operator, .department, .item]
    return .dayRecordRead tag part (← readNum 2)
  | 19 => return .configWrite tag (← readBounded 0 11 readConfigEntries)
  | 20 => return .timeSet tag (← readDate) (← readNum 3)
  | _ => failure

/-- The payload of a REQUEST: its code, then its data. -/
def readRequest (tag : Nat) : Reader Instr := do readRequestCode tag (← readByte)

/-! ### Frames on the uplink (R187) -/

def kindRequest : Nat := 12

/-- The payload of a frame whose Length to Tag have been taken off: all but the check. -/
def payloadOf (rest : List Byte) : List Byte := rest.take (rest.length - 2)

/-- The tag of a frame. -/
def frameTag (frame : List Byte) : Nat := (frame.getD 3 0).toNat

/-- The request that a good frame on the uplink spells; none when it is a malformed request (R187). -/
def requestOfFrame (frame : List Byte) : Option Instr :=
  match frame with
  | _ :: port :: kind :: tag :: rest =>
    if kind.toNat = kindRequest ∧ port.toNat = 0 ∧ tag.toNat ≠ 0 then
      readWhole (readRequest tag.toNat) (payloadOf rest)
    else none
  | _ => none

/-- A good frame on the uplink that is no request of the table in its form (R187). -/
def malformedRequest (frame : List Byte) : Bool := (requestOfFrame frame).isNone

/-! ### Frames on counter ports (10.4, R186) -/

/-- The Length of each of the six kinds. -/
def kindLength : Nat → Option Nat
  | 1 => some 9
  | 2 => some 8
  | 3 => some 18
  | 4 => some 10
  | 5 => some 8
  | 6 => some 6
  | _ => none

/-- The keys of the table in 1.6, in its order. -/
def keyOf (p : CounterPort) (n : Nat) : Nat → Option Instr
  | 1 => some (.login p n)
  | 2 => some (.logout p)
  | 3 => some (.zero p)
  | 4 => some (.tare p)
  | 5 => some (.keyedTare p n)
  | 6 => some (.plu p n)
  | 7 => some (.qty p n)
  | 8 => some (.print p)
  | 9 => some (.cancel p)
  | 10 => some (.void p n)
  | 11 => some (.reprint p n)
  | 12 => some (.next p)
  | 13 => some (.serve p)
  | 14 => some (.recall p)
  | 15 => some (.skip p)
  | 16 => some (.recallSkipped p n)
  | 17 => some (.cancelNext p)
  | 18 => some (.park p)
  | 19 => some (.pickup p n)
  | 20 => some (.closeOrder p)
  | _ => none

def readSwitch : Reader Switch := readEnum [.off, .on]
def readPrinter : Reader PrinterCondition := readEnum [.ready, .paperOut, .jam]

/-- The switch and printer fields, which a DISPENSER or CALL_DISPLAY sends unread (10.4). -/
def readStatus (unread : Bool) : Reader (Switch × PrinterCondition) :=
  if unread then do
    let _ ← readNum 2
    return (.off, .ready)
  else do return (← readSwitch, ← readPrinter)

def readHello (p : CounterPort) : Reader Instr := do
  let kind ← readJudged [.scale, .dispenser, .callDisplay]
  let status ← readStatus (kind = some .dispenser ∨ kind = some .callDisplay)
  return .hello p kind status.1 status.2

def readKey (p : CounterPort) : Reader Instr := do
  let key ← readByte
  match keyOf p (← readNum 3) key with
  | some i => pure i
  | none => failure

/-- The payload of a frame of a counter device, by its kind. `unread` says that the port's device is no
SCALE, so that a STATUS is not read (10.4). -/
def readCounter (p : CounterPort) (unread : Bool) : Nat → Reader Instr
  | 1 => readHello p
  | 2 => do
    let status ← readStatus unread
    return .statusFrame p status.1 status.2
  | 3 => return .sample p (← readSigned) (← readSigned) (← readSigned) (← readSigned)
  | 4 => readKey p
  | 5 => return .printDone p (← readByte) (← readEnum [.ok, .paperOut, .jam])
  | 6 => return .takeRequest p
  | _ => failure

/-- The command that a good frame on a counter port spells; none when the kind checks discard it. -/
def commandOfFrame (p : CounterPort) (unread : Bool) (frame : List Byte) : Option Instr :=
  match frame with
  | len :: port :: kind :: _ :: rest =>
    if kindLength kind.toNat = some len.toNat ∧ port.toNat = p.number then
      readWhole (readCounter p unread kind.toNat) (payloadOf rest)
    else none
  | _ => none

/-- A port in UP whose device is no SCALE: the switch and printer bytes of its STATUS are not read (10.4). On a
REFUSED or DOWN port no device holds a place, and they are judged (log 41). -/
def switchUnread (c : Port) : Bool := decide (c.state = .up) && decide (c.kind ≠ some .scale)

/-- A good frame that the kind checks of R186 discard. -/
def malformedFrame (p : CounterPort) (unread : Bool) (frame : List Byte) : Bool :=
  (commandOfFrame p unread frame).isNone

end Sys2Proof.Machine
end

