-- ==== Sys2Proof/Machine/Resets.lean ====
section
/-! DEFINITION. The two resets: WARM_RESET and POWER_UP with its check of the retained areas (chapter
11). -/

namespace Sys2Proof.Machine

/-- The warm reset (R193, 11.5): the retained store and the clock stay, everything else starts afresh. -/
def warmReset (s : State) : State :=
  State.afterReset s.pending s.ret s.clock NoticeQueue.fresh s.free

/-- WARM_RESET (R193): by HUB_RESET or by the reset line. -/
def execWarmReset (s : State) : Host.Outcome State Fault Refusal := .next (warmReset s)

/-- The areas in the order of R197. -/
def allAreas : List Area :=
  [.items, .templates, .translation, .operators, .calibration, .config, .totals, .day, .generation,
   .audit]

/-- An area set to its empty state (R197). -/
def emptyArea (r : Retained) : Area → Retained
  | .items => { r with items := Retained.empty.items }
  | .templates => { r with templates := Retained.empty.templates }
  | .translation => { r with table0 := identityTable, table1 := identityTable }
  | .operators => { r with operators := Retained.empty.operators }
  | .calibration => { r with cal := Retained.empty.cal }
  | .config => { r with config := ConfigRecord.default }
  | .totals => { r with totals := Totals.empty }
  | .day => { r with day := DayArea.empty }
  | .generation => { r with generation := 0 }
  | .audit => { r with audit := 0 }

/-- The check value of an area, computed over the state it holds (R197). While power holds, every change
rewrites it in the same event and area and check agree, so it is this view of the area and no field of its
own (log 12). -/
def areaCheck (r : Retained) : Area → Nat
  | .items => Config.checkValue r.items
  | .templates => Config.checkValue r.templates
  | .translation => Config.checkValue (r.table0, r.table1)
  | .operators => Config.checkValue r.operators
  | .calibration => Config.checkValue r.cal
  | .config => Config.checkValue r.config
  | .totals => Config.checkValue r.totals
  | .day => Config.checkValue r.day
  | .generation => Config.checkValue r.generation
  | .audit => Config.checkValue r.audit

/-- The check of one area at power-up (R198): the check value found in the store against the one computed
over the area. `found` lists the check values that a loss of power in the middle of a change has left other
than they were last written. -/
def areaFails (found : List (Area × Nat)) (r : Retained) (a : Area) : Bool :=
  (found.lookup a).any fun v => v != areaCheck r a

/-- The areas that fail their check, in table order. -/
def failedAreas (found : List (Area × Nat)) (r : Retained) : List Area :=
  allAreas.filter (areaFails found r)

/-- The loss of one of these makes the day's figures no longer whole (R198). -/
def losesTotals (failed : List Area) : Bool :=
  failed.contains .totals || failed.contains .items || failed.contains .day

/-- The retained store after the check at power-up (R198): the mark is set when all areas are done. The new
check value of an emptied area is `areaCheck` of what it then holds. -/
def checkedStore (failed : List Area) (r : Retained) : Retained :=
  let r1 := failed.foldl emptyArea r
  { r1 with day := { r1.day with totalsLost := r1.day.totalsLost || losesTotals failed } }

/-- One RETAINED_LOST notice for each failed area, whatever the enables hold (R198). -/
def lostNotices (failed : List Area) : List Notice :=
  failed.map fun a => { stamp := Clock.powerUp.stamp, body := .retainedLost a }

def powerUp (found : List (Area × Nat)) (s : State) : State :=
  let failed := failedAreas found s.ret
  State.afterReset s.pending (checkedStore failed s.ret) Clock.powerUp
    { NoticeQueue.fresh with queue := lostNotices failed } s.free

/-- POWER_UP (R198): every area is checked against the check value found for it (log 12). -/
def execPowerUp (found : List (Area × Nat)) (s : State) : Host.Outcome State Fault Refusal :=
  .next (powerUp found s)

end Sys2Proof.Machine
end

