-- ==== Sys2Proof/Machine/Weighing.lean ====
section
/-! DEFINITION. The weighing commands: sample frames and their gap, the ZERO, TARE and KEYED_TARE keys,
CAL_WRITE and CAL_READ (chapter 2). -/

namespace Sys2Proof.Machine

/-- A sample frame at an ONLINE scale station (R24). -/
def sampleOp (p : CounterPort) (samples : List Int) (s : State) : State :=
  let w := takeSamples s.ret.cal[p] samples (s.port p).weigh
  handResult p w (reportedResult w) s

/-- SAMPLE (R24). -/
def execSample (p : CounterPort) (s0 s1 s2 s3 : Int) (s : State) : Host.Outcome State Fault Refusal :=
  .next (flush (handOn p scaleOnly (sampleOp p [s0, s1, s2, s3]) s))

/-- SAMPLE_GAP_EXPIRY (R25). A stopped timer does not expire (log 4). -/
def execSampleGapExpiry (p : CounterPort) (s : State) : Host.Outcome State Fault Refusal :=
  if (s.port p).weigh.gapRunning then
    let w := sampleGap s.ret.cal[p] (s.port p).weigh
    .next (flush (handResult p w (reportedResult w) s))
  else .next s

/-- An accepted ZERO hands the result of its pass to the station (R32). -/
def zeroOp (p : CounterPort) (s : State) : State :=
  match zeroKey s.ret.cal[p] (s.port p).weigh with
  | .error m => refuseKey p m s
  | .ok w => clearHeld p (handResult p w (reportedResult w) s)

/-- ZERO (R32). -/
def execZero (p : CounterPort) (s : State) : Host.Outcome State Fault Refusal :=
  .next (keyEvent p salesGate (zeroOp p) s)

/-- A key that sets or clears the tare, or is refused. -/
def tareOutcome (p : CounterPort) (r : Except MsgCode Tare) (s : State) : State :=
  match r with
  | .error m => refuseKey p m s
  | .ok t => clearHeld p (applyTare p t s)

def tareOp (p : CounterPort) (s : State) : State :=
  tareOutcome p (tareKey s.ret.cal[p] (s.port p).weigh) s

/-- TARE (R35). -/
def execTare (p : CounterPort) (s : State) : Host.Outcome State Fault Refusal :=
  .next (keyEvent p salesGate (tareOp p) s)

def keyedTareOp (p : CounterPort) (t : Nat) (s : State) : State :=
  tareOutcome p (keyedTareKey s.ret.cal[p] t) s

/-- KEYED_TARE (R36). -/
def execKeyedTare (p : CounterPort) (t : Nat) (s : State) : Host.Outcome State Fault Refusal :=
  .next (keyEvent p salesGate (keyedTareOp p t) s)

/-! ### Calibration requests -/

/-- A port number of a request, 1 to 14. -/
def portOfNumber (n : Nat) : Option CounterPort :=
  if h : n - 1 < 14 then (if 1 ≤ n then some ⟨n - 1, h⟩ else none) else none

/-- The field values of the table in 2.1 (R20 check 4). -/
def calValid (f : CalFields) : Bool :=
  decide (-8388608 ≤ f.zero) && decide (f.zero ≤ 8388607) &&
    1 ≤ f.mult && f.mult ≤ 16777215 && [3000, 6000, 15000, 30000].contains f.max &&
    (f.max1 == 0 || (decide (1000 ≤ f.max1) && decide (f.max1 ≤ f.max - 1))) &&
    [1, 2, 5].contains f.e1 && [2, 5, 10].contains f.e2 && (f.max1 == 0 || decide (f.e1 < f.e2)) &&
    [4, 8, 16].contains f.window && 3 ≤ f.stability && f.stability ≤ 15

/-- ON, OFF, or the configuration's default as it stands (R20). -/
def trackingValue (cfg : ConfigRecord) : TrackingSetting → Bool
  | .on => true
  | .off => false
  | .default => cfg.zeroTracking

/-- The checks of R20, in order. -/
def calWriteRefusal (port : Option CounterPort) (f : CalFields) (tracking : Option TrackingSetting)
    (s : State) : Option ResultCode :=
  match port with
  | none => some .badRecord
  | some p =>
    let c := s.port p
    if !(c.online && decide (c.kind = some .scale) && decide (c.calSwitch = .on)) then some .calLocked
    else if c.sale = .item ∨ c.sale = .printing then some .busy
    else if !calValid f || tracking.isNone then some .badRecord
    else none

/-- An accepted write: record, audit counter, weighing context afresh (R20, R22, R203). -/
def storeCal (p : CounterPort) (r : CalRecord) (s : State) : State :=
  s |> modRet (fun t =>
        { t with cal := t.cal.set p (some r), audit := satUp Config.max16 t.audit 1 })
    |> modPort p (fun c => { c with weigh := WeighCtx.fresh (some r) true, displayDue := true })

def calWriteOp (tag port : Nat) (f : CalFields) (tracking : Option TrackingSetting) (s : State) :
    State :=
  match calWriteRefusal (portOfNumber port) f tracking s, portOfNumber port, tracking with
  | some code, _, _ => refuseRequest tag code s
  | none, some p, some k =>
    let s1 := storeCal p { toCalFields := f, tracking := trackingValue s.ret.config k } s
    s1 |> notify (.calChanged p s1.ret.audit) |> reply tag .ok .none
  | none, _, _ => refuseRequest tag .badRecord s

/-- CAL_WRITE (R20). -/
def execCalWrite (tag port : Nat) (f : CalFields) (tracking : Option TrackingSetting) (s : State) :
    Host.Outcome State Fault Refusal :=
  .next (arrive (.calWrite tag port f tracking) (calWriteOp tag port f tracking) s)

/-- What CAL_READ reports of a port (R21). -/
def calReport (p : CounterPort) (s : State) : ReplyData :=
  let cal := s.ret.cal[p]
  let c := s.port p
  if c.online ∧ c.kind = some .scale then
    .calibration cal c.weigh.state (windowLength cal) c.weigh.window.length (windowSum c.weigh)
      c.weigh.zo c.weigh.zi
  else .calibration cal .noData (windowLength cal) 0 0 0 0

def calReadOp (tag port : Nat) (s : State) : State :=
  match portOfNumber port with
  | none => refuseRequest tag .badRecord s
  | some p => reply tag .ok (calReport p s) s

/-- CAL_READ (R21). -/
def execCalRead (tag port : Nat) (s : State) : Host.Outcome State Fault Refusal :=
  .next (arrive (.calRead tag port) (calReadOp tag port) s)

end Sys2Proof.Machine
end

