-- ==== Sys2Proof/Machine/Link.lean ====
section
/-! DEFINITION. The link interface: frames thrown away, malformed frames and requests, STATUS, STATUS_CLEAR,
NOTICE_ENABLE, HUB_RESET, the uplink transmitter and the uplink's line drop (chapter 10). -/

namespace Sys2Proof.Machine

/-! ### FRAME_DISCARD (R182, R184, R185) -/

/-- A port's error counts after the receiver's verdict; a good frame is no discard. -/
def ErrorCounts.take (e : ErrorCounts) : RxVerdict → ErrorCounts
  | .framing => { e with framing := satUp Config.max16 e.framing 1 }
  | .overrun => { e with overrun := satUp Config.max16 e.overrun 1 }
  | .check => { e with check := satUp Config.max16 e.check 1 }
  | .good => e
  | .nothing => e

/-- A counter port, 1 to 14, of a link port number. -/
def counterPortOf (port : LinkPort) : Option CounterPort :=
  if h : port.val - 1 < 14 then (if 1 ≤ port.val then some ⟨port.val - 1, h⟩ else none) else none

/-- A frame that the receiver throws away. On a counter port the frame before it may still be being taken
(`whileTaking`, log 9); on the uplink a request waits. After a HUB_RESET nothing is counted on the uplink
(R193; log 27). -/
def discardFrame (port : LinkPort) (chars : List RxChar) (whileTaking : Bool) (s : State) : State :=
  match counterPortOf port with
  | some p => modPort p (fun c => { c with errors := c.errors.take (receive chars whileTaking) }) s
  | none =>
    if s.uplink.resetPending then s
    else
      { s with uplink := { s.uplink with
          errors := s.uplink.errors.take (receive chars s.uplink.waiting.isSome) } }

/-- FRAME_DISCARD (R182): the first check that fails discards the frame and adds to its count. -/
def execFrameDiscard (port : LinkPort) (chars : List RxChar) (whileTaking : Bool) (s : State) :
    Host.Outcome State Fault Refusal :=
  .next (discardFrame port chars whileTaking s)

/-! ### MALFORMED_FRAME and MALFORMED_REQUEST (R186, R187) -/

/-- MALFORMED_FRAME (R186): a good frame that the kind checks discard, in every port state. Other bytes
are no malformed frame and nothing changes (log 4). -/
def execMalformedFrame (p : CounterPort) (frame : List Byte) (s : State) :
    Host.Outcome State Fault Refusal :=
  if goodFrame frame && malformedFrame p (switchUnread (s.port p)) frame then .next (protocolError p s) else .next s

/-- MALFORMED_REQUEST (R187): a good frame on the uplink, its Length and the bytes behind it, that spells no
request is answered BAD_FRAME under its own tag. Other bytes are no malformed request and nothing changes
(log 4). -/
def execMalformedRequest (length : Byte) (rest : List Byte) (s : State) : Host.Outcome State Fault Refusal :=
  let frame := length :: rest
  if goodFrame frame && malformedRequest frame then
    .next (arrive (.malformedRequest length rest) (badFrame (frameTag frame)) s)
  else .next s

/-! ### STATUS (R191) -/

def stationReport (c : Port) : Option StationReport :=
  if c.kind = some .scale then
    some { operator := c.operator, sale := c.sale, service := c.service, printer := c.printer,
           calSwitch := c.calSwitch }
  else none

def portReport (c : Port) : PortReport where
  state := c.state
  kind := c.kind
  online := c.online
  supervision := c.supervision
  station := stationReport c
  errors := c.errors
  errorMark := c.errors.mark

def statusReport (s : State) : StatusReport where
  generation := s.ret.generation
  commit := s.commit
  staged := s.staged.length
  dayState := s.dayState
  dayNumber := s.ret.day.number
  nextSerial := s.ret.day.nextSerial
  nextOrder := s.ret.day.nextOrder
  clock := s.clock
  nextTicket := s.tickets.next
  nextHeld := decide ((s.ticket s.tickets.next).state ≠ .free)
  waiting := s.tickets.waiting.length
  calling := s.tickets.calling.length
  skipped := s.tickets.skipped.length
  uplinkUp := s.uplink.up
  uplinkErrors := s.uplink.errors
  uplinkErrorMark := s.uplink.errors.mark
  ports := s.ports.toList.map portReport
  enables := s.notices.enables
  notices := s.notices.queue.length
  lost := s.notices.lost
  audit := s.ret.audit

/-- The report goes out and the lost count is cleared in the same event. -/
def statusReadOp (tag : Nat) (s : State) : State :=
  reply tag .ok (.status (statusReport s)) { s with notices := { s.notices with lost := 0 } }

/-- STATUS (R191). -/
def execStatus (tag : Nat) (s : State) : Host.Outcome State Fault Refusal :=
  .next (arrive (.status tag) (statusReadOp tag) s)

/-! ### STATUS_CLEAR and NOTICE_ENABLE (R192, R196) -/

def clearUplinkErrors (s : State) : State := { s with uplink := { s.uplink with errors := {} } }

def clearPortErrors (p : CounterPort) (s : State) : State := modPort p (fun c => { c with errors := {} }) s

def clearAllErrors (s : State) : State :=
  clearUplinkErrors { s with ports := s.ports.map fun c => { c with errors := {} } }

def statusClearOp (tag : Nat) (port : Option Nat) (s : State) : State :=
  match port with
  | none => reply tag .ok .none (clearAllErrors s)
  | some n =>
    if n = 0 then reply tag .ok .none (clearUplinkErrors s)
    else
      match portOfNumber n with
      | none => refuseRequest tag .badRecord s
      | some p => reply tag .ok .none (clearPortErrors p s)

/-- STATUS_CLEAR (R192): one port, or every port where none is named. -/
def execStatusClear (tag : Nat) (port : Option Nat) (s : State) : Host.Outcome State Fault Refusal :=
  .next (arrive (.statusClear tag port) (statusClearOp tag port) s)

def noticeEnableOp (tag : Nat) (e : Enables) (s : State) : State :=
  reply tag .ok (.enables s.notices.enables) { s with notices := { s.notices with enables := e } }

/-- NOTICE_ENABLE (R196). -/
def execNoticeEnable (tag : Nat) (e : Enables) (s : State) : Host.Outcome State Fault Refusal :=
  .next (arrive (.noticeEnable tag e) (noticeEnableOp tag e) s)

/-! ### HUB_RESET (R193) -/

/-- The reply is queued, and the receiver takes no further request. -/
def hubResetOp (tag : Nat) (s : State) : State :=
  reply tag .ok .none { s with uplink := { s.uplink with resetPending := true, waiting := none } }

/-- HUB_RESET (R193). -/
def execHubReset (tag : Nat) (s : State) : Host.Outcome State Fault Refusal :=
  .next (arrive (.hubReset tag) (hubResetOp tag) s)

/-! ### UPLINK_TRANSMIT (R185, R188, R189, R193, R195) -/

/-- The rule of a request's name; what is no request waits nowhere and does nothing. -/
def requestOp : Instr → State → State
  | .malformedRequest length rest => badFrame (frameTag (length :: rest))
  | .status tag => statusReadOp tag
  | .statusClear tag port => statusClearOp tag port
  | .noticeEnable tag e => noticeEnableOp tag e
  | .hubReset tag => hubResetOp tag
  | .operatorWrite tag n r => operatorWriteOp tag n r
  | .calWrite tag port f k => calWriteOp tag port f k
  | .calRead tag port => calReadOp tag port
  | .pluRead tag first last => pluReadOp tag first last
  | .pluStage tag block => pluStageOp tag block
  | .stageDiscard tag => stageDiscardOp tag
  | .commit tag a => commitOp tag a
  | .commitAbort tag => commitAbortOp tag
  | .templateWrite tag n t => templateWriteOp tag n t
  | .translateWrite tag t h codes => translateWriteOp tag t h codes
  | .orderRead tag n => orderReadOp tag n
  | .totalsRead tag part first => totalsReadOp tag part first
  | .dayClose tag => dayCloseOp tag
  | .dayRecordRead tag part first => dayRecordReadOp tag part first
  | .configWrite tag entries => configWriteOp tag entries
  | .timeSet tag d second => timeSetOp tag d second
  | .lineDrop _ => id
  | .lineReturn _ => id
  | .uplinkLineDrop => id
  | .frameDiscard _ _ _ => id
  | .malformedFrame _ _ => id
  | .hello _ _ _ _ => id
  | .statusFrame _ _ _ => id
  | .sample _ _ _ _ _ => id
  | .sampleGapExpiry _ => id
  | .supervisionExpiry _ => id
  | .login _ _ => id
  | .logout _ => id
  | .zero _ => id
  | .tare _ => id
  | .keyedTare _ _ => id
  | .plu _ _ => id
  | .qty _ _ => id
  | .print _ => id
  | .cancel _ => id
  | .void _ _ => id
  | .reprint _ _ => id
  | .next _ => id
  | .serve _ => id
  | .recall _ => id
  | .skip _ => id
  | .recallSkipped _ _ => id
  | .cancelNext _ => id
  | .park _ => id
  | .pickup _ _ => id
  | .closeOrder _ => id
  | .printDone _ _ _ => id
  | .takeRequest _ => id
  | .takeDecision => id
  | .compositionComplete => id
  | .callTimeout _ => id
  | .orderAbandoned _ => id
  | .clockTick => id
  | .commitActivation => id
  | .commitDrainExpiry => id
  | .commitCompletion => id
  | .closeDrainExpiry => id
  | .dayCloseCompletion => id
  | .warmReset => id
  | .powerUp _ => id
  | .uplinkTransmit => id

/-- The request that waits is taken when the reply queue has room (R185). -/
def takeWaiting (s : State) : State :=
  match s.uplink.waiting with
  | none => s
  | some i =>
    if s.uplink.replies.length < Config.maxReplies then
      flush (requestOp i { s with uplink := { s.uplink with waiting := none } })
    else s

/-- The warm reset that follows a HUB_RESET's reply; the frame sent last stays to be read (log 9). -/
def resetAfterReply (s : State) : State :=
  let r := warmReset s
  { r with uplink := { r.uplink with lastSent := s.uplink.lastSent } }

/-- The last frame of a reply has been sent: the reply leaves the queue (R188). With a HUB_RESET's reply
the warm reset comes (R193); else the place goes to the request that waits. -/
def replySent (rest : List Reply) (s : State) : State :=
  let s1 := { s with uplink := { s.uplink with replies := rest, sentParts := 0 } }
  if s1.uplink.resetPending ∧ rest = [] then resetAfterReply s1 else takeWaiting s1

/-- The next frame of the oldest reply. -/
def sendReply (r : Reply) (rest : List Reply) (s : State) : State :=
  let k := s.uplink.sentParts
  let s1 := { s with uplink := { s.uplink with lastSent := some (replyFrameAt r k) } }
  if k + 1 < (replyParts r).length then
    { s1 with uplink := { s1.uplink with sentParts := k + 1 } }
  else replySent rest s1

/-- The oldest notice (R195). -/
def sendNotice (n : Notice) (rest : List Notice) (s : State) : State :=
  { s with
    uplink := { s.uplink with lastSent := some (noticeFrame n) }
    notices := { s.notices with queue := rest } }

/-- The transmitter's choice (R189). -/
def transmit (s : State) : State :=
  if s.uplink.up then
    match s.uplink.replies, s.notices.queue with
    | r :: rest, _ => sendReply r rest s
    | [], n :: rest => sendNotice n rest s
    | [], [] => s
  else s

/-- UPLINK_TRANSMIT (R189): the free transmitter sends one frame, whole (log 9). -/
def execUplinkTransmit (s : State) : Host.Outcome State Fault Refusal := .next (transmit s)

/-! ### UPLINK_LINE_DROP (R5, R190, R193) -/

/-- The frame of the oldest notice may be under way when the uplink drops: the uplink is UP and no train is
part sent (R189). -/
def noticeMaySend (s : State) : Bool :=
  s.uplink.up && decide (s.uplink.sentParts = 0) && !s.notices.queue.isEmpty

/-- A notice that was being sent is lost with its frame, uncounted (R195). Where one may be under way, whether
it is, is a free value (log 9). -/
def loseNotice (s : State) : State :=
  if noticeMaySend s then
    { s with
      notices := { s.notices with queue := s.notices.queue.drop (if Config.freeBit s.free then 1 else 0) }
      free := s.free + 1 }
  else s

/-- The uplink goes DOWN and gives up its replies and the request that waits; notices are kept. -/
def uplinkDown (s : State) : State :=
  { s with uplink := { s.uplink with up := false, replies := [], sentParts := 0, waiting := none } }

/-- The line of the uplink drops. -/
def uplinkDrop (s : State) : State := s |> loseNotice |> uplinkDown

/-- UPLINK_LINE_DROP (R190, R195): a pending warm reset comes at the drop (R193). On a DOWN uplink there is
nothing to give up. -/
def execUplinkLineDrop (s : State) : Host.Outcome State Fault Refusal :=
  if s.uplink.resetPending then .next (warmReset (uplinkDrop s)) else .next (uplinkDrop s)

/-! ### The counter-port transmitters (R183, R186) -/

/-- A port's oldest frame goes out (log 1). -/
def sendFrame (p : CounterPort) (c : Port) : Port :=
  match c.tx with
  | [] => c
  | f :: rest => { c with tx := rest, lastSent := some (outFrameBytes p f) }

/-- With no command waiting each counter port sends one frame. -/
def sendFrames (s : State) : State := { s with ports := Vector.ofFn fun p => sendFrame p (s.port p) }

end Sys2Proof.Machine
end

