-- ==== Sys2Proof/Machine/Dispatch.lean ====
section
/-! DEFINITION. One arm for each command of spec/opcode_table.json, in the table's order. -/

namespace Sys2Proof.Machine

def exec (i : Instr) (s : State) : Host.Outcome State Fault Refusal :=
  match i with
  | .lineDrop p => Sys2Proof.Machine.execLineDrop p s
  | .lineReturn port => Sys2Proof.Machine.execLineReturn port s
  | .uplinkLineDrop => Sys2Proof.Machine.execUplinkLineDrop s
  | .frameDiscard port chars whileTaking => Sys2Proof.Machine.execFrameDiscard port chars whileTaking s
  | .malformedFrame p frame => Sys2Proof.Machine.execMalformedFrame p frame s
  | .malformedRequest length rest => Sys2Proof.Machine.execMalformedRequest length rest s
  | .hello p kind sw printer => Sys2Proof.Machine.execHello p kind sw printer s
  | .statusFrame p sw printer => Sys2Proof.Machine.execStatusFrame p sw printer s
  | .sample p s0 s1 s2 s3 => Sys2Proof.Machine.execSample p s0 s1 s2 s3 s
  | .sampleGapExpiry p => Sys2Proof.Machine.execSampleGapExpiry p s
  | .supervisionExpiry p => Sys2Proof.Machine.execSupervisionExpiry p s
  | .login p n => Sys2Proof.Machine.execLogin p n s
  | .logout p => Sys2Proof.Machine.execLogout p s
  | .zero p => Sys2Proof.Machine.execZero p s
  | .tare p => Sys2Proof.Machine.execTare p s
  | .keyedTare p t => Sys2Proof.Machine.execKeyedTare p t s
  | .plu p n => Sys2Proof.Machine.execPlu p n s
  | .qty p q => Sys2Proof.Machine.execQty p q s
  | .print p => Sys2Proof.Machine.execPrint p s
  | .cancel p => Sys2Proof.Machine.execCancel p s
  | .void p serial => Sys2Proof.Machine.execVoid p serial s
  | .reprint p serial => Sys2Proof.Machine.execReprint p serial s
  | .next p => Sys2Proof.Machine.execNext p s
  | .serve p => Sys2Proof.Machine.execServe p s
  | .recall p => Sys2Proof.Machine.execRecall p s
  | .skip p => Sys2Proof.Machine.execSkip p s
  | .recallSkipped p t => Sys2Proof.Machine.execRecallSkipped p t s
  | .cancelNext p => Sys2Proof.Machine.execCancelNext p s
  | .park p => Sys2Proof.Machine.execPark p s
  | .pickup p t => Sys2Proof.Machine.execPickup p t s
  | .closeOrder p => Sys2Proof.Machine.execCloseOrder p s
  | .printDone p slot outcome => Sys2Proof.Machine.execPrintDone p slot outcome s
  | .takeRequest p => Sys2Proof.Machine.execTakeRequest p s
  | .takeDecision => Sys2Proof.Machine.execTakeDecision s
  | .compositionComplete => Sys2Proof.Machine.execCompositionComplete s
  | .callTimeout t => Sys2Proof.Machine.execCallTimeout t s
  | .orderAbandoned number => Sys2Proof.Machine.execOrderAbandoned number s
  | .clockTick => Sys2Proof.Machine.execClockTick s
  | .commitActivation => Sys2Proof.Machine.execCommitActivation s
  | .commitDrainExpiry => Sys2Proof.Machine.execCommitDrainExpiry s
  | .commitCompletion => Sys2Proof.Machine.execCommitCompletion s
  | .closeDrainExpiry => Sys2Proof.Machine.execCloseDrainExpiry s
  | .dayCloseCompletion => Sys2Proof.Machine.execDayCloseCompletion s
  | .status tag => Sys2Proof.Machine.execStatus tag s
  | .statusClear tag port => Sys2Proof.Machine.execStatusClear tag port s
  | .noticeEnable tag enables => Sys2Proof.Machine.execNoticeEnable tag enables s
  | .hubReset tag => Sys2Proof.Machine.execHubReset tag s
  | .warmReset => Sys2Proof.Machine.execWarmReset s
  | .powerUp found => Sys2Proof.Machine.execPowerUp found s
  | .operatorWrite tag n record => Sys2Proof.Machine.execOperatorWrite tag n record s
  | .calWrite tag port fields tracking => Sys2Proof.Machine.execCalWrite tag port fields tracking s
  | .calRead tag port => Sys2Proof.Machine.execCalRead tag port s
  | .pluRead tag first last => Sys2Proof.Machine.execPluRead tag first last s
  | .pluStage tag block => Sys2Proof.Machine.execPluStage tag block s
  | .stageDiscard tag => Sys2Proof.Machine.execStageDiscard tag s
  | .commit tag activation => Sys2Proof.Machine.execCommit tag activation s
  | .commitAbort tag => Sys2Proof.Machine.execCommitAbort tag s
  | .templateWrite tag n template => Sys2Proof.Machine.execTemplateWrite tag n template s
  | .translateWrite tag table half codes => Sys2Proof.Machine.execTranslateWrite tag table half codes s
  | .orderRead tag number => Sys2Proof.Machine.execOrderRead tag number s
  | .totalsRead tag part first => Sys2Proof.Machine.execTotalsRead tag part first s
  | .dayClose tag => Sys2Proof.Machine.execDayClose tag s
  | .dayRecordRead tag part first => Sys2Proof.Machine.execDayRecordRead tag part first s
  | .configWrite tag entries => Sys2Proof.Machine.execConfigWrite tag entries s
  | .timeSet tag date second => Sys2Proof.Machine.execTimeSet tag date second s
  | .uplinkTransmit => Sys2Proof.Machine.execUplinkTransmit s

end Sys2Proof.Machine
end

