-- ==== Sys2Proof/Machine/Step.lean ====
section
/-! DEFINITION. One step of the hub: the command at the front of the queue, or the idle step. -/

namespace Sys2Proof.Machine

/-- The command at the front is run on the state with the queue's rest. With none waiting, the
counter-port transmitters each send a frame (log 1). -/
def step (s : State) : Host.Outcome State Fault Refusal :=
  match s.pending with
  | [] => .next (sendFrames s)
  | i :: rest => exec i { s with pending := rest }

/-- The command a word spells put at the front of the queue; a word that spells none changes nothing. -/
def State.withFetchWord (s : State) (nbits w : Nat) : State :=
  match decodeTableWord nbits w with
  | some i => { s with pending := i :: s.pending }
  | none => s

end Sys2Proof.Machine
end

