-- ==== Sys2Proof/Safety.lean ====
section
/-! DEFINITION. The terms that claims about the hub use: when a command can be taken, what an answered
command leaves, and the relations between fields that the manual states and every step keeps. -/

namespace Sys2Proof.Machine

/-! ### When a command can be taken -/

/-- Between events no DISPLAY frame is owed (R17; log 21). -/
def Quiet (s : State) : Prop := ∀ p : CounterPort, (s.port p).displayDue = false

/-- A scale station whose frames are handed on (R6). -/
def ScaleOnline (s : State) (p : CounterPort) : Prop :=
  (s.port p).state = .up ∧ (s.port p).online = true ∧ (s.port p).kind = some .scale

/-- A scale station in IDLE that may be given a sales key (R11). -/
def KeyReady (s : State) (p : CounterPort) : Prop :=
  Quiet s ∧ ScaleOnline s p ∧ (s.port p).sale = .idle

/-- A scale station with an item selected. -/
def ItemReady (s : State) (p : CounterPort) (sn : Snapshot) : Prop :=
  Quiet s ∧ ScaleOnline s p ∧ (s.port p).sale = .item ∧ (s.port p).snapshot = some sn

/-- A request on the uplink is taken at once (R188). -/
def UplinkOpen (s : State) : Prop :=
  Quiet s ∧ s.uplink.resetPending = false ∧ s.uplink.replies.length < Config.maxReplies

/-! ### What an answered command leaves -/

/-- `t` is `base` but for the ports, and every port other than `p` is that of `base`. -/
def OnlyPort (base t : State) (p : CounterPort) : Prop :=
  t = { base with ports := t.ports } ∧ ∀ q : CounterPort, q ≠ p → t.port q = base.port q

/-- A key taken at station `p`: the state is `base` but for port `p`, which is `c` with its supervision
reloaded and one DISPLAY frame of the state after the key (R8, R11, R17). -/
def KeyAnswered (base t : State) (p : CounterPort) (c : Port) : Prop :=
  OnlyPort base t p ∧
    t.port p = { c with
      supervision := base.ret.config.supervisionReload
      tx := c.tx ++ [.display (displayOf t p)] }

/-- A request answered: `base` with the uplink UP and one reply more (R5, R188). -/
def replied (tag : Nat) (code : ResultCode) (data : ReplyData) (base : State) : State :=
  { base with uplink := { base.uplink with
      up := true
      replies := base.uplink.replies ++ [{ tag := tag, result := code, data := data }] } }

/-- The end of an event that every station is shown (R17): the state is `base` but for the ports, and each
ONLINE scale station has one DISPLAY frame more. -/
def EveryStationShown (base t : State) : Prop :=
  t = { base with ports := t.ports } ∧
    ∀ q : CounterPort,
      (ScaleOnline base q → t.port q =
        { base.port q with tx := (base.port q).tx ++ [.display (displayOf t q)] }) ∧
      (¬ ScaleOnline base q → t.port q = base.port q)

/-- A key taken at station `p` that calls ticket `k` there with count `n`: each reachable call display
whose mask holds the station is sent NOW_SERVING, and the station NOW_SERVING and its DISPLAY (R134,
R135), in that order by the model's choice (log 42). -/
def CallAnswered (base t : State) (p : CounterPort) (c : Port) (k : TicketNo) (n : Nat) : Prop :=
  t = { base with ports := t.ports } ∧
    (∀ q : CounterPort, q ≠ p →
      (((base.port q).state = .up ∧ (base.port q).online = true ∧
          (base.port q).kind = some .callDisplay ∧
          (∃ m, (base.port q).mask = some m ∧ base.ret.config.masks[m][p] = true)) →
        t.port q = { base.port q with tx := (base.port q).tx ++ [.nowServing p k n] }) ∧
      (¬ ((base.port q).state = .up ∧ (base.port q).online = true ∧
          (base.port q).kind = some .callDisplay ∧
          (∃ m, (base.port q).mask = some m ∧ base.ret.config.masks[m][p] = true)) →
        t.port q = base.port q)) ∧
    t.port p = { c with
      service := .called
      supervision := base.ret.config.supervisionReload
      tx := c.tx ++ [.nowServing p k n, .display (displayOf t p)] }

/-- A weighing context with another tare: an in-limit latest result is weighed again (R38). -/
def retared (cal : Option CalRecord) (t : Tare) (w : WeighCtx) : WeighCtx :=
  { w with tare := t, latest := (reweigh cal { w with tare := t }).or w.latest }

/-- The snapshot of a port that is handed a weight result: priced again in ITEM alone (R48). -/
def repriced (c : Port) (r : WeightResult) : Option Snapshot :=
  if c.sale = .item then c.snapshot.map fun sn => { sn with live := some (livePrice sn (some r)) }
  else c.snapshot

/-- A port whose snapshot has closed (R47): a PRESET tare is gone with it. -/
def closedPort (cal : Option CalRecord) (c : Port) : Port :=
  { c with
    snapshot := none
    weigh := if c.weigh.tare.kind = .preset then retared cal noTare c.weigh else c.weigh }

/-- A completed commit (R82 to R85), its displays apart: the list applied to the table, G raised, the list
emptied, EDITING, and the COMMIT_DONE notice with its counts. The numbers in `named` count as named by open
snapshots: the number of a PLU key that is reselecting (log 24). -/
def appliedFor (named : List Nat) (forced : Nat) (s : State) : State :=
  let r := applyEntries (named ++ openPlus s) s.staged s.ret.items
  notify (.commitApplied ((s.ret.generation + 1) % 65536) forced s.staged.length (r.2.count .added)
      (r.2.count .replaced) (r.2.count .removed) (r.2.count .retired))
    { s with
      ret := { s.ret with items := r.1, generation := (s.ret.generation + 1) % 65536 }
      staged := []
      commit := .editing }

/-- A completed commit with no reselection under way. -/
def applied (forced : Nat) (s : State) : State := appliedFor [] forced s

/-- A port without an open snapshot that an accepted PLU of record `r` is taken at (R37, R44 to R46): a new
snapshot with quantity 1, G and the markdown in force, the preset tare taken where it may be, the live price, and
ITEM with no message but TARE_INVALID. -/
def itemOpened (s : State) (cal : Option CalRecord) (r : ItemRecord) (c : Port) : Port :=
  let percent := match r.markdown with
    | none => 0
    | some m => if s.clock.valid = true ∧ m.start ≤ s.clock.second / 60 ∧ s.clock.second / 60 < m.stop then
        m.percent else 0
  let sn : Snapshot := { item := r.item, generation := s.ret.generation, percent := percent
                         quantity := 1, live := none }
  let preset := r.item.presetTare
  let opened : WeighCtx → Option MsgCode → Port := fun w m => { c with
    weigh := w, snapshot := some { sn with live := some (livePrice sn w.latest) }, sale := .item, held := m }
  match cal with
  | none => opened c.weigh none
  | some k =>
    if preset = 0 ∨ c.weigh.tare.kind = .weighed ∨ c.weigh.tare.kind = .keyed then opened c.weigh none
    else if preset % k.e1 ≠ 0 ∨ k.max < 2 * preset then opened c.weigh (some .tareInvalid)
    else opened (retared (some k) { kind := .preset, value := preset } c.weigh) none

/-- The totals that a day close finds when it builds its record: the orders it ends and the tickets it
discards are counted first (R161, R144). -/
def closedTotals (orders discards : Nat) (t : Totals) : Totals :=
  let ended := (List.range orders).foldl (fun g _ => g.move true { ordersClosedByDay := 1 }) t.grand
  { t with grand := ended.move true { ticketsDiscarded := discards } }

/-- The record of a completed day close (R176). -/
def closingRecord (s : State) : DayRecord where
  number := s.ret.day.number
  opened := s.ret.day.opened
  closed := s.clock.stamp
  totalsLost := s.ret.day.totalsLost
  totals := closedTotals s.orders.length
    ((List.finRange 100).filter fun k => discardable (s.ticket k).state).length s.ret.totals
  items := (s.ret.items.filter fun r => r.totals.items != 0).map fun r =>
    { plu := r.item.plu, name := r.item.name, department := r.item.department,
      mode := r.item.mode, status := r.status, totals := r.totals }

/-- A completed day close (R175 to R178), its notices and displays apart. -/
def dayClosedState (s : State) : State :=
  { s with
    ret := { s.ret with
      items := (s.ret.items.filter fun r => r.status = .live).map fun r => { r with totals := {} }
      totals := Totals.empty
      day := { number := (s.ret.day.number + 1) % 65536, opened := some s.clock.stamp
               nextSerial := 1, nextOrder := 1, totalsLost := false
               record := some (closingRecord s) } }
    log := []
    dayState := .trading
    orders := []
    tickets := { s.tickets with
      recs := Vector.replicate 100 TicketRec.fresh, waiting := [], calling := [], skipped := [] }
    ports := s.ports.map fun c => { c with service := .free }
    free := s.free + 1 }

/-- The ORDER_CLOSED notice of a live order that a day close ends (R161). -/
def orderEnded (s : State) (o : Order) : State :=
  let station := match o.state with | .openAt p => some p | .parked => none
  notify (.orderClosed .dayClosed o.number o.ticket station none
    (some (o.lines.filter fun l => !l.voided).length) (some o.total)) s

/-- A completed day close with its notices, its displays apart: ORDER_CLOSED for the orders in the order in
which they were ended, then DAY_CLOSED (R161, R178). -/
def dayClosedWith (ended : List Order) (s : State) : State :=
  let r := closingRecord s
  notify (.dayClosed r.number ((r.number + 1) % 65536) r.closed r.items.length r.anyMark)
    (ended.foldl orderEnded (dayClosedState s))

/-! ### The second (R201) -/

/-- The fields of the configuration record stand in their ranges (R200). -/
structure ConfigSound (c : ConfigRecord) : Prop where
  supervisionReload : 2 ≤ c.supervisionReload ∧ c.supervisionReload ≤ 10
  commitDrain : 5 ≤ c.commitDrain ∧ c.commitDrain ≤ 300
  closeDrain : 5 ≤ c.closeDrain ∧ c.closeDrain ≤ 300
  callTimeout : 30 ≤ c.callTimeout ∧ c.callTimeout ≤ 600
  parkTimeout : 5 ≤ c.parkTimeout ∧ c.parkTimeout ≤ 120
  serviceRatio : 1 ≤ c.serviceRatio ∧ c.serviceRatio ≤ 4

/-- The state after a tick has moved the clock and taken one step of every count, with nothing yet fallen due
(R8, R80, R127, R139, R155, R173, R201): CLOCK_LOST carries the last valid date. The model's own counter moves
too (log 20). -/
def ticked (s : State) : State :=
  let ends : Bool := decide (86399 ≤ s.clock.second) && s.clock.valid &&
    !dateBefore s.clock.date ⟨2099, 12, 31⟩
  let clock : Clock :=
    if s.clock.second < 86399 then { s.clock with second := s.clock.second + 1 }
    else if ends then { s.clock with second := 0, valid := false }
    else if s.clock.valid then { s.clock with second := 0, date := nextDate s.clock.date }
    else { s.clock with second := 0 }
  let counted : State := { s with
    clock := clock
    ports := s.ports.map fun c => if c.online then { c with supervision := c.supervision - 1 } else c
    tickets := { s.tickets with recs := s.tickets.recs.map fun r =>
      match r.state with
      | .waiting => { r with age := min 999999 (r.age + 1) }
      | .skipped => { r with age := min 999999 (r.age + 1) }
      | .called p n => { r with age := min 999999 (r.age + 1), state := .called p (n - 1) }
      | .free => r
      | .inService => r }
    orders := s.orders.map fun o => { o with idle := min 999999 (o.idle + 1) }
    commit := match s.commit with
      | .waiting d => .waiting (if d.expired then d else { d with timer := d.timer - 1 })
      | .editing => .editing
      | .scheduled d m => .scheduled d m
    dayState := match s.dayState with
      | .closing n false => .closing (n - 1) false
      | .closing n true => .closing n true
      | .trading => .trading
    free := s.free + 1 }
  if ends then notify (.clockLost s.clock.date) counted else counted

/-- The commands of the events that have fallen due in a ticked state: a supervision count at 0, a scheduled
commit whose minute has come, a drain at 0, a call timer at 0, a PARKED order at its park timeout. -/
def dueCommands (u : State) : List Instr :=
  ((List.finRange 14).filter fun p => (u.port p).online && decide ((u.port p).supervision = 0)).map
      .supervisionExpiry ++
    (match u.commit with
      | .scheduled d m =>
        if u.clock.second % 60 = 0 ∧ u.clock.valid = true ∧
            (dateBefore d u.clock.date = true ∨ u.clock.date = d ∧ m ≤ u.clock.second / 60) then
          [.commitActivation] else []
      | .waiting d => if d.expired = false ∧ d.timer = 0 then [.commitDrainExpiry] else []
      | .editing => []) ++
    (match u.dayState with
      | .closing 0 false => [.closeDrainExpiry]
      | .closing _ _ => []
      | .trading => []) ++
    ((List.finRange 100).filter fun k =>
      match (u.ticket k).state with
      | .called _ 0 => true
      | _ => false).map .callTimeout ++
    (u.orders.filter fun o =>
      decide (o.state = .parked) && decide (u.ret.config.parkTimeout * 60 ≤ o.idle)).map
        fun o => .orderAbandoned o.number

/-- A command that answers a next state, run. -/
def ran (s : State) (i : Instr) : State :=
  match exec i s with
  | .next t => t
  | .fault _ => s
  | .refused _ => s

/-! ### Frames of a scale (R6, 1.6) -/

/-- A sales key of station `p`, with any number it may carry (R11). -/
def SalesKey (p : CounterPort) (i : Instr) : Prop :=
  i ∈ [Instr.zero p, .tare p, .print p, .cancel p, .next p, .serve p, .recall p, .skip p, .cancelNext p,
    .park p, .closeOrder p] ∨
  ∃ n : Nat, i ∈ [Instr.keyedTare p n, .plu p n, .qty p n, .void p n, .reprint p n, .recallSkipped p n,
    .pickup p n]

/-- A frame that only a SCALE on port `p` may send, with any operand (R6). -/
def ScaleFrame (p : CounterPort) (i : Instr) : Prop :=
  SalesKey p i ∨ i = .logout p ∨ (∃ n, i = .login p n) ∨ (∃ a b c d, i = .sample p a b c d) ∨
    ∃ n o, i = .printDone p n o

/-- A frame of a counter device that passes the kind checks, HELLO apart. -/
def DeviceFrame (p : CounterPort) (i : Instr) : Prop :=
  ScaleFrame p i ∨ i = .takeRequest p ∨ ∃ sw pr, i = .statusFrame p sw pr

/-! ### Entries of a totals reply (R170, R179; the numbers of operator and department groups are log 39) -/

/-- The station groups of a set of totals from station `p` to 14, each with its number. -/
def stationGroups (t : Totals) (p : CounterPort) : List TotalsEntry :=
  ((List.finRange 14).drop p.val).map fun q => .station (q.val + 1) t.stations[q]

/-- The operator groups from operator `k` to 32. -/
def operatorGroups (t : Totals) (k : OperatorNo) : List TotalsEntry :=
  ((List.finRange 32).drop k.val).map fun j => .operator (j.val + 1) t.operators[j]

/-- The department groups from entry `k` to 32. -/
def departmentGroups (t : Totals) (k : Fin 32) : List TotalsEntry :=
  ((List.finRange 32).drop k.val).map fun j => .department (j.val + 1) t.departments[j]

/-! ### The station offline event (R9) -/

/-- One posted label of station `p` at its offline event (R120): a copy is lost; a label of an earlier day is
only reported; a label of the day makes its entry UNPRINTED, and an item label also has its sale reversed as
an unprinted void and its line of an order voided. -/
def unprinted (p : CounterPort) (u : State) (l : SlotLabel) : State :=
  let marked := u.log.map fun e => if e.serial = l.serial then { e with state := .unprinted } else e
  let reversed : SaleRecord → State := fun sr =>
    { u with
      log := marked
      ret := countGrand { unprintedVoids := 1, voidValue := sr.amounts.final }
        (countStation p { unprintedVoids := 1 } (moveSale false sr u.ret))
      orders := match sr.order with
        | none => u.orders
        | some (n, _) => u.orders.map fun o => if o.number = n then voidLine l.serial o else o }
  if l.cls = .reprint then u
  else if l.day ≠ u.ret.day.number then notify (.labelVoided l.serial p (.unprinted true)) u
  else
    match l.cls, l.sale with
    | .item, some sr => notify (.labelVoided l.serial p (.unprinted false)) (reversed sr)
    | _, _ => notify (.labelVoided l.serial p (.unprinted false)) { u with log := marked }

/-- The offline cancel counted, and every posted label dealt with in post-list order (R9, R120). -/
def labelsLost (s : State) (p : CounterPort) : State :=
  let c := s.port p
  let ret : Retained := if c.snapshot = none then s.ret else
    countGrand { offlineCancels := 1 } (countStation p { offlineCancels := 1 } s.ret)
  (c.slots.post.filterMap fun k => c.slots.labels[k]).foldl (unprinted p) { s with ret := ret }

/-- The ticket called to a station that goes OFFLINE (R142): called with one more call to the oldest asking
station, else back at the head of the waiting queue. -/
def ticketReturned (s : State) (k : TicketNo) : TicketUnit :=
  match s.tickets.calling with
  | q :: rest =>
    let called : TicketRec := { s.ticket k with
      state := .called q s.ret.config.callTimeout, count := min 3 ((s.ticket k).count + 1) }
    { s.tickets with calling := rest, recs := s.tickets.recs.set k called }
  | [] =>
    { s.tickets with
      waiting := k :: s.tickets.waiting
      recs := s.tickets.recs.set k { s.ticket k with state := .waiting } }

/-- A scale's context after its offline event: emptied, its slots freed, its port still UP (R9, R120). -/
def offlinePort (s : State) (p : CounterPort) : Port :=
  let c := if (s.port p).snapshot = none then s.port p else closedPort s.ret.cal[p] (s.port p)
  { c with
    online := false, operator := none, sale := .noOperator, record := none, service := .free
    held := none, tx := []
    weigh := { c.weigh with gapRunning := false }
    slots := { labels := Vector.replicate 4 none
               free := (s.port p).slots.free ++ (s.port p).slots.post
               post := [], outstanding := none } }

/-- What the offline event of scale `p` leaves of everything but port `p` itself: its order PARKED with its
lines kept, its jobs given up, its posted labels dealt with, its called ticket returned or its asking ended,
and its close counted by a WAITING commit. Where that close completes no commit the notices of the event are
those of `lost`, and then `stated`, and every other port but the one a ticket is called to is as it was. -/
structure OfflineEffects (s t : State) (p : CounterPort) (stated : State → State) : Prop where
  frame : t = { s with
    ret := { s.ret with
      items := t.ret.items, totals := t.ret.totals, generation := t.ret.generation }
    ports := t.ports, notices := t.notices, staged := t.staged, commit := t.commit
    composer := t.composer, log := t.log, tickets := t.tickets, orders := t.orders, free := t.free }
  orders : t.orders = (labelsLost s p).orders.map fun o =>
    if o.state = .openAt p then { o with state := .parked, idle := 0, summaryInFlight := false } else o
  queue : t.composer.queue = s.composer.queue.filter fun j => j.station ≠ p
  current : t.composer.current = s.composer.current.map fun c =>
    if c.job.station = p then { c with dropped := true } else c
  count : t.composer.serviceCount = s.composer.serviceCount
  log : t.log = (labelsLost s p).log
  totals : t.ret.totals = (labelsLost s p).ret.totals
  unserved : (∀ k n, (s.ticket k).state ≠ .called p n) →
    t.tickets = { s.tickets with calling :=
      if (s.port p).service = .asking then s.tickets.calling.filter fun q => q ≠ p
      else s.tickets.calling }
  returned : ∀ k n, (s.ticket k).state = .called p n →
    (∀ j m, (s.ticket j).state = .called p m → j = k) → (s.port p).service = .called →
    t.tickets = ticketReturned s k
  /-- The snapshot's close is no business of a commit. -/
  uncounted : (∀ d sn, s.commit = .waiting d → (s.port p).snapshot = some sn →
      sn.generation ≠ (s.ret.generation + 65535) % 65536) →
    t.commit = s.commit ∧ t.staged = s.staged ∧ t.ret = (labelsLost s p).ret
  counted : ∀ d sn, s.commit = .waiting d → (s.port p).snapshot = some sn →
    sn.generation = (s.ret.generation + 65535) % 65536 →
    (2 ≤ d.awaited → t.commit = .waiting { d with awaited := d.awaited - 1 } ∧
      t.staged = s.staged ∧ t.ret = (labelsLost s p).ret) ∧
    (d.awaited ≤ 1 → t.commit = .editing ∧ t.staged = [] ∧
      t.ret.generation = (s.ret.generation + 1) % 65536)
  others : (∀ d, s.commit = .waiting d → 2 ≤ d.awaited) →
    ((∀ k n, (s.ticket k).state ≠ .called p n) ∨ s.tickets.calling = [] →
      t.notices = (stated (labelsLost s p)).notices ∧
      ∀ q : CounterPort, q ≠ p → t.port q = s.port q) ∧
    (∀ (k : TicketNo) (n : Nat) (q : CounterPort) (rest : List CounterPort),
      (s.ticket k).state = .called p n → (∀ j m, (s.ticket j).state = .called p m → j = k) →
      (s.port p).service = .called → s.tickets.calling = q :: rest → q ≠ p →
      let count := min 3 ((s.ticket k).count + 1)
      t.notices = (stated (notify (.ticketCalled k q count .returned) (labelsLost s p))).notices ∧
      t.port q = { s.port q with
        service := .called
        tx := if (s.port q).state = .up ∧ (s.port q).online = true then
            (s.port q).tx ++ [.nowServing q k count]
          else (s.port q).tx } ∧
      ∀ r : CounterPort, r ≠ p → r ≠ q → t.port r = { s.port r with
        tx := if (s.port r).state = .up ∧ (s.port r).online = true ∧
            (s.port r).kind = some .callDisplay ∧
            (∃ m, (s.port r).mask = some m ∧ s.ret.config.masks[m][q] = true) then
            (s.port r).tx ++ [.nowServing q k count]
          else (s.port r).tx })

/-! ### Bounds of lists and counts -/

/-- The notice queue and its lost count, the reply queue, the pending list, the label log, the skipped list
and the order table are within the bounds the manual gives them, and no DISPLAY frame is owed. -/
structure QueuesBounded (s : State) : Prop where
  notices : s.notices.queue.length ≤ Config.maxNotices
  lost : s.notices.lost ≤ Config.maxLost
  replies : s.uplink.replies.length ≤ Config.maxReplies
  staged : s.staged.length ≤ Config.maxStaged
  log : s.log.length ≤ Config.maxLog
  skipped : s.tickets.skipped.length ≤ Config.maxSkipped
  orders : s.orders.length ≤ Config.maxOrders
  displays : Quiet s

/-! ### Slots (R110) -/

/-- Every slot number is on exactly one list, a posted slot and no other holds a label, and the
outstanding slot is the head of the post list. -/
structure SlotsSound (c : SlotCtx) : Prop where
  partition : ∀ k : SlotNo, c.free.count k + c.post.count k = 1
  filled : ∀ k : SlotNo, (c.labels[k]).isSome = c.post.contains k
  outstanding : ∀ k : SlotNo, c.outstanding = some k → c.post.head? = some k

def AllSlotsSound (s : State) : Prop := ∀ p : CounterPort, SlotsSound (s.port p).slots

/-! ### The composer (R102, R107) -/

/-- At most one job waits for a station, none for a station whose job is in composition, and a
composition that will be posted has a slot to be posted to. -/
structure ComposerSound (s : State) : Prop where
  oneJob : (s.composer.queue.map (·.station)).Nodup
  notTwice : ∀ c : Composition, s.composer.current = some c → c.dropped = false →
    ∀ j ∈ s.composer.queue, j.station ≠ c.job.station
  slotHeld : ∀ c : Composition, s.composer.current = some c → c.dropped = false →
    (s.port c.job.station).slots.free ≠ []

/-! ### The service line (R130) and the two drains (R61) -/

/-- The waiting queue and the calling-stations list are never both non-empty. -/
def LinesExclusive (s : State) : Prop := s.tickets.waiting = [] ∨ s.tickets.calling = []

/-- A commit in flight and a closing day exclude one another. -/
def DrainsExclusive (s : State) : Prop := s.commit = .editing ∨ s.dayState = .trading

/-! ### The service line and the orders (R127, R130, R146) -/

/-- Tickets, lists, orders and service states agree: each list holds its tickets or stations and no others,
each live order its ticket IN_SERVICE, each station the service state of its place, and a station whose
summary is in flight is PRINTING with its order OPEN there. -/
structure ServiceSound (s : State) : Prop where
  upOnline : ∀ p : CounterPort, (s.port p).online = true → (s.port p).state = .up
  attended : ∀ p : CounterPort, (s.port p).service ≠ .free →
    (s.port p).online = true ∧ (s.port p).kind = some .scale
  asking : ∀ p : CounterPort, (s.port p).service = .asking ↔ p ∈ s.tickets.calling
  called : ∀ p : CounterPort, (s.port p).service = .called ↔
    ∃ k n, (s.ticket k).state = .called p n
  calledOnce : ∀ (p : CounterPort) (j k : TicketNo) (m n : Nat),
    (s.ticket j).state = .called p m → (s.ticket k).state = .called p n → j = k
  serving : ∀ p : CounterPort, (s.port p).service = .serving ↔ ∃ o ∈ s.orders, o.state = .openAt p
  waiting : ∀ k : TicketNo, (s.ticket k).state = .waiting ↔ k ∈ s.tickets.waiting
  skipped : ∀ k : TicketNo, (s.ticket k).state = .skipped ↔ k ∈ s.tickets.skipped
  inService : ∀ k : TicketNo, (s.ticket k).state = .inService ↔ ∃ o ∈ s.orders, o.ticket = k
  freeFresh : ∀ k : TicketNo, (s.ticket k).state = .free → s.ticket k = TicketRec.fresh
  lists : s.tickets.calling.Nodup ∧ s.tickets.waiting.Nodup ∧ s.tickets.skipped.Nodup
  orders : s.orders.length ≤ Config.maxOrders ∧ (s.orders.map (·.number)).Nodup ∧
    (s.orders.map (·.ticket)).Nodup
  openOnce : ∀ o ∈ s.orders, ∀ x ∈ s.orders, ∀ p, o.state = .openAt p → x.state = .openAt p → o = x
  summaries : ∀ (j : Job) (n : Nat) (k : Option OperatorNo) (w : Stamp),
    (j ∈ s.composer.queue ∨ ∃ c, s.composer.current = some c ∧ c.dropped = false ∧ c.job = j) →
    j.source = .summary n k w →
    (s.port j.station).sale = .printing ∧
      ∃ o ∈ s.orders, o.number = n ∧ o.state = .openAt j.station

/-! ### The figures of orders (R56, R146) -/

/-- Each live order has at most 24 lines and a total of at most 9,999,999 cents that is the sum of the finals
of its lines not voided; and a sale on its way to an order, whose station is PRINTING with that order OPEN,
still fits both limits. -/
structure OrdersSound (s : State) : Prop where
  figures : ∀ o ∈ s.orders, o.lines.length ≤ Config.maxLines ∧
    o.total = ((o.lines.filter fun l => !l.voided).map (·.final)).sum ∧ o.total ≤ Config.maxOrderTotal
  room : ∀ (j : Job) (sr : SaleRecord) (n : Nat) (k : TicketNo),
    (j ∈ s.composer.queue ∨ ∃ c, s.composer.current = some c ∧ c.dropped = false ∧ c.job = j) →
    j.source = .item sr → sr.order = some (n, k) →
    (s.port j.station).sale = .printing ∧
      ∃ o ∈ s.orders, o.number = n ∧ o.state = .openAt j.station ∧ o.lines.length < Config.maxLines ∧
        o.total + sr.amounts.final ≤ Config.maxOrderTotal

/-! ### The item table and the pending list (R64, R68, R74) -/

/-- The item table is in rising order with no PLU number twice and holds at most 2,000 records, the pending
list holds no PLU number twice, and a commit in WAITING fits the table. -/
structure TableSound (s : State) : Prop where
  rising : (s.ret.items.map (·.item.plu)).Pairwise (· < ·)
  room : s.ret.items.length ≤ Config.maxItems
  staged : (s.staged.map entryPlu).Nodup
  fits : ∀ d : CommitDrain, s.commit = .waiting d →
    capacityCount s.ret.items s.staged ≤ Config.maxItems

/-! ### Generations (R71) -/

/-- Open snapshots stand at ONLINE scale stations and carry G or G - 1; a WAITING commit awaits exactly
those that carry G - 1, and there is one. -/
structure GenerationsSound (s : State) : Prop where
  range : s.ret.generation < 65536
  upOnline : ∀ p : CounterPort, (s.port p).online = true → (s.port p).state = .up
  snapshots : ∀ (p : CounterPort) (sn : Snapshot), (s.port p).snapshot = some sn →
    (s.port p).online = true ∧ (s.port p).kind = some .scale ∧
      (sn.generation = s.ret.generation ∨ sn.generation = prevGen s.ret.generation)
  awaited : ∀ d : CommitDrain, s.commit = .waiting d → d.awaited = staleOpen s ∧ 0 < d.awaited

/-! ### The ledger (R169) -/

/-- No station group and not the grand group carries its mark, and the grand figures stand below their
tops. -/
def LedgerClean (t : Totals) : Prop :=
  t.grand.mark = false ∧ (∀ p : CounterPort, (t.stations[p]).mark = false) ∧
    t.grand.items < Config.countTop ∧ t.grand.value < Config.valueTop

/-- While that is so, the grand items and value are the sums of the stations' (R169). -/
def LedgerBalanced (s : State) : Prop :=
  LedgerClean s.ret.totals →
    s.ret.totals.grand.items = (s.ret.totals.stations.toList.map (·.items)).sum ∧
      s.ret.totals.grand.value = (s.ret.totals.stations.toList.map (·.value)).sum

end Sys2Proof.Machine
end

