-- ==== Sys2Proof/Certificates/Slice0/Obligations.lean ====
section
/-! DEFINITION. The statements for the provers. -/

open Sys2Proof Sys2Proof.Machine

/-! ### The step -/

/-- The block form of the step: the command at the front of the queue runs on the state with the queue's
rest. -/
def Obligations.StepRunsFrontCommand : Prop :=
  ∀ (i : Instr) (rest : List Instr) (s : State), s.pending = i :: rest →
    step s = exec i { s with pending := rest }

/-- The model's choice (log 1): with no command waiting each counter port sends its oldest frame and
nothing else changes. -/
def Obligations.IdleStepSendsOldestFrames : Prop :=
  ∀ s : State, s.pending = [] →
    ∃ t, step s = .next t ∧ t = { s with ports := t.ports } ∧
      ∀ p : CounterPort,
        ((s.port p).tx = [] → t.port p = s.port p) ∧
        (∀ f rest, (s.port p).tx = f :: rest →
          t.port p = { s.port p with tx := rest, lastSent := some (outFrameBytes p f) })

/-- No command is refused, and only a completed composition can stop the machine. -/
def Obligations.OnlyCompositionCanStop : Prop :=
  ∀ (i : Instr) (s : State),
    (∃ t, exec i s = .next t) ∨ (i = .compositionComplete ∧ ∃ f, exec i s = .fault f)

/-! ### Invariants -/

/-- The state after reset meets every invariant stated here. -/
def Obligations.ResetMeetsInvariants : Prop :=
  QueuesBounded State.reset ∧ AllSlotsSound State.reset ∧ ComposerSound State.reset ∧
    LinesExclusive State.reset ∧ DrainsExclusive State.reset ∧ ServiceSound State.reset ∧
    GenerationsSound State.reset ∧ LedgerBalanced State.reset ∧ OrdersSound State.reset ∧
    TableSound State.reset ∧ ConfigSound State.reset.ret.config

/-- The notice queue and its lost count, the reply queue, the pending list, the label log, the skipped list
and the order table stay within their bounds, and no step leaves a DISPLAY frame owed. -/
def Obligations.StepKeepsQueuesBounded : Prop :=
  ∀ s t : State, QueuesBounded s → step s = .next t → QueuesBounded t

/-- Every slot number stays on exactly one list, with the outstanding slot at the head. -/
def Obligations.StepKeepsSlotLists : Prop :=
  ∀ s t : State, AllSlotsSound s → step s = .next t → AllSlotsSound t

/-- A station has at most one job, a composition that will be posted keeps its free slot, and such a composer
never finds the free list empty at a post. -/
def Obligations.StepKeepsComposerSound : Prop :=
  (∀ s t : State, ComposerSound s → step s = .next t → ComposerSound t) ∧
  (∀ s : State, ComposerSound s → exec .compositionComplete s ≠ .fault .noFreeSlot)

/-- The waiting queue and the calling-stations list are never both non-empty, and a commit in flight and a
closing day exclude one another. -/
def Obligations.StepKeepsExclusions : Prop :=
  ∀ s t : State, LinesExclusive s ∧ DrainsExclusive s → step s = .next t →
    LinesExclusive t ∧ DrainsExclusive t

/-- Every open snapshot carries G or G - 1, and a WAITING commit awaits exactly those that carry G - 1. The
item table stays in rising order with no PLU number twice and within 2,000 records, with room for the list of
a WAITING commit. -/
def Obligations.StepKeepsGenerations : Prop :=
  (∀ s t : State, GenerationsSound s → step s = .next t → GenerationsSound t) ∧
  (∀ s t : State, TableSound s → step s = .next t → TableSound t)

/-- While no mark is set the grand items and value are the sums of the stations'. -/
def Obligations.StepKeepsLedgerBalanced : Prop :=
  ∀ s t : State, LedgerBalanced s → step s = .next t → LedgerBalanced t

/-- The loaded tables change by the requests that write them, by the loss of their area at power-up, and by
UPLINK_TRANSMIT, which may take a request that waited; by nothing else. -/
def Obligations.TablesChangeOnlyByTheirWriters : Prop :=
  ∀ (i : Instr) (s t : State), exec i s = .next t → i ≠ .uplinkTransmit → (∀ l, i ≠ .powerUp l) →
    ((∀ tag n r, i ≠ .operatorWrite tag n r) → t.ret.operators = s.ret.operators) ∧
    ((∀ tag n r, i ≠ .templateWrite tag n r) → t.ret.templates = s.ret.templates) ∧
    ((∀ tag n h l, i ≠ .translateWrite tag n h l) →
      t.ret.table0 = s.ret.table0 ∧ t.ret.table1 = s.ret.table1) ∧
    ((∀ tag n f k, i ≠ .calWrite tag n f k) →
      t.ret.cal = s.ret.cal ∧ t.ret.audit = s.ret.audit) ∧
    ((∀ tag l, i ≠ .configWrite tag l) → t.ret.config = s.ret.config)

/-! ### Reading requests -/

/-- The reading requests answer with what their rules name, whole, and change nothing else, but that STATUS
clears the lost count it reports. Three points are the model's choice: NO_RECORD is answered ahead of a bad part
or index (log 38); the operator and department entries of TOTALS_READ, and every group entry of a day record, carry
their number (log 39); and a TOTALS_READ page of items names the number just after its last as the one to continue
from (log 44). -/
def Obligations.ReadingRequestsAnswer : Prop :=
  (∀ (s : State) (tag : Nat), UplinkOpen s →
    (exec (.status tag) s = .next (replied tag .ok
      (.status (statusReport { s with uplink := { s.uplink with up := true } }))
      { s with notices := { s.notices with lost := 0 } })) ∧
    (∀ p : CounterPort,
      let window := match s.ret.cal[p] with | none => 16 | some c => c.window
      let w := (s.port p).weigh
      ((s.port p).online = true → (s.port p).kind = some .scale →
        exec (.calRead tag p.number) s = .next (replied tag .ok
          (.calibration s.ret.cal[p] w.state window w.window.length w.window.sum w.zo w.zi) s)) ∧
      ((s.port p).online = false ∨ (s.port p).kind ≠ some .scale →
        exec (.calRead tag p.number) s = .next (replied tag .ok
          (.calibration s.ret.cal[p] .noData window 0 0 0 0) s))) ∧
    (∀ n : Nat, n = 0 ∨ 14 < n →
      exec (.calRead tag n) s = .next (replied tag .badRecord .none s))) ∧
  (∀ (s : State) (tag : Nat), UplinkOpen s →
    (∀ first last : Nat, 1 ≤ first → first ≤ last → last ≤ 99999 →
      let range := s.ret.items.filter fun r => first ≤ r.item.plu && r.item.plu ≤ last
      (range.length ≤ 32 → exec (.pluRead tag first last) s =
        .next (replied tag .ok (.items s.ret.generation range none) s)) ∧
      (∀ r : ItemRecord, 32 < range.length → range[31]? = some r → exec (.pluRead tag first last) s =
        .next (replied tag .ok
          (.items s.ret.generation (range.take 32) (some (r.item.plu + 1))) s))) ∧
    (∀ first last : Nat, first = 0 ∨ last < first ∨ 99999 < last →
      exec (.pluRead tag first last) s = .next (replied tag .badRecord .none s)) ∧
    exec (.orderRead tag none) s = .next (replied tag .ok (.orderList s.orders) s) ∧
    (∀ n : Nat,
      (∀ o : Order, 1 ≤ n → n ≤ 9999 → s.orders.find? (fun x => x.number == n) = some o →
        exec (.orderRead tag (some n)) s = .next (replied tag .ok (.order o) s)) ∧
      (1 ≤ n → n ≤ 9999 → (∀ o ∈ s.orders, o.number ≠ n) →
        exec (.orderRead tag (some n)) s = .next (replied tag .noOrder .none s)) ∧
      (n = 0 ∨ 9999 < n →
        exec (.orderRead tag (some n)) s = .next (replied tag .badRecord .none s)))) ∧
  (∀ (s : State) (tag : Nat), UplinkOpen s →
    let answer : TotalsPart → Nat → List TotalsEntry → Option Nat → Prop := fun part n l more =>
      exec (.totalsRead tag (some part) n) s =
        .next (replied tag .ok (.totals part (totalsHeader s) l more) s)
    let refused : Option TotalsPart → Nat → Prop := fun part n =>
      exec (.totalsRead tag part n) s = .next (replied tag .badRecord .none s)
    let t := s.ret.totals
    (∀ n : Nat, answer .grand n [.grand t.grand] none) ∧
    (∀ p : CounterPort, answer .station p.number (stationGroups t p) none) ∧
    (∀ k : OperatorNo, answer .operator k.number (operatorGroups t k) none) ∧
    (∀ k : Fin 32, answer .department (k.val + 1) (departmentGroups t k) none) ∧
    (∀ first : Nat, 1 ≤ first → first ≤ 99999 →
      let range := s.ret.items.filter fun r => first ≤ r.item.plu && r.item.plu ≤ 99999
      let entry : ItemRecord → TotalsEntry := fun r =>
        .item r.item.plu r.status r.item.department r.item.mode r.totals
      (range.length ≤ 32 → answer .item first (range.map entry) none) ∧
      (∀ r : ItemRecord, 32 < range.length → range[31]? = some r →
        answer .item first ((range.take 32).map entry) (some (r.item.plu + 1)))) ∧
    (∀ n : Nat, refused none n ∧ (n = 0 ∨ 14 < n → refused (some .station) n) ∧
      (n = 0 ∨ 32 < n → refused (some .operator) n ∧ refused (some .department) n) ∧
      (n = 0 ∨ 99999 < n → refused (some .item) n))) ∧
  (∀ (s : State) (tag : Nat), UplinkOpen s →
    (∀ r : DayRecord, s.ret.day.record = some r →
      let header : RecordHeader :=
        { number := r.number, opened := r.opened, closed := r.closed, totalsLost := r.totalsLost
          items := r.items.length }
      let answer : RecordPart → Nat → List TotalsEntry → Bool → Prop := fun part n l more =>
        exec (.dayRecordRead tag (some part) n) s =
          .next (replied tag .ok (.dayRecord part header l more) s)
      let refused : Option RecordPart → Nat → Prop := fun part n =>
        exec (.dayRecordRead tag part n) s = .next (replied tag .badRecord .none s)
      (∀ n : Nat, answer .header n [] false ∧ answer .grand n [.grand r.totals.grand] false) ∧
      (∀ p : CounterPort, answer .station p.number (stationGroups r.totals p) false) ∧
      (∀ k : OperatorNo, answer .operator k.number (operatorGroups r.totals k) false) ∧
      (∀ k : Fin 32, answer .department (k.val + 1) (departmentGroups r.totals k) false) ∧
      (∀ n : Nat, 1 ≤ n → n ≤ r.items.length →
        answer .item n (((r.items.drop (n - 1)).take 32).map .dayItem)
          (decide (32 < r.items.length - (n - 1)))) ∧
      (∀ n : Nat, refused none n ∧ (n = 0 ∨ 14 < n → refused (some .station) n) ∧
        (n = 0 ∨ 32 < n → refused (some .operator) n ∧ refused (some .department) n) ∧
        (n = 0 ∨ r.items.length < n → refused (some .item) n))) ∧
    (s.ret.day.record = none → ∀ (part : Option RecordPart) (n : Nat),
      exec (.dayRecordRead tag part n) s = .next (replied tag .noRecord .none s)))

/-! ### Link requests -/

/-- STATUS_CLEAR: the named port's counts, or every port's, become 0; a number above 14 is refused; nothing
else changes. -/
def Obligations.StatusClearClearsCounts : Prop :=
  ∀ (s : State) (tag : Nat), UplinkOpen s →
    (∀ p : CounterPort, exec (.statusClear tag (some p.number)) s =
      .next (replied tag .ok .none (s.setPort p { s.port p with errors := {} }))) ∧
    (exec (.statusClear tag (some 0)) s =
      .next (replied tag .ok .none { s with uplink := { s.uplink with errors := {} } })) ∧
    (exec (.statusClear tag none) s =
      .next (replied tag .ok .none
        { s with
          uplink := { s.uplink with errors := {} }
          ports := s.ports.map fun c => { c with errors := {} } })) ∧
    (∀ n : Nat, 14 < n → exec (.statusClear tag (some n)) s =
      .next (replied tag .badRecord .none s)) ∧
    (({} : ErrorCounts).mark = false)

/-- NOTICE_ENABLE replaces the enables whole and answers with those before; queued notices stay; a class
that is OFF, or the master OFF, stops notices queued after it; every reset leaves all OFF. -/
def Obligations.NoticeEnableReplacesEnables : Prop :=
  (∀ (s : State) (tag : Nat) (e : Enables), UplinkOpen s →
    exec (.noticeEnable tag e) s = .next (replied tag .ok (.enables s.notices.enables)
      { s with notices := { s.notices with enables := e } })) ∧
  (∀ (s : State) (b : NoticeBody),
    (s.notices.enables.master = false ∨ classEnabled s.notices.enables b = false) → notify b s = s) ∧
  (∀ s : State, ∃ t, exec .warmReset s = .next t ∧ t.notices.enables = Enables.off) ∧
  (∀ (s : State) (found : List (Area × Nat)), ∃ t, exec (.powerUp found) s = .next t ∧
    t.notices.enables = Enables.off)

/-- HUB_RESET answers OK and stops the receiver; with its reply the last of the queue, the warm reset comes
when that reply's only frame is sent; a request that arrives before is discarded without a count. -/
def Obligations.HubResetThenWarmReset : Prop :=
  (∀ (s : State) (tag : Nat), UplinkOpen s → exec (.hubReset tag) s = .next (replied tag .ok .none
    { s with uplink := { s.uplink with resetPending := true, waiting := none } })) ∧
  (∀ (s : State) (tag : Nat) (len : Byte) (rest : List Byte), s.uplink.resetPending = true →
    exec (.status tag) s = .next s ∧ exec (.malformedRequest len rest) s = .next s) ∧
  (∀ (s : State) (tag : Nat), s.uplink.up = true → s.uplink.resetPending = true →
    s.uplink.sentParts = 0 → s.uplink.replies = [{ tag := tag, result := .ok, data := .none }] →
    ∃ t, exec .uplinkTransmit s = .next t ∧
      t.uplink.lastSent = some (frameBytes 0 13 tag [1, 1, 2]) ∧
      { t with uplink := { t.uplink with lastSent := none } } =
        State.afterReset s.pending s.ret s.clock NoticeQueue.fresh s.free)

/-! ### Writing requests -/

/-- OPERATOR_WRITE stores or removes a record of an operator who is logged in nowhere, and is refused for
each reason of its rule. That a bad name is answered BAD_RECORD also for an operator who is logged in is the
model's choice (log 35). -/
def Obligations.OperatorWriteReplacesRecord : Prop :=
  ∀ (s : State) (tag : Nat), UplinkOpen s →
    (∀ (k : OperatorNo) (r : Option OperatorRecord),
      (∀ x, r = some x → 1 ≤ x.name.length ∧ x.name.length ≤ 12) →
      (∀ q : CounterPort, (s.port q).operator ≠ some k) →
      exec (.operatorWrite tag k.number r) s = .next (replied tag .ok .none
        { s with ret := { s.ret with operators := s.ret.operators.set k r } })) ∧
    (∀ (k : OperatorNo) (r : Option OperatorRecord) (q : CounterPort),
      (∀ x, r = some x → 1 ≤ x.name.length ∧ x.name.length ≤ 12) →
      (s.port q).operator = some k →
      exec (.operatorWrite tag k.number r) s = .next (replied tag .operatorBusy .none s)) ∧
    (∀ (k : OperatorNo) (x : OperatorRecord), x.name.length = 0 ∨ 12 < x.name.length →
      exec (.operatorWrite tag k.number (some x)) s = .next (replied tag .badRecord .none s)) ∧
    (∀ (n : Nat) (r : Option OperatorRecord), n = 0 ∨ 32 < n →
      exec (.operatorWrite tag n r) s = .next (replied tag .badRecord .none s))

/-- CAL_WRITE at an ONLINE scale with the switch ON and no sale stores the record, counts the audit,
restarts the weighing context, queues CAL_CHANGED and shows the station; with the switch OFF it is
CAL_LOCKED. -/
def Obligations.CalWriteStoresRecord : Prop :=
  ∀ (s : State) (tag : Nat) (p : CounterPort) (f : CalFields) (k : TrackingSetting), UplinkOpen s →
    (ScaleOnline s p → (s.port p).calSwitch = .on → (s.port p).sale ≠ .item →
      (s.port p).sale ≠ .printing → calValid f = true →
      let r : CalRecord := { toCalFields := f, tracking :=
        match k with | .on => true | .off => false | .default => s.ret.config.zeroTracking }
      let audit := min 65535 (s.ret.audit + 1)
      ∃ t, exec (.calWrite tag p.number f (some k)) s = .next t ∧
        OnlyPort (replied tag .ok .none (notify (.calChanged p audit)
          { s with ret := { s.ret with cal := s.ret.cal.set p (some r), audit := audit } })) t p ∧
        t.port p = { s.port p with
          weigh := WeighCtx.fresh (some r) true
          tx := (s.port p).tx ++ [.display (displayOf t p)] }) ∧
    ((s.port p).calSwitch = .off →
      exec (.calWrite tag p.number f (some k)) s = .next (replied tag .calLocked .none s))

/-- PLU_STAGE takes a valid block into an EDITING list with room, entry by entry, and answers the list's
length; STAGE_DISCARD empties it and answers what it held. Both are STAGE_FROZEN while a commit is in
flight. -/
def Obligations.StagingChangesPendingList : Prop :=
  ∀ (s : State) (tag : Nat) (block : List StageEntry), UplinkOpen s →
    (s.commit = .editing → s.dayState = .trading → 1 ≤ block.length → block.length ≤ 32 →
      (∀ e ∈ block, entryValid e = true) → (stageAll block s.staged).length ≤ 256 →
      exec (.pluStage tag block) s = .next (replied tag .ok
        (.count (stageAll block s.staged).length)
        { s with staged := stageAll block s.staged })) ∧
    (s.commit = .editing → exec (.stageDiscard tag) s =
      .next (replied tag .ok (.count s.staged.length) { s with staged := [] })) ∧
    (s.commit ≠ .editing → 1 ≤ block.length → block.length ≤ 32 →
      exec (.pluStage tag block) s = .next (replied tag .stageFrozen .none s) ∧
      exec (.stageDiscard tag) s = .next (replied tag .stageFrozen .none s))

/-- COMMIT: a list that fits is applied at once when no open snapshot is stale, waits with its drain when one
is, or is scheduled; an empty list and one past the table are refused. COMMIT_ABORT brings a commit in flight
back to EDITING with its list kept and answers its forced cancels and the list's length. -/
def Obligations.CommitIsTakenAndAborted : Prop :=
  (∀ (s : State) (tag : Nat), UplinkOpen s → s.commit = .editing → s.dayState = .trading →
    (s.staged = [] → exec (.commit tag none) s = .next (replied tag .nothingStaged .none s)) ∧
    (s.staged ≠ [] → capacityCount s.ret.items s.staged ≤ 2000 →
      (staleOpen s = 0 → ∃ t, exec (.commit tag none) s = .next t ∧
        EveryStationShown (replied tag .ok (.commit .editing ((s.ret.generation + 1) % 65536))
          (applied 0 s)) t) ∧
      (staleOpen s ≠ 0 → exec (.commit tag none) s = .next (replied tag .ok
        (.commit .waiting s.ret.generation)
        { s with commit := .waiting { timer := s.ret.config.commitDrain, expired := false,
                                      awaited := staleOpen s, forced := 0 } })) ∧
      (∀ (d : Date) (m : Nat), dateValid d = true → m ≤ 1439 → s.clock.valid = true →
        exec (.commit tag (some (d, m))) s = .next (replied tag .ok
          (.commit .scheduled s.ret.generation) { s with commit := .scheduled d m }))) ∧
    (s.staged ≠ [] → 2000 < capacityCount s.ret.items s.staged →
      exec (.commit tag none) s = .next (replied tag .tableFull .none s))) ∧
  (∀ (s : State) (tag : Nat), UplinkOpen s →
    (s.commit = .editing → exec (.commitAbort tag) s = .next (replied tag .noCommit .none s)) ∧
    (∀ (d : Date) (m : Nat), s.commit = .scheduled d m → exec (.commitAbort tag) s =
      .next (replied tag .ok (.aborted 0 s.staged.length) { s with commit := .editing })) ∧
    (∀ d : CommitDrain, s.commit = .waiting d → exec (.commitAbort tag) s =
      .next (replied tag .ok (.aborted d.forced s.staged.length) { s with commit := .editing })))

/-- TEMPLATE_WRITE stores a template whose descriptors all stand or makes a number absent, and names the first
descriptor that fails; TRANSLATE_WRITE replaces the named half of the named table, code by code. -/
def Obligations.LabelTablesAreWritten : Prop :=
  (∀ (s : State) (tag : Nat) (n : Fin 16), UplinkOpen s →
    (exec (.templateWrite tag (n.val + 1) none) s = .next (replied tag .ok .none
      { s with ret := { s.ret with templates := s.ret.templates.set n none } })) ∧
    (∀ (k : TemplateKind) (fields : List FieldRaw) (stored : List FieldDesc),
      1 ≤ fields.length → fields.length ≤ 20 → fields.map fieldOf = stored.map some →
      exec (.templateWrite tag (n.val + 1) (some { kind := some k, fields := fields })) s =
        .next (replied tag .ok .none { s with ret := { s.ret with
          templates := s.ret.templates.set n (some { kind := k, fields := stored }) } })) ∧
    (∀ (k : TemplateKind) (good : List FieldRaw) (bad : FieldRaw) (rest : List FieldRaw),
      good.length + 1 + rest.length ≤ 20 → (∀ f ∈ good, fieldOf f ≠ none) → fieldOf bad = none →
      exec (.templateWrite tag (n.val + 1)
          (some { kind := some k, fields := good ++ bad :: rest })) s =
        .next (replied tag .badRecord (.position (good.length + 1)) s))) ∧
  (∀ (s : State) (tag : Nat) (half : TableHalf) (codes : List Byte), UplinkOpen s →
    codes.length = 128 →
    let base : Fin 256 → Bool := fun i => match half with | .low => i.val < 128 | .high => 128 ≤ i.val
    (∃ v : Vector Byte 256, exec (.translateWrite tag 0 half codes) s =
        .next (replied tag .ok .none { s with ret := { s.ret with table0 := v } }) ∧
      ∀ i : Fin 256, (base i = true → codes[i.val % 128]? = some v[i]) ∧
        (base i = false → v[i] = s.ret.table0[i])) ∧
    (∃ v : Vector Byte 256, exec (.translateWrite tag 1 half codes) s =
        .next (replied tag .ok .none { s with ret := { s.ret with table1 := v } }) ∧
      ∀ i : Fin 256, (base i = true → codes[i.val % 128]? = some v[i]) ∧
        (base i = false → v[i] = s.ret.table1[i])) ∧
    (∀ n, 1 < n → exec (.translateWrite tag n half codes) s =
      .next (replied tag .badRecord .none s)))

/-- CONFIG_WRITE applies its entries together and answers which were clamped and the record: a number outside
its field's range goes to the nearest end, a mask loses stations 0 and 15 and holds a station named
twice once (the model's choice, log 43), the tracking default is ON or OFF.
An empty write changes nothing; an unknown identifier, another tracking value, and a repeated identifier are
refused by place, the last at the later of the two (the model's choice, log 26). So every step keeps the fields in
their ranges. -/
def Obligations.ConfigWriteClampsIntoRange : Prop :=
  (∀ s t : State, ConfigSound s.ret.config → step s = .next t → ConfigSound t.ret.config) ∧
  ∀ (s : State) (tag : Nat), UplinkOpen s →
    let config := s.ret.config
    let answered : List ConfigEntry → List ConfigField → ConfigRecord → Prop := fun entries clamped c =>
      exec (.configWrite tag entries) s = .next (replied tag .ok (.config clamped c)
        { s with ret := { s.ret with config := c } })
    let refused : List ConfigEntry → Nat → Prop := fun entries n =>
      exec (.configWrite tag entries) s = .next (replied tag .badRecord (.position n) s)
    let value : ConfigRecord → NumberField → Nat := fun c f =>
      match f with
      | .supervisionReload => c.supervisionReload
      | .commitDrain => c.commitDrain
      | .closeDrain => c.closeDrain
      | .callTimeout => c.callTimeout
      | .parkTimeout => c.parkTimeout
      | .serviceRatio => c.serviceRatio
    answered [] [] config ∧
    (∀ entries : List ConfigEntry, entries.length ≤ 11 → firstFailing 1 [] entries = none →
      answered entries (entries.filterMap clampedField) (entries.foldl applyEntry config)) ∧
    (∀ (f : NumberField) (lo hi v : Nat),
      (f, lo, hi) ∈ [(NumberField.supervisionReload, 2, 10), (.commitDrain, 5, 300),
        (.closeDrain, 5, 300), (.callTimeout, 30, 600), (.parkTimeout, 5, 120), (.serviceRatio, 1, 4)] →
      ∃ c, answered [.number f v] (if lo ≤ v ∧ v ≤ hi then [] else [.number f]) c ∧
        value c f = max lo (min hi v) ∧ (∀ g, g ≠ f → value c g = value config g) ∧
        c.masks = config.masks ∧ c.zeroTracking = config.zeroTracking) ∧
    (∀ (k : Fin 4) (stations : List (Fin 16)), ∃ m : StationMask,
      answered [.mask k stations] (if 0 ∈ stations ∨ 15 ∈ stations then [.mask k] else [])
        { config with masks := config.masks.set k m } ∧
      ∀ p : CounterPort, m[p] = true ↔ ∃ n ∈ stations, n.val = p.number) ∧
    (∀ b : Bool, answered [.zeroTracking (some b)] [] { config with zeroTracking := b }) ∧
    refused [.zeroTracking none] 1 ∧ (∀ n : Nat, refused [.unknown n] 1) ∧
    (∀ (f : NumberField) (v w : Nat), refused [.number f v, .number f w] 2)

/-- TIME_SET sets the clock valid and answers the clock before; a date or second out of range is refused;
where it brings a scheduled commit due, the commit goes to WAITING at once. -/
def Obligations.TimeSetSetsClock : Prop :=
  ∀ (s : State) (tag : Nat) (d : Date) (second : Nat), UplinkOpen s →
    let c : Clock := { date := d, second := second, valid := true }
    (dateValid d = true → second ≤ 86399 → (∀ d' m, s.commit ≠ .scheduled d' m) →
      exec (.timeSet tag d second) s =
        .next (replied tag .ok (.clock s.clock) { s with clock := c })) ∧
    (dateValid d = false ∨ 86399 < second →
      exec (.timeSet tag d second) s = .next (replied tag .outOfRange .none s)) ∧
    (∀ (d' : Date) (m : Nat), dateValid d = true → second ≤ 86399 → s.commit = .scheduled d' m →
      (dateBefore d' d = true ∨ d = d' ∧ m ≤ second / 60) →
      capacityCount s.ret.items s.staged ≤ 2000 → staleOpen s ≠ 0 →
      exec (.timeSet tag d second) s = .next (replied tag .ok (.clock s.clock)
        { s with
          clock := c
          commit := .waiting { timer := s.ret.config.commitDrain, expired := false,
                               awaited := staleOpen s, forced := 0 } }))

/-! ### Frames thrown away -/

/-- The receiver's checks in order: a bad stop bit, a Length below 6 or an early end is a framing error, a
frame behind one being taken an overrun, a wrong check a check error; the first that fails counts, on the uplink
as on a counter port. A good frame that the kind checks discard counts as a protocol error in every port state;
a malformed request is answered BAD_FRAME under its own tag and counts as one too, unless a warm reset is
pending; nothing on the uplink is counted then (the model's reading, log 27). On a port that is not UP the
switch and printer bytes of STATUS are judged whatever its device (the model's choice, log 41). A frame that spells
a request or a command is not malformed, and nothing changes (log 4). -/
def Obligations.DiscardedFramesAreCounted : Prop :=
  (∀ (s : State) (len : Byte) (rest : List Byte), UplinkOpen s →
    let frame := len :: rest
    (goodFrame frame = true → malformedRequest frame = true →
      exec (.malformedRequest len rest) s = .next (replied (frame.getD 3 0).toNat .badFrame .none
        { s with uplink := { s.uplink with errors := { s.uplink.errors with
            protocol := min 65535 (s.uplink.errors.protocol + 1) } } })) ∧
    (malformedRequest frame = false → exec (.malformedRequest len rest) s = .next s)) ∧
  (∀ (len port kind tag code count : Byte) (rest : List Byte),
    (port ≠ 0 ∨ kind ≠ 12 ∨ tag = 0 → malformedRequest (len :: port :: kind :: tag :: rest) = true) ∧
    (code = 0 ∨ 20 < code.toNat →
      malformedRequest (len :: port :: kind :: tag :: code :: rest) = true) ∧
    (code.toNat ∈ [1, 4, 10, 12, 17] → rest.length ≠ 2 →
      malformedRequest (len :: port :: kind :: tag :: code :: rest) = true) ∧
    (count = 0 ∨ 32 < count.toNat →
      malformedRequest (len :: port :: kind :: tag :: 9 :: count :: rest) = true) ∧
    (rest.length ≠ 132 → malformedRequest (len :: port :: kind :: tag :: 14 :: rest) = true)) ∧
  (∀ (tag a b : Nat) (d : Date), 1 ≤ tag → tag ≤ 255 → a < 16777216 → b < 16777216 →
    requestOfFrame (frameBytes 0 12 tag [1]) = some (.status tag) ∧
    requestOfFrame (frameBytes 0 12 tag (8 :: (beBytes 3 a ++ beBytes 3 b))) =
      some (.pluRead tag a b) ∧
    (d.year < 65536 → d.month < 256 → d.day < 256 →
      requestOfFrame (frameBytes 0 12 tag (20 :: (beDate d ++ beBytes 3 a))) =
        some (.timeSet tag d a))) ∧
  (∀ (s : State) (p : CounterPort) (frame : List Byte) (b : Byte), goodFrame frame = true →
    let counted := exec (.malformedFrame p frame) s = .next (s.setPort p { s.port p with errors :=
      { (s.port p).errors with protocol := min 65535 ((s.port p).errors.protocol + 1) } })
    (frame[1]? ≠ some (BitVec.ofNat 8 p.number) → counted) ∧
    (frame[2]? = some b →
      (b.toNat ∉ [1, 2, 3, 4, 5, 6] → counted) ∧
      (∀ x ∈ [(1, 9), (2, 8), (3, 18), (4, 10), (5, 8), (6, 6)],
        b.toNat = x.1 → frame.length ≠ x.2 → counted)) ∧
    (frame[2]? = some 4 → frame[4]? = some b → b = 0 ∨ 20 < b.toNat → counted) ∧
    (frame[2]? = some 5 → frame[5]? = some b → b = 0 ∨ 3 < b.toNat → counted) ∧
    ((s.port p).state ≠ .up ∨ (s.port p).kind = some .scale → frame[2]? = some 2 →
      (frame[4]? = some b ∧ (b = 0 ∨ 2 < b.toNat) ∨ frame[5]? = some b ∧ (b = 0 ∨ 3 < b.toNat)) →
      counted) ∧
    (frame[2]? = some 1 → frame[4]? = some 1 →
      (frame[5]? = some b ∧ (b = 0 ∨ 2 < b.toNat) ∨ frame[6]? = some b ∧ (b = 0 ∨ 3 < b.toNat)) →
      counted)) ∧
  (∀ (s : State) (p : CounterPort), exec (.hello p none .off .ready) s =
    .next (s.setPort p { s.port p with errors :=
      { (s.port p).errors with protocol := min 65535 ((s.port p).errors.protocol + 1) } })) ∧
  (∀ (s : State) (port : LinkPort) (c : RxChar) (rest : List RxChar) (taking : Bool),
    let chars := c :: rest
    let frame := (chars.take c.byte.toNat).map (·.byte)
    let adds : (ErrorCounts → ErrorCounts) → Prop := fun f =>
      (port.val = 0 → s.uplink.resetPending = false → exec (.frameDiscard port chars taking) s =
        .next { s with uplink := { s.uplink with errors := f s.uplink.errors } }) ∧
      (∀ p : CounterPort, port.val = p.number → exec (.frameDiscard port chars taking) s =
        .next (s.setPort p { s.port p with errors := f (s.port p).errors }))
    let full := if port.val = 0 then s.uplink.waiting.isSome else taking
    (port.val = 0 → s.uplink.resetPending = true →
      exec (.frameDiscard port chars taking) s = .next s) ∧
    (c.byte.toNat < 6 ∨ chars.length < c.byte.toNat ∨
        (∃ x ∈ chars.take c.byte.toNat, x.stopOk = false) →
      adds fun e => { e with framing := min 65535 (e.framing + 1) }) ∧
    (6 ≤ c.byte.toNat → c.byte.toNat ≤ chars.length →
      (∀ x ∈ chars.take c.byte.toNat, x.stopOk = true) →
      (full = true → adds fun e => { e with overrun := min 65535 (e.overrun + 1) }) ∧
      (full = false → frame.drop (frame.length - 2) ≠ crcBytes (frame.take (frame.length - 2)) →
        adds fun e => { e with check := min 65535 (e.check + 1) }) ∧
      (full = false → frame.drop (frame.length - 2) = crcBytes (frame.take (frame.length - 2)) →
        adds id)))

/-! ### The commit and its drain -/

/-- A scheduled commit that the clock has reached is activated at a minute boundary: applied, waiting, or
back in EDITING with a TABLE_FULL notice. Before its minute, or off the boundary, nothing changes. -/
def Obligations.CommitActivatesAtItsMinute : Prop :=
  ∀ (s : State) (d : Date) (m : Nat), Quiet s → s.commit = .scheduled d m →
    let reached := s.clock.valid = true ∧
      (dateBefore d s.clock.date = true ∨ s.clock.date = d ∧ m ≤ s.clock.second / 60)
    (s.clock.second % 60 = 0 → reached →
      (capacityCount s.ret.items s.staged ≤ 2000 → staleOpen s = 0 →
        ∃ t, exec .commitActivation s = .next t ∧ EveryStationShown (applied 0 s) t) ∧
      (capacityCount s.ret.items s.staged ≤ 2000 → staleOpen s ≠ 0 →
        exec .commitActivation s = .next
          { s with commit := .waiting { timer := s.ret.config.commitDrain, expired := false,
                                        awaited := staleOpen s, forced := 0 } }) ∧
      (2000 < capacityCount s.ret.items s.staged → exec .commitActivation s =
        .next (notify (.commitTableFull s.ret.generation) { s with commit := .editing }))) ∧
    (s.clock.second % 60 ≠ 0 ∨ ¬ reached → exec .commitActivation s = .next s)

/-- A WAITING commit that awaits no snapshot completes with its forced-cancel count; one that awaits some, or
a commit in another state, is left alone. The close of the last awaited snapshot by CANCEL completes it. -/
def Obligations.DrainedCommitCompletes : Prop :=
  (∀ s : State, Quiet s →
    (∀ d : CommitDrain, s.commit = .waiting d → d.awaited = 0 →
      ∃ t, exec .commitCompletion s = .next t ∧ EveryStationShown (applied d.forced s) t) ∧
    (∀ d : CommitDrain, s.commit = .waiting d → d.awaited ≠ 0 →
      exec .commitCompletion s = .next s) ∧
    ((∀ d, s.commit ≠ .waiting d) → exec .commitCompletion s = .next s)) ∧
  (∀ (s : State) (p : CounterPort) (sn : Snapshot) (d : CommitDrain), ItemReady s p sn →
    (s.port p).calSwitch = .off → s.dayState = .trading → s.commit = .waiting d → d.awaited = 1 →
    sn.generation = (s.ret.generation + 65535) % 65536 →
    ∃ t, exec (.cancel p) s = .next t ∧
      let c : Port := { closedPort s.ret.cal[p] (s.port p) with
        supervision := s.ret.config.supervisionReload, sale := .idle, held := none }
      EveryStationShown (applied d.forced (s.setPort p c)) t)

/-- The commit drain's expiry cancels every G - 1 snapshot in ITEM, counts each at its station, in the grand
group and in the commit record, and reaches no other station; while it awaits others the commit goes on WAITING
with its mark set, and with the last one closed it completes. -/
def Obligations.CommitDrainExpiryCancelsStaleItems : Prop :=
  ∀ (s : State) (d : CommitDrain), Quiet s → s.commit = .waiting d → d.expired = false →
    d.timer ≤ 1 →
    let stale : CounterPort → Prop := fun p => (s.port p).sale = .item ∧
      ∃ sn, (s.port p).snapshot = some sn ∧ sn.generation = (s.ret.generation + 65535) % 65536
    let n := ((List.finRange 14).filter fun p : CounterPort => decide ((s.port p).sale = .item) &&
      (s.port p).snapshot.any fun sn => sn.generation == (s.ret.generation + 65535) % 65536).length
    (∃ t, exec .commitDrainExpiry s = .next t ∧
      (∀ p : CounterPort,
        (stale p → (t.port p).snapshot = none ∧ (t.port p).held = some .priceChanged ∧
          (t.port p).sale = (if (s.port p).calSwitch = .on then .calibrating else .idle) ∧
          t.ret.totals.stations[p] = s.ret.totals.stations[p].move true { forcedCancels := 1 }) ∧
        (¬ stale p → { t.port p with tx := [] } = { s.port p with tx := [] } ∧
          t.ret.totals.stations[p] = s.ret.totals.stations[p])) ∧
      t.ret.totals.grand =
        (List.range n).foldl (fun g _ => g.move true { forcedCancels := 1 }) s.ret.totals.grand ∧
      (n < d.awaited → t.commit = .waiting { timer := 0, expired := true, awaited := d.awaited - n
                                             forced := d.forced + n } ∧
        t.ret.generation = s.ret.generation ∧ t.staged = s.staged) ∧
      (n = d.awaited → t.commit = .editing ∧ t.staged = [] ∧
        t.ret.generation = (s.ret.generation + 1) % 65536)) ∧
    ((∀ p, ¬ stale p) → d.awaited ≠ 0 → exec .commitDrainExpiry s =
      .next { s with commit := .waiting { d with timer := 0, expired := true } }) ∧
    ((∀ p, ¬ stale p) → d.awaited = 0 → ∃ t, exec .commitDrainExpiry s = .next t ∧
      EveryStationShown (applied d.forced s) t)

/-- A DELETE entry removes a record with a zero totals part that no open snapshot names and otherwise leaves
it RETIRED; a PUT entry gives its number a LIVE record with the entry's fields, a new one with zero totals or
over the old one with its totals kept. Every other record stays. -/
def Obligations.AppliedEntriesFollowTheirKind : Prop :=
  (∀ (openPlu : List Nat) (n : Nat) (items : List ItemRecord),
    (items.map (·.item.plu)).Pairwise (· < ·) →
    (itemOf items n = none → applyEntries openPlu [.delete n] items = (items, [.noRecord])) ∧
    (∀ r, itemOf items n = some r →
      let zero := r.totals.items = 0 ∧ r.totals.weight = 0 ∧ r.totals.count = 0 ∧
        r.totals.value = 0 ∧ r.totals.markdown = 0
      (zero ∧ n ∉ openPlu → applyEntries openPlu [.delete n] items =
        (items.filter (fun x => x.item.plu ≠ n), [.removed])) ∧
      (¬ (zero ∧ n ∉ openPlu) →
        applyEntries openPlu [.delete n] items =
          (items.map (fun x => if x.item.plu = n then { x with status := .retired } else x),
           [.retired]))) ∧
    (∀ m x, x ∈ items → x.item.plu = m → m ≠ n →
      x ∈ (applyEntries openPlu [.delete n] items).1)) ∧
  (∀ (openPlu : List Nat) (f : ItemFields) (m : Option Markdown) (items : List ItemRecord),
    (items.map (·.item.plu)).Pairwise (· < ·) →
    let r := applyEntries openPlu [.put f m] items
    (itemOf items f.plu = none →
      itemOf r.1 f.plu = some { item := f, markdown := m, status := .live, totals := {} } ∧
        r.2 = [.added] ∧ r.1.length = items.length + 1) ∧
    (∀ old, itemOf items f.plu = some old →
      itemOf r.1 f.plu = some { item := f, markdown := m, status := .live, totals := old.totals } ∧
        r.2 = [.replaced] ∧ r.1.length = items.length) ∧
    (∀ n, n ≠ f.plu → itemOf r.1 n = itemOf items n) ∧
    (r.1.map (·.item.plu)).Pairwise (· < ·))

/-! ### The service line and the day -/

/-- Tickets, lists, orders and service states go on agreeing at every step, so that a summary in composition
always finds its order; and every order's total stays the sum of its unvoided finals, within 24 lines and
9,999,999 cents. -/
def Obligations.StepKeepsServiceLine : Prop :=
  (∀ s t : State, ComposerSound s ∧ ServiceSound s → step s = .next t → ServiceSound t) ∧
  (∀ s t : State, ComposerSound s ∧ ServiceSound s ∧ OrdersSound s → step s = .next t → OrdersSound t) ∧
  (∀ s : State, ServiceSound s → exec .compositionComplete s ≠ .fault .lostOrder)

/-- DAY_CLOSE while a snapshot is open or the composer works: the day is CLOSING with its drain loaded, every
station is shown and the reply carries the CLOSING state; on a quiet counter it completes at once. A second is
BUSY; behind a commit in flight it is COMMIT_PENDING. -/
def Obligations.DayCloseBeginsOrCompletes : Prop :=
  (∀ (s : State) (tag : Nat), UplinkOpen s →
    (s.commit = .editing → s.dayState = .trading →
      ((∃ p : CounterPort, (s.port p).snapshot ≠ none) ∨ s.composer.queue ≠ [] ∨
        s.composer.current ≠ none) →
      ∃ t, exec (.dayClose tag) s = .next t ∧
        EveryStationShown (replied tag .ok
          (.day (.closing s.ret.config.closeDrain false) s.ret.day.number)
          { s with dayState := .closing s.ret.config.closeDrain false }) t) ∧
    (s.commit ≠ .editing →
      exec (.dayClose tag) s = .next (replied tag .commitPending .none s)) ∧
    (∀ n b, s.commit = .editing → s.dayState = .closing n b →
      exec (.dayClose tag) s = .next (replied tag .busy .none s))) ∧
  (∀ (s : State) (tag : Nat), UplinkOpen s → ServiceSound s → s.commit = .editing →
    s.dayState = .trading → (∀ p : CounterPort, (s.port p).snapshot = none) →
    s.composer.queue = [] → s.composer.current = none → s.orders = [] →
    let u := dayClosedState s
    ∃ t r, exec (.dayClose tag) s = .next t ∧ u.ret.day.record = some r ∧
      EveryStationShown (replied tag .ok (.day .trading u.ret.day.number)
        (notify (.dayClosed s.ret.day.number u.ret.day.number s.clock.stamp r.items.length r.anyMark)
          u)) t)

/-- A CLOSING day with no open snapshot and an idle composer completes: the record built with the ended
orders and discarded tickets counted, RETIRED items gone, totals and log empty, serial and order number 1,
the day number raised; ORDER_CLOSED is queued for each live order, in an order no rule fixes (log 6), then
DAY_CLOSED. With a snapshot open or the composer busy nothing changes. -/
def Obligations.DayCloseCompletes : Prop :=
  ∀ (s : State) (n : Nat) (b : Bool), Quiet s → s.dayState = .closing n b →
    (ServiceSound s → (∀ p : CounterPort, (s.port p).snapshot = none) → s.composer.queue = [] →
      s.composer.current = none → s.notices.enables.master = false →
      ∃ t, exec .dayCloseCompletion s = .next t ∧ EveryStationShown (dayClosedState s) t) ∧
    (ServiceSound s → (∀ p : CounterPort, (s.port p).snapshot = none) → s.composer.queue = [] →
      s.composer.current = none → ∃ (ended : List Order) (t : State), ended.Perm s.orders ∧
        exec .dayCloseCompletion s = .next t ∧ EveryStationShown (dayClosedWith ended s) t) ∧
    ((∃ p : CounterPort, (s.port p).snapshot ≠ none) ∨ s.composer.queue ≠ [] ∨
        s.composer.current ≠ none → exec .dayCloseCompletion s = .next s)

/-- The close drain's expiry cancels every snapshot in ITEM with DAY_CLOSING, counts each at its station and in
the grand group, and reaches no snapshot in PRINTING; behind a job, a composition or a snapshot in PRINTING the
close goes on waiting, and with every snapshot closed and the composer idle it completes. -/
def Obligations.CloseDrainExpiryCancelsItems : Prop :=
  ∀ (s : State) (n : Nat), Quiet s → s.commit = .editing → s.dayState = .closing n false → n ≤ 1 →
    let open_ : CounterPort → Prop := fun p =>
      (s.port p).sale = .item ∧ (s.port p).snapshot ≠ none
    let cancelled := (List.finRange 14).filter fun p : CounterPort =>
      decide ((s.port p).sale = .item) && (s.port p).snapshot.isSome
    (s.composer.queue ≠ [] ∨ s.composer.current ≠ none ∨
        (∃ p : CounterPort, (s.port p).sale ≠ .item ∧ (s.port p).snapshot ≠ none) →
      ∃ t, exec .closeDrainExpiry s = .next t ∧ t.dayState = .closing 0 true ∧
        t = { s with
          ret := { s.ret with totals := t.ret.totals }
          ports := t.ports, dayState := t.dayState, tickets := t.tickets } ∧
        t.ret.totals.grand =
          cancelled.foldl (fun g _ => g.move true { forcedCancels := 1 }) s.ret.totals.grand ∧
        ∀ p : CounterPort,
          (open_ p → (t.port p).snapshot = none ∧ (t.port p).held = some .dayClosing ∧
            (t.port p).sale = (if (s.port p).calSwitch = .on then .calibrating else .idle) ∧
            t.ret.totals.stations[p] = s.ret.totals.stations[p].move true { forcedCancels := 1 }) ∧
          (¬ open_ p → t.port p = s.port p ∧
            t.ret.totals.stations[p] = s.ret.totals.stations[p])) ∧
    (s.composer.queue = [] → s.composer.current = none → ServiceSound s →
      (∀ p : CounterPort, (s.port p).snapshot ≠ none → (s.port p).sale = .item) →
      let ret := cancelled.foldl (fun r p =>
        countGrand { forcedCancels := 1 } (countStation p { forcedCancels := 1 } r)) s.ret
      let ports : Vector Port 14 := Vector.ofFn fun p =>
        if (s.port p).snapshot = none then s.port p
        else { closedPort s.ret.cal[p] (s.port p) with
          held := some .dayClosing
          sale := if (s.port p).calSwitch = .on then .calibrating else .idle }
      ∃ (ended : List Order) (t : State), ended.Perm s.orders ∧ exec .closeDrainExpiry s = .next t ∧
        EveryStationShown (dayClosedWith ended { s with ret := ret, ports := ports }) t)

/-! ### The second -/

/-- A tick moves the clock and takes one step of every count; the events that have then fallen due run one after
another, each as the command of its row does, in an order no rule fixes (logs 3, 5, 29). At a tick at which nothing
falls due nothing else changes but the model's counter. -/
def Obligations.TickTakesOneStepOfEveryCount : Prop :=
  (∀ s : State, Quiet s → ConfigSound s.ret.config → (s.orders.map (·.number)).Nodup →
    ∃ events : List Instr, events.Perm (dueCommands (ticked s)) ∧
      exec .clockTick s = .next (events.foldl ran (ticked s))) ∧
  ∀ s : State, Quiet s → s.clock.second < 86399 →
    (∀ p : CounterPort, (s.port p).online = true → 2 ≤ (s.port p).supervision) →
    (∀ (k : TicketNo) (p : CounterPort) (n : Nat), (s.ticket k).state = .called p n → 2 ≤ n) →
    (∀ o ∈ s.orders, o.state = .parked → o.idle + 1 < s.ret.config.parkTimeout * 60) →
    (∀ d m, s.commit ≠ .scheduled d m) →
    (∀ d : CommitDrain, s.commit = .waiting d → d.expired = false → 2 ≤ d.timer) →
    (∀ n, s.dayState = .closing n false → 2 ≤ n) →
    exec .clockTick s = .next { s with
      clock := { s.clock with second := s.clock.second + 1 }
      ports := s.ports.map fun c =>
        if c.online then { c with supervision := c.supervision - 1 } else c
      tickets := { s.tickets with recs := s.tickets.recs.map fun r =>
        match r.state with
        | .waiting => { r with age := min 999999 (r.age + 1) }
        | .skipped => { r with age := min 999999 (r.age + 1) }
        | .called p n => { r with age := min 999999 (r.age + 1), state := .called p (n - 1) }
        | .free => r
        | .inService => r }
      orders := s.orders.map fun o => { o with idle := min 999999 (o.idle + 1) }
      commit := match s.commit with
        | .waiting d => .waiting (if d.expired then d else { d with timer := d.timer - 1 })
        | .editing => .editing
        | .scheduled d m => .scheduled d m
      dayState := match s.dayState with
        | .closing n false => .closing (n - 1) false
        | .closing n true => .closing n true
        | .trading => .trading
      free := s.free + 1 }

/-- The clock at a tick: the second counts and wraps, the date follows a valid clock alone, and after the
last second of 31 December 2099 the clock is not valid and keeps its date, and CLOCK_LOST with that date is the
tick's first notice. That it stands ahead of the notices of every expiry of that tick, the clock moving before the
counts, is the model's reading (log 29). -/
def Obligations.TickMovesClock : Prop :=
  ∀ s : State, ∃ t, exec .clockTick s = .next t ∧
    (s.clock.second < 86399 → t.clock = { s.clock with second := s.clock.second + 1 }) ∧
    (86399 ≤ s.clock.second → s.clock.valid = false → t.clock = { s.clock with second := 0 }) ∧
    (86399 ≤ s.clock.second → s.clock.valid = true →
      (dateBefore s.clock.date ⟨2099, 12, 31⟩ = true →
        t.clock = { s.clock with date := nextDate s.clock.date, second := 0 }) ∧
      (dateBefore s.clock.date ⟨2099, 12, 31⟩ = false →
        t.clock = { s.clock with second := 0, valid := false } ∧
        (s.notices.enables.master = true → s.notices.enables.clock = true →
          s.notices.queue.length < 64 →
          s.notices.queue ++ [{ stamp := { date := none, second := 0 }
                                body := .clockLost s.clock.date }] <+: t.notices.queue))) ∧
    (dateValid s.clock.date = true → dateValid t.clock.date = true)

/-! ### Resets -/

/-- WARM_RESET keeps the retained store and the clock; POWER_UP checks each area's contents against the check
value found for it, empties those that fail, sets the totals-lost mark for the three that lose it, queues
RETAINED_LOST for each in table order and stops the clock's validity. Both leave all else as after reset, and an
area that passed, or whose check value was not disturbed, keeps its contents. -/
def Obligations.ResetsKeepTheRetainedStore : Prop :=
  ∀ s : State,
    (exec .warmReset s =
      .next (State.afterReset s.pending s.ret s.clock NoticeQueue.fresh s.free)) ∧
    (∀ found : List (Area × Nat),
      let fails : Area → Bool := fun a => match found.lookup a with
        | none => false
        | some v => v != areaCheck s.ret a
      let failed := [Area.items, .templates, .translation, .operators, .calibration, .config, .totals,
        .day, .generation, .audit].filter fails
      ∃ ret, exec (.powerUp found) s =
        .next (State.afterReset s.pending ret { date := ⟨2000, 1, 1⟩, second := 0, valid := false }
          { NoticeQueue.fresh with queue := failed.map fun a =>
              { stamp := { date := none, second := 0 }, body := .retainedLost a } } s.free) ∧
      ret.items = (if Area.items ∈ failed then [] else s.ret.items) ∧
      ret.templates = (if Area.templates ∈ failed then Vector.replicate 16 none
        else s.ret.templates) ∧
      ret.table0 = (if Area.translation ∈ failed then identityTable else s.ret.table0) ∧
      ret.table1 = (if Area.translation ∈ failed then identityTable else s.ret.table1) ∧
      ret.operators = (if Area.operators ∈ failed then Vector.replicate 32 none
        else s.ret.operators) ∧
      ret.cal = (if Area.calibration ∈ failed then Vector.replicate 14 none else s.ret.cal) ∧
      ret.config = (if Area.config ∈ failed then ConfigRecord.default else s.ret.config) ∧
      ret.totals = (if Area.totals ∈ failed then Totals.empty else s.ret.totals) ∧
      { ret.day with totalsLost := false } =
        { (if Area.day ∈ failed then DayArea.empty else s.ret.day) with totalsLost := false } ∧
      ret.day.totalsLost = (s.ret.day.totalsLost ||
        decide (Area.totals ∈ failed ∨ Area.items ∈ failed ∨ Area.day ∈ failed)) ∧
      ret.generation = (if Area.generation ∈ failed then 0 else s.ret.generation) ∧
      ret.audit = (if Area.audit ∈ failed then 0 else s.ret.audit))

/-! ### Lines and frames -/

/-- UPLINK_TRANSMIT: the next frame of the oldest reply, and after its last frame the reply leaves; with no
reply the oldest notice; on a DOWN uplink nothing. One request waits while the reply queue is full, a further
one is an overrun, and the one that waits is taken in the place that a reply leaves. -/
def Obligations.UplinkSendsRepliesBeforeNotices : Prop :=
  (∀ s : State,
    (s.uplink.up = false → exec .uplinkTransmit s = .next s) ∧
    (∀ (r : Reply) (rest : List Reply), s.uplink.up = true → s.uplink.replies = r :: rest →
      let k := s.uplink.sentParts
      (k + 1 < (replyParts r).length → exec .uplinkTransmit s = .next
        { s with uplink := { s.uplink with
            sentParts := k + 1, lastSent := some (replyFrameAt r k) } }) ∧
      ((replyParts r).length ≤ k + 1 → s.uplink.resetPending = false → s.uplink.waiting = none →
        exec .uplinkTransmit s = .next { s with uplink := { s.uplink with
            replies := rest, sentParts := 0, lastSent := some (replyFrameAt r k) } }) ∧
      (∀ (tag : Nat) (e : Enables), (replyParts r).length ≤ k + 1 → Quiet s →
        s.uplink.resetPending = false → rest.length < 4 →
        s.uplink.waiting = some (.noticeEnable tag e) →
        exec .uplinkTransmit s = .next { s with
          notices := { s.notices with enables := e }
          uplink := { s.uplink with
            replies := rest ++ [{ tag := tag, result := .ok, data := .enables s.notices.enables }]
            sentParts := 0, waiting := none, lastSent := some (replyFrameAt r k) } })) ∧
    (∀ (n : Notice) (rest : List Notice), s.uplink.up = true → s.uplink.replies = [] →
      s.notices.queue = n :: rest → exec .uplinkTransmit s = .next { s with
        uplink := { s.uplink with lastSent := some (noticeFrame n) }
        notices := { s.notices with queue := rest } }) ∧
    (s.uplink.up = true → s.uplink.replies = [] → s.notices.queue = [] →
      exec .uplinkTransmit s = .next s)) ∧
  (∀ (s : State) (tag : Nat), s.uplink.resetPending = false → 4 ≤ s.uplink.replies.length →
    (s.uplink.waiting = none → exec (.stageDiscard tag) s = .next
      { s with uplink := { s.uplink with waiting := some (.stageDiscard tag) } }) ∧
    (s.uplink.waiting ≠ none → exec (.stageDiscard tag) s = .next
      { s with uplink := { s.uplink with errors := { s.uplink.errors with
          overrun := min 65535 (s.uplink.errors.overrun + 1) } } }))

/-- A drop of the uplink gives up its replies and the request that waits and keeps the notices, but for the
notice whose frame it cuts, which is lost uncounted; whether it cuts one, where one may be under way, is a free
value (log 9). A pending warm reset comes with it. A counter port that is DOWN, REFUSED, or UP with its station
OFFLINE goes DOWN with its context as it was and no frame to send; that a REFUSED port's unsent frames go with the
drop is the model's choice (log 40). A line that returns changes nothing by itself (log 8). -/
def Obligations.LineDropsWithoutOfflineEvent : Prop :=
  (∀ s : State,
    let down : Uplink :=
      { s.uplink with up := false, replies := [], sentParts := 0, waiting := none }
    (s.uplink.resetPending = false →
      (∀ n rest, s.uplink.up = true → s.uplink.sentParts = 0 → s.notices.queue = n :: rest →
        exec .uplinkLineDrop s = .next { s with
          uplink := down
          notices := { s.notices with queue := if Config.freeBit s.free then rest else n :: rest }
          free := s.free + 1 }) ∧
      (s.uplink.up = false ∨ s.uplink.sentParts ≠ 0 ∨ s.notices.queue = [] →
        exec .uplinkLineDrop s = .next { s with uplink := down })) ∧
    (s.uplink.resetPending = true → ∃ free, exec .uplinkLineDrop s =
      .next (State.afterReset s.pending s.ret s.clock NoticeQueue.fresh free)) ∧
    (∀ port : LinkPort, exec (.lineReturn port) s = .next s)) ∧
  (∀ (s : State) (p : CounterPort),
    ((s.port p).state = .down → exec (.lineDrop p) s = .next s) ∧
    ((s.port p).state = .refused ∨ (s.port p).state = .up ∧ (s.port p).online = false →
      exec (.lineDrop p) s = .next
        (s.setPort p { s.port p with state := .down, mask := none, tx := [] })))

/-- HELLO: a device with a place free attaches, its context started afresh and a SCALE shown; one past its
kind's limit is REFUSED, its context kept (the kept kind is the model's choice, log 36). Each queues its
STATION_STATE notice. An UP port gives up its old place first, and an ONLINE station goes through its offline
event with cause RESTART; a REFUSED port answers REFUSED. -/
def Obligations.HelloAttachesOrIsRefused : Prop :=
  ∀ (s : State) (p : CounterPort) (k : DeviceKind) (sw : Switch) (pr : PrinterCondition), Quiet s →
    let held := ((List.finRange 14).filter fun q : CounterPort =>
      decide (q ≠ p ∧ (s.port q).state = .up ∧ (s.port q).kind = some k)).length
    let limit := match k with | .scale => 12 | .dispenser => 2 | .callDisplay => 4
    let taken : Fin 4 → Prop := fun m => ∃ q : CounterPort, q ≠ p ∧ (s.port q).state = .up ∧
      (s.port q).kind = some .callDisplay ∧ (s.port q).mask = some m
    let attached : Port := { Port.fresh s.ret.cal[p] with
      state := .up, kind := some k, online := true
      supervision := s.ret.config.supervisionReload
      errors := (s.port p).errors, lastSent := (s.port p).lastSent }
    let counted : State → State → Prop := fun base t =>
      (held < limit →
        OnlyPort (notify (.stationState p (some k) .online .attach) base) t p ∧
        (k = .dispenser → t.port p = attached) ∧
        (k = .callDisplay → t.port p = { attached with mask := (t.port p).mask } ∧
          (∀ m, (s.port p).mask = some m → (t.port p).mask = some m) ∧
          ((s.port p).mask = none →
            ∀ m, (t.port p).mask = some m ↔ ¬ taken m ∧ ∀ j, j < m → taken j)) ∧
        (k = .scale → t.port p = { attached with
          calSwitch := sw
          printer := match pr with | .ready => .ready | .paperOut => .fault | .jam => .fault
          sale := match sw with | .on => .calibrating | .off => .noOperator
          weigh := WeighCtx.fresh s.ret.cal[p] true
          tx := [.display (displayOf t p)] })) ∧
      (limit ≤ held → t = notify (.stationState p (some k) .refused .kindLimit) (base.setPort p
        { base.port p with state := .refused, mask := none, tx := [.refused] }))
    ((s.port p).state = .down ∨ (s.port p).state = .up ∧ (s.port p).online = false →
      ∃ t, exec (.hello p (some k) sw pr) s = .next t ∧ counted s t) ∧
    ((s.port p).state = .refused → exec (.hello p (some k) sw pr) s =
      .next (s.setPort p { s.port p with tx := (s.port p).tx ++ [.refused] })) ∧
    (s.dayState = .trading → (s.port p).state = .up → (s.port p).online = true →
      ((s.port p).kind ≠ some .scale → ∃ t, exec (.hello p (some k) sw pr) s = .next t ∧
        counted (notify (.stationState p (s.port p).kind .offline .restart)
          (s.setPort p { s.port p with online := false, tx := [] })) t) ∧
      ((s.port p).kind = some .scale → (s.orders.map (·.number)).Nodup →
        (∀ d, s.commit = .waiting d → 2 ≤ d.awaited) →
        ∃ u t, exec (.hello p (some k) sw pr) s = .next t ∧ u.port p = offlinePort s p ∧
          OfflineEffects s u p (notify (.stationState p (some .scale) .offline .restart)) ∧
          counted u t))

/-- A frame on a REFUSED port is answered REFUSED; one on a DOWN port, or of a kind its device may not send,
is a protocol error; one at an OFFLINE station is lost. Nothing else changes. -/
def Obligations.FramesFollowPortState : Prop :=
  ∀ (s : State) (p : CounterPort) (i : Instr), Quiet s → DeviceFrame p i →
    ((s.port p).state = .refused → exec i s =
      .next (s.setPort p { s.port p with tx := (s.port p).tx ++ [.refused] })) ∧
    ((s.port p).state = .down ∨ (s.port p).state = .up ∧ (s.port p).online = true ∧
        (ScaleFrame p i ∧ (s.port p).kind ≠ some .scale ∨
          i = .takeRequest p ∧ (s.port p).kind ≠ some .dispenser) →
      exec i s = .next (s.setPort p { s.port p with errors := { (s.port p).errors with
        protocol := min 65535 ((s.port p).errors.protocol + 1) } })) ∧
    ((s.port p).state = .up → (s.port p).online = false → exec i s = .next s)

/-- STATUS of an ONLINE station reloads supervision; a scale's switch turned ON in IDLE makes it
CALIBRATING, turned OFF there IDLE or NO_OPERATOR, each with a DISPLAY; a printer fault sets FAULT, and
READY after it sends the label at the head again. -/
def Obligations.StatusFrameReportsSwitchAndPrinter : Prop :=
  ∀ (s : State) (p : CounterPort) (sw : Switch) (pr : PrinterCondition), Quiet s →
    (s.port p).state = .up → (s.port p).online = true →
    let reload := s.ret.config.supervisionReload
    ((s.port p).kind ≠ some .scale →
      exec (.statusFrame p sw pr) s = .next (s.setPort p { s.port p with supervision := reload })) ∧
    ((s.port p).kind = some .scale →
      ((s.port p).calSwitch = sw → (s.port p).printer = .ready → pr = .ready →
        exec (.statusFrame p sw pr) s =
          .next (s.setPort p { s.port p with supervision := reload })) ∧
      ((s.port p).calSwitch = sw → pr ≠ .ready →
        exec (.statusFrame p sw pr) s =
          .next (s.setPort p { s.port p with supervision := reload, printer := .fault })) ∧
      (∀ k l rest, (s.port p).calSwitch = sw → pr = .ready → (s.port p).printer = .fault →
        (s.port p).slots.post = k :: rest → (s.port p).slots.labels[k] = some l →
        (s.port p).slots.outstanding = none →
        exec (.statusFrame p sw pr) s = .next (s.setPort p { s.port p with
          supervision := reload, printer := .ready
          tx := (s.port p).tx ++ labelFrames k l
          slots := { (s.port p).slots with outstanding := some k } })) ∧
      ((s.port p).calSwitch = .off → sw = .on → (s.port p).printer = .ready → pr = .ready →
        (s.port p).sale = .idle ∨ (s.port p).sale = .noOperator →
        (s.port p).service ≠ .asking →
        ∃ t, exec (.statusFrame p sw pr) s = .next t ∧ KeyAnswered s t p
          { s.port p with calSwitch := .on, sale := .calibrating, held := none }) ∧
      ((s.port p).calSwitch = .on → sw = .off → (s.port p).printer = .ready → pr = .ready →
        (s.port p).sale = .calibrating →
        ∃ t, exec (.statusFrame p sw pr) s = .next t ∧ KeyAnswered s t p
          { s.port p with calSwitch := .off, held := none
                          sale := if (s.port p).operator = none then .noOperator else .idle }))

/-- The offline event of a scale station, by a line drop or by its supervision: the context is emptied and the
slots freed, its order PARKED with its lines kept, its jobs given up, its posted labels reversed and marked
UNPRINTED, its called ticket called elsewhere or returned to the head of the queue, its close counted by a
WAITING commit, and STATION_STATE queued; the supervision expiry leaves the port UP. Another device only goes
OFFLINE. With more than its last second left, supervision does not expire. -/
def Obligations.OfflineEventEmptiesScale : Prop :=
  (∀ (s : State) (p : CounterPort), Quiet s → s.dayState = .trading →
    (s.orders.map (·.number)).Nodup → ScaleOnline s p →
    (∃ t, exec (.lineDrop p) s = .next t ∧
      t.port p = { offlinePort s p with state := .down, mask := none } ∧
      OfflineEffects s t p (notify (.stationState p (some .scale) .offline .lineDrop))) ∧
    ((s.port p).supervision ≤ 1 → ∃ t, exec (.supervisionExpiry p) s = .next t ∧
      t.port p = { offlinePort s p with supervision := 0 } ∧
      OfflineEffects s t p (notify (.stationState p (some .scale) .offline .supervision)))) ∧
  (∀ (s : State) (p : CounterPort), Quiet s → s.dayState = .trading → (s.port p).state = .up →
    (s.port p).online = true → (s.port p).kind ≠ some .scale →
    exec (.lineDrop p) s = .next (notify (.stationState p (s.port p).kind .offline .lineDrop)
      (s.setPort p { s.port p with state := .down, online := false, mask := none, tx := [] })) ∧
    ((s.port p).supervision ≤ 1 → exec (.supervisionExpiry p) s =
      .next (notify (.stationState p (s.port p).kind .offline .supervision)
        (s.setPort p { s.port p with online := false, supervision := 0, tx := [] })))) ∧
  (∀ (s : State) (p : CounterPort), 2 ≤ (s.port p).supervision ∨ (s.port p).online = false →
    exec (.supervisionExpiry p) s = .next s)

/-! ### Weighing -/

/-- A sample frame pushes its four samples, starts the gap timer and hands the station the result of the
window as it then stands; the gap's expiry empties window and band, keeps zero and tare, and hands on a result
with no weights. In ITEM the live price follows both. -/
def Obligations.SamplesMakeWeightResults : Prop :=
  (∀ (s : State) (p : CounterPort) (a b c d : Int), Quiet s → ScaleOnline s p →
    let w := takeSamples s.ret.cal[p] [a, b, c, d] (s.port p).weigh
    let none_ : WeightResult :=
      { state := w.state, weights := none, message := some ((stateMessage w.state).getD .noData) }
    let r := w.latest.getD none_
    w.gapRunning = true ∧
    w.window = ((s.port p).weigh.window ++ [a, b, c, d]).drop
      ((s.port p).weigh.window.length + 4 -
        (match s.ret.cal[p] with | none => 16 | some k => k.window)) ∧
    ∃ t, exec (.sample p a b c d) s = .next t ∧
      KeyAnswered s t p { s.port p with weigh := w, snapshot := repriced (s.port p) r }) ∧
  (∀ (s : State) (p : CounterPort), Quiet s →
    let st : WeighState := if s.ret.cal[p] = none then .noCal
      else if (s.port p).weigh.pendingZero then .initialZero else .noData
    let r : WeightResult := { state := st, weights := none, message := stateMessage st }
    (ScaleOnline s p → (s.port p).weigh.gapRunning = true →
      ∃ t, exec (.sampleGapExpiry p) s = .next t ∧ OnlyPort s t p ∧
        t.port p = { s.port p with
          weigh := { (s.port p).weigh with
            window := [], band := [], gapRunning := false, state := st, latest := some r }
          snapshot := repriced (s.port p) r
          tx := (s.port p).tx ++ [.display (displayOf t p)] }) ∧
    ((s.port p).weigh.gapRunning = false → exec (.sampleGapExpiry p) s = .next s))

/-- A clipped sample makes the result OVERLOAD, or UNDERLOAD, and computes no gross. A full window with no clip:
OVERLOAD and UNDERLOAD beyond the limits, else the band takes the gross, the
state is STABLE exactly when a full band lies within five e1, and the result carries gross and net. A priceable
result is STABLE, at most Max, and shows a multiple of its range's division of at least twenty e1. A pending
initial zero is taken from a stable result within a tenth of Max and weighs the window once more; any other leaves
it pending with NO_ZERO. Zero tracking moves Zo, within the zero limit, on a stable untared result near zero. -/
def Obligations.WeighingStagesMakeLegalWeights : Prop :=
  (∀ (cal : CalRecord) (w : WeighCtx), w.window.length = cal.window → 0 < cal.stability →
    Config.clipHigh ∉ w.window → Config.clipLow ∉ w.window → w.pendingZero = false →
    let g := roundHalfAway ((w.window.sum - cal.window * (cal.zero + w.zo)) * cal.mult)
      (cal.window * 65536)
    let eTop : Nat := if 0 < cal.max1 then cal.e2 else cal.e1
    let band := (w.band ++ [g]).drop (w.band.length + 1 - cal.stability)
    let stable := band.length = cal.stability ∧ ∀ a ∈ band, ∀ b ∈ band, a - b ≤ 5 * (cal.e1 : Int)
    let v := weighWindow cal w
    (10 * ((cal.max : Int) + 9 * eTop) < g → v.state = .overload ∧ v.band = [] ∧
      v.latest = some { state := .overload, weights := none, message := some .overload }) ∧
    (g < -200 * (cal.e1 : Int) → g ≤ 10 * ((cal.max : Int) + 9 * eTop) →
      v.state = .underload ∧ v.band = []) ∧
    (-200 * (cal.e1 : Int) ≤ g → g ≤ 10 * ((cal.max : Int) + 9 * eTop) →
      v.band = band ∧ (stable → v.state = .stable) ∧ (¬ stable → v.state = .motion) ∧
      v.window = w.window ∧ v.tare = w.tare ∧ v.zi = w.zi ∧
      ∃ r x, v.latest = some r ∧ r.weights = some x ∧ x.gross = g ∧
        x.net = g - 10 * (w.tare.value : Int))) ∧
  (∀ (cal : CalFields) (state : WeighState) (tare : Tare) (gross : Int) (stable : Bool) (x : Weights),
    0 < cal.e1 → 0 < cal.e2 → (resultOf cal state tare gross stable).message = none →
    (resultOf cal state tare gross stable).weights = some x →
    state = .stable ∧ x.gross = gross ∧ gross ≤ 10 * (cal.max : Int) ∧
      20 * (cal.e1 : Int) ≤ x.d ∧ x.net = gross - 10 * (tare.value : Int) ∧
      (cal.max1 = 0 ∨ x.net.natAbs ≤ 10 * cal.max1 →
        x.netRange = .one ∧ (cal.e1 : Int) ∣ x.d ∧
          2 * (10 * x.d - x.net).natAbs ≤ 10 * cal.e1) ∧
      (cal.max1 ≠ 0 → 10 * cal.max1 < x.net.natAbs →
        x.netRange = .two ∧ (cal.e2 : Int) ∣ x.d ∧
          2 * (10 * x.d - x.net).natAbs ≤ 10 * cal.e2)) ∧
  (∀ (cal : CalRecord) (w : WeighCtx),
    let spoiled : WeighState → MsgCode → WeighCtx := fun state m =>
      { w with state := state, band := []
               latest := some { state := state, weights := none, message := some m } }
    (Config.clipHigh ∈ w.window → weighWindow cal w = spoiled .overload .overload) ∧
    (Config.clipHigh ∉ w.window → Config.clipLow ∈ w.window →
      weighWindow cal w = spoiled .underload .underload)) ∧
  (∀ (cal : CalRecord) (w : WeighCtx), w.window.length = cal.window → 2 ≤ cal.stability →
    Config.clipHigh ∉ w.window → Config.clipLow ∉ w.window →
    let gross : Int → Int := fun zo => roundHalfAway
      ((w.window.sum - cal.window * (cal.zero + zo)) * cal.mult) (cal.window * 65536)
    let eTop : Nat := if 0 < cal.max1 then cal.e2 else cal.e1
    let inLimits : Int → Prop := fun g =>
      -200 * (cal.e1 : Int) ≤ g ∧ g ≤ 10 * ((cal.max : Int) + 9 * eTop)
    let g := gross w.zo
    let band := (w.band ++ [g]).drop (w.band.length + 1 - cal.stability)
    let stable := band.length = cal.stability ∧ ∀ a ∈ band, ∀ b ∈ band, a - b ≤ 5 * (cal.e1 : Int)
    let nearEmpty := g.natAbs * 100 ≤ 10 * cal.max * 10
    let offset := roundHalfAway w.window.sum cal.window - cal.zero
    let tracks := cal.tracking = true ∧ inLimits g ∧ stable ∧ w.tare.kind = .none ∧
      g.natAbs ≤ 5 * cal.e1 ∧ (offset - w.zi).natAbs * cal.mult * 100 ≤ 10 * cal.max * 2 * 65536
    let v := weighWindow cal w
    (w.pendingZero = true →
      (inLimits g → stable → nearEmpty →
        v.pendingZero = false ∧ v.zo = offset ∧ v.zi = offset ∧
        (inLimits (gross offset) → v.state = .motion ∧ v.band = [gross offset] ∧
          ∃ r x, v.latest = some r ∧ r.weights = some x ∧ x.gross = gross offset)) ∧
      (inLimits g → ¬ (stable ∧ nearEmpty) → v.state = .initialZero ∧ v.band = band ∧
        ∃ r, v.latest = some r ∧ r.message = some .noZero) ∧
      (¬ (inLimits g ∧ stable ∧ nearEmpty) →
        v.pendingZero = true ∧ v.zo = w.zo ∧ v.zi = w.zi)) ∧
    (w.pendingZero = false → (tracks → v.zo = offset) ∧ (¬ tracks → v.zo = w.zo)))

/-- ZERO on a stable untared weight within the zero limit moves Zo to the window average less Z, keeps Zi
and hands on a result in MOTION; the checks before it refuse in their order. -/
def Obligations.ZeroKeySetsZeroOffset : Prop :=
  ∀ (s : State) (p : CounterPort) (cal : CalRecord), Quiet s → ScaleOnline s p →
    (s.port p).sale = .idle ∨ (s.port p).sale = .item → s.ret.cal[p] = some cal →
    let w := (s.port p).weigh
    let zo := roundHalfAway w.window.sum cal.window - cal.zero
    let z := weighPass cal w.window.sum { w with zo := zo, band := [] }
    let inLimit := (zo - w.zi).natAbs * cal.mult * 100 ≤ 10 * cal.max * 2 * 65536
    (w.state = .stable → w.tare.kind = .none → inLimit →
      ∃ t, exec (.zero p) s = .next t ∧
        KeyAnswered s t p { s.port p with
          weigh := z
          snapshot := repriced (s.port p) (z.latest.getD (blankResult z.state))
          held := none } ∧
        z.zi = w.zi) ∧
    (∀ m : MsgCode, (w.state ≠ .stable ∧ m = .notStable ∨
        w.state = .stable ∧ w.tare.kind ≠ .none ∧ m = .tareActive ∨
        w.state = .stable ∧ w.tare.kind = .none ∧ ¬ inLimit ∧ m = .zeroRange) →
      ∃ t, exec (.zero p) s = .next t ∧ KeyAnswered s t p { s.port p with held := some m })

/-- TARE on a stable weight near zero clears the tare, above it sets a WEIGHED tare of the rounded gross up to
half of Max; below it, or unstable, it is refused. KEYED_TARE 0 clears the tare, a multiple of e1 up to half of
Max sets a KEYED tare, another value is refused. -/
def Obligations.TareKeysSetTare : Prop :=
  (∀ (s : State) (p : CounterPort) (cal : CalRecord) (r : WeightResult) (x : Weights),
    Quiet s → ScaleOnline s p → (s.port p).sale = .idle → s.ret.cal[p] = some cal →
    (s.port p).weigh.latest = some r → r.weights = some x →
    let w := (s.port p).weigh
    let T : Nat := cal.e1 * (roundHalfAway x.gross (10 * cal.e1)).toNat
    let near := x.gross.natAbs ≤ 5 * cal.e1
    (w.state = .stable → near → ∃ t, exec (.tare p) s = .next t ∧
      KeyAnswered s t p { s.port p with
        weigh := retared (some cal) { kind := .none, value := 0 } w, held := none }) ∧
    (w.state = .stable → ¬ near → 0 < x.gross → 2 * T ≤ cal.max →
      ∃ t, exec (.tare p) s = .next t ∧ KeyAnswered s t p { s.port p with
        weigh := retared (some cal) { kind := .weighed, value := T } w, held := none }) ∧
    (w.state = .stable → ¬ near → 0 < x.gross → cal.max < 2 * T →
      ∃ t, exec (.tare p) s = .next t ∧
        KeyAnswered s t p { s.port p with held := some .tareRange }) ∧
    (w.state = .stable → ¬ near → x.gross < 0 → ∃ t, exec (.tare p) s = .next t ∧
      KeyAnswered s t p { s.port p with held := some .tareInvalid }) ∧
    (w.state ≠ .stable → ∃ t, exec (.tare p) s = .next t ∧
      KeyAnswered s t p { s.port p with held := some .notStable })) ∧
  (∀ (s : State) (p : CounterPort) (n : Nat), Quiet s → ScaleOnline s p → (s.port p).sale = .idle →
    (∀ cal : CalRecord, s.ret.cal[p] = some cal →
      (n = 0 → ∃ t, exec (.keyedTare p n) s = .next t ∧ KeyAnswered s t p { s.port p with
        weigh := retared (some cal) { kind := .none, value := 0 } (s.port p).weigh, held := none }) ∧
      (n ≠ 0 → n % cal.e1 = 0 → 2 * n ≤ cal.max → ∃ t, exec (.keyedTare p n) s = .next t ∧
        KeyAnswered s t p { s.port p with
          weigh := retared (some cal) { kind := .keyed, value := n } (s.port p).weigh
          held := none }) ∧
      (n % cal.e1 ≠ 0 → ∃ t, exec (.keyedTare p n) s = .next t ∧
        KeyAnswered s t p { s.port p with held := some .tareInvalid }) ∧
      (n % cal.e1 = 0 → cal.max < 2 * n → ∃ t, exec (.keyedTare p n) s = .next t ∧
        KeyAnswered s t p { s.port p with held := some .tareRange })) ∧
    (s.ret.cal[p] = none → ∃ t, exec (.keyedTare p n) s = .next t ∧
      KeyAnswered s t p { s.port p with held := some .noCal }))


/-! ### Keys: the gate and the operators -/

/-- The gate: in NO_OPERATOR a sales key and LOGOUT are refused with LOGIN_REQUIRED, in ITEM and PRINTING
LOGIN and LOGOUT with BUSY, in PRINTING a sales key with BUSY, in CALIBRATING with CAL_MODE. A refused key
changes the held message alone. LOGIN takes the operator in and brings NO_OPERATOR to IDLE; from a station where
the operator stands IDLE it takes the operator away; LOGOUT undoes it. -/
def Obligations.GateAndLoginMoveOperator : Prop :=
  ∀ (s : State) (p : CounterPort), Quiet s → ScaleOnline s p →
    (∀ (i : Instr) (m : MsgCode),
      (SalesKey p i ∧
        ((s.port p).sale = .noOperator ∧ m = .loginRequired ∨ (s.port p).sale = .printing ∧ m = .busy ∨
          (s.port p).sale = .calibrating ∧ m = .calMode)) ∨
      ((i = .logout p ∨ ∃ n, i = .login p n) ∧ m = .busy ∧
        ((s.port p).sale = .item ∨ (s.port p).sale = .printing)) ∨
      (i = .logout p ∧ m = .loginRequired ∧ (s.port p).sale = .noOperator) →
      ∃ t, exec i s = .next t ∧ KeyAnswered s t p { s.port p with held := some m }) ∧
    (∀ (k : OperatorNo) (r : OperatorRecord), s.ret.operators[k] = some r → r.enabled = true →
      ((∀ q : CounterPort, (s.port q).operator ≠ some k) →
        ((s.port p).sale = .noOperator → (s.port p).calSwitch = .off →
          ∃ t, exec (.login p k.number) s = .next t ∧ KeyAnswered s t p
            { s.port p with operator := some k, sale := .idle, held := none }) ∧
        ((s.port p).sale = .idle ∨ (s.port p).sale = .calibrating →
          ∃ t, exec (.login p k.number) s = .next t ∧ KeyAnswered s t p
            { s.port p with operator := some k, held := none })) ∧
      (∀ q : CounterPort, q ≠ p → (s.port q).operator = some k →
        (∀ x : CounterPort, x ≠ q → (s.port x).operator ≠ some k) →
        (s.port p).sale = .idle →
        ((s.port q).sale = .item ∨ (s.port q).sale = .printing →
          ∃ t, exec (.login p k.number) s = .next t ∧
            KeyAnswered s t p { s.port p with held := some .operatorBusy }) ∧
        (ScaleOnline s q → (s.port q).sale = .idle → (s.port q).service ≠ .asking →
          ∃ t, exec (.login p k.number) s = .next t ∧ t = { s with ports := t.ports } ∧
            (∀ x : CounterPort, x ≠ p → x ≠ q → t.port x = s.port x) ∧
            t.port q = { s.port q with
              operator := none, sale := .noOperator, held := none
              tx := (s.port q).tx ++ [.display (displayOf t q)] } ∧
            t.port p = { s.port p with
              operator := some k, held := none
              supervision := s.ret.config.supervisionReload
              tx := (s.port p).tx ++ [.display (displayOf t p)] }))) ∧
    (∀ k : OperatorNo, (∀ r, s.ret.operators[k] = some r → r.enabled = false) →
      (s.port p).sale = .idle → ∃ t, exec (.login p k.number) s = .next t ∧
        KeyAnswered s t p { s.port p with held := some .operatorUnknown }) ∧
    ((s.port p).sale = .idle → (s.port p).service = .asking →
      ∃ t, exec (.logout p) s = .next t ∧ KeyAnswered
        { s with tickets := { s.tickets with
            calling := s.tickets.calling.filter fun q => q ≠ p } } t p
        { s.port p with operator := none, sale := .noOperator, service := .free, held := none }) ∧
    ((s.port p).sale = .idle → (s.port p).service ≠ .asking →
      ∃ t, exec (.logout p) s = .next t ∧ KeyAnswered s t p
        { s.port p with operator := none, sale := .noOperator, held := none })

/-! ### Keys: the sale -/

/-- Base of a count or fixed sale: q × U and U, whatever the weighing unit says. Base of a BY_WEIGHT sale:
d × U over 1,000, or over 100 for PER_100G, half up; without a priceable result there is none, with the result's
message, or NO_DATA where no result is. Then the markdown rounded half up, the final, and the two limits on it. -/
def Obligations.BaseNeedsNoWeightInCountAndFixed : Prop :=
  ∀ (sn : Snapshot) (latest : Option WeightResult),
    (sn.item.mode = .byCount → livePrice sn latest = priced (sn.quantity * sn.item.price) sn.percent) ∧
    (sn.item.mode = .fixed → livePrice sn latest = priced sn.item.price sn.percent) ∧
    (sn.item.mode = .byWeight →
      (latest = none → livePrice sn latest = { amounts := none, message := some .noData }) ∧
      (∀ r m, latest = some r → r.message = some m →
        livePrice sn latest = { amounts := none, message := some m }) ∧
      (∀ (r : WeightResult) (x : Weights) (d : Nat), latest = some r → r.message = none →
        r.weights = some x → x.d = d →
        let grams := if sn.item.basis = some .per100g then 100 else 1000
        ∃ base, livePrice sn latest = priced base sn.percent ∧
          2 * grams * base ≤ 2 * (d * sn.item.price) + grams ∧
          2 * (d * sn.item.price) + grams < 2 * grams * (base + 1))) ∧
    ∀ (base pct : Nat), pct ≤ 100 → ∃ a, (priced base pct).amounts = some a ∧ a.base = base ∧
      a.final + a.markdown = base ∧
      (200 * a.markdown ≤ 2 * (base * pct) + 100 ∧ 2 * (base * pct) < 200 * a.markdown + 100) ∧
      (pct = 0 → a.final = base) ∧
      (priced base pct).message =
        (if 999999 < a.final then some .overPrice else if a.final = 0 then some .zeroPrice else none)

/-- PLU in IDLE: the number's LIVE record with its template opens a snapshot with quantity 1, priced at
once, and the station is in ITEM; its preset tare is taken when it meets the limits and no other tare stands,
and is TARE_INVALID when it does not. A number with no record is NO_ITEM, a RETIRED one ITEM_RETIRED. In ITEM the
old snapshot closes first: a WAITING commit that awaits it counts it, and completes with the last, with the keyed
number counted as named (the model's choice, log 24). The checks refuse in IDLE and in ITEM alike. -/
def Obligations.PluOpensSnapshot : Prop :=
  (∀ (s : State) (p : CounterPort) (n : Nat), Quiet s → ScaleOnline s p →
    (s.port p).sale = .idle ∨ (s.port p).sale = .item →
    let refused : MsgCode → Prop := fun m =>
      ∃ t, exec (.plu p n) s = .next t ∧ KeyAnswered s t p { s.port p with held := some m }
    (∀ k b, s.dayState = .closing k b → refused .dayClosing) ∧
    (s.dayState = .trading →
      (n = 0 ∨ 99999 < n ∨ itemOf s.ret.items n = none → refused .noItem) ∧
      (∀ r : ItemRecord, 1 ≤ n → n ≤ 99999 → itemOf s.ret.items n = some r →
        (r.status = .retired → refused .itemRetired) ∧
        (r.status = .live → itemTemplate s.ret r.item.template = none → refused .templateMissing) ∧
        (∀ t : Template, r.status = .live → itemTemplate s.ret r.item.template = some t →
          hasDateField t = true → s.clock.valid = false → refused .clockNotSet)))) ∧
  (∀ (s : State) (p : CounterPort) (n : Nat) (sn : Snapshot) (r : ItemRecord) (t : Template),
    ItemReady s p sn → s.dayState = .trading → 1 ≤ n → n ≤ 99999 →
    itemOf s.ret.items n = some r → r.status = .live → itemTemplate s.ret r.item.template = some t →
    (hasDateField t = true → s.clock.valid = true) →
    let closed := closedPort s.ret.cal[p] (s.port p)
    let stale := sn.generation = (s.ret.generation + 65535) % 65536
    let reselected : State → Prop := fun base =>
      ∃ u, exec (.plu p n) s = .next u ∧ KeyAnswered base u p (itemOpened s s.ret.cal[p] r closed)
    ((∀ d, s.commit = .waiting d → ¬ stale) → reselected s) ∧
    (∀ d : CommitDrain, s.commit = .waiting d → stale →
      (2 ≤ d.awaited → reselected { s with commit := .waiting { d with awaited := d.awaited - 1 } }) ∧
      (∀ r' : ItemRecord, d.awaited ≤ 1 →
        let done := appliedFor [n] d.forced (s.setPort p closed)
        itemOf done.ret.items n = some r' →
        ∃ u, exec (.plu p n) s = .next u ∧ EveryStationShown (done.setPort p
          { itemOpened done s.ret.cal[p] r' closed with
            supervision := s.ret.config.supervisionReload }) u))) ∧
  ∀ (s : State) (p : CounterPort) (n : Nat), KeyReady s p → s.dayState = .trading →
    (s.port p).snapshot = none → 1 ≤ n → n ≤ 99999 →
    (∀ (r : ItemRecord) (t : Template), itemOf s.ret.items n = some r → r.status = .live →
      itemTemplate s.ret r.item.template = some t → (hasDateField t = true → s.clock.valid = true) →
      let pct := match r.markdown with
        | none => 0
        | some m => if s.clock.valid = true ∧ m.start ≤ s.clock.second / 60 ∧
            s.clock.second / 60 < m.stop then m.percent else 0
      let sn : Snapshot := { item := r.item, generation := s.ret.generation, percent := pct
                             quantity := 1, live := none }
      let w := (s.port p).weigh
      (r.item.presetTare = 0 ∨ s.ret.cal[p] = none ∨ w.tare.kind = .weighed ∨ w.tare.kind = .keyed →
        ∃ t, exec (.plu p n) s = .next t ∧ KeyAnswered s t p { s.port p with
          snapshot := some { sn with live := some (livePrice sn w.latest) }
          sale := .item, held := none }) ∧
      (∀ cal : CalRecord, s.ret.cal[p] = some cal → w.tare.kind = .none → r.item.presetTare ≠ 0 →
        (r.item.presetTare % cal.e1 = 0 → 2 * r.item.presetTare ≤ cal.max →
          let v := retared (some cal) { kind := .preset, value := r.item.presetTare } w
          ∃ t, exec (.plu p n) s = .next t ∧ KeyAnswered s t p { s.port p with
            weigh := v
            snapshot := some { sn with live := some (livePrice sn v.latest) }
            sale := .item, held := none }) ∧
        (r.item.presetTare % cal.e1 ≠ 0 ∨ cal.max < 2 * r.item.presetTare →
          ∃ t, exec (.plu p n) s = .next t ∧ KeyAnswered s t p { s.port p with
            snapshot := some { sn with live := some (livePrice sn w.latest) }
            sale := .item, held := some .tareInvalid }))) ∧
    (itemOf s.ret.items n = none → ∃ t, exec (.plu p n) s = .next t ∧
      KeyAnswered s t p { s.port p with held := some .noItem }) ∧
    (∀ r, itemOf s.ret.items n = some r → r.status = .retired → ∃ t, exec (.plu p n) s = .next t ∧
      KeyAnswered s t p { s.port p with held := some .itemRetired })

/-- QTY sets the quantity of a count item and prices it again, and is refused out of range, for another
mode or in IDLE; CANCEL closes the snapshot with no count and clears the held message, and in IDLE clears the message
alone. -/
def Obligations.QtyAndCancelChangeSnapshot : Prop :=
  ∀ (s : State) (p : CounterPort),
    (∀ (sn : Snapshot) (q : Nat), ItemReady s p sn →
      (sn.item.mode = .byCount → 1 ≤ q → q ≤ 999 →
        ∃ t, exec (.qty p q) s = .next t ∧ KeyAnswered s t p { s.port p with
          held := none
          snapshot := some { sn with
            quantity := q
            live := some (livePrice { sn with quantity := q } (s.port p).weigh.latest) } }) ∧
      (sn.item.mode = .byCount → q = 0 ∨ 999 < q → ∃ t, exec (.qty p q) s = .next t ∧
        KeyAnswered s t p { s.port p with held := some .qtyRange }) ∧
      (sn.item.mode ≠ .byCount → ∃ t, exec (.qty p q) s = .next t ∧
        KeyAnswered s t p { s.port p with held := some .notCountItem }) ∧
      (s.dayState = .trading → s.commit = .editing →
        ((s.port p).calSwitch = .off → ∃ t, exec (.cancel p) s = .next t ∧ KeyAnswered s t p
          { closedPort s.ret.cal[p] (s.port p) with sale := .idle, held := none }) ∧
        ((s.port p).calSwitch = .on → (s.port p).service ≠ .asking →
          ∃ t, exec (.cancel p) s = .next t ∧ KeyAnswered s t p
            { closedPort s.ret.cal[p] (s.port p) with sale := .calibrating, held := none }))) ∧
    (KeyReady s p → ∃ t, exec (.cancel p) s = .next t ∧
      KeyAnswered s t p { s.port p with held := none }) ∧
    (∀ q : Nat, KeyReady s p → ∃ t, exec (.qty p q) s = .next t ∧
      KeyAnswered s t p { s.port p with held := some .notCountItem })

/-- PRINT of a live price with amounts and no message, past the checks of its rule, freezes the sale record,
enters PRINTING and queues the ITEM job; PRINTER_BUSY is held when no slot is free. Without a priceable weight
or within no limit it is refused. -/
def Obligations.PrintFreezesSale : Prop :=
  ∀ (s : State) (p : CounterPort) (sn : Snapshot) (l : LivePrice), ItemReady s p sn →
    sn.live = some l →
    (∀ (a : Amounts) (q : Nat), l.amounts = some a → l.message = none →
      (sn.item.mode = .byCount ∧ q = sn.quantity ∨ sn.item.mode = .fixed ∧ q = 1 ∨
        sn.item.mode = .byWeight ∧ ∃ r x, (s.port p).weigh.latest = some r ∧ r.message = none ∧
          r.weights = some x ∧ q = x.d.toNat) →
      (∀ t, entryAt s.ret.templates (sn.item.template - 1) = some t → hasDateField t = true →
        s.clock.valid = true) →
      (∀ j ∈ s.composer.queue, j.station ≠ p) →
      (∀ c, s.composer.current = some c → c.job.station = p → c.dropped = true) →
      s.ret.day.nextSerial + serialJobs s ≤ 999999 →
      let queued : SaleRecord → State := fun r => { s with composer := { s.composer with
        queue := s.composer.queue ++ [{ station := p, source := .item r }] } }
      let printing : SaleRecord → Port := fun r => { s.port p with
        sale := .printing, record := some r, snapshot := some { sn with live := none }
        held := if (s.port p).slots.free = [] then some .printerBusy else none }
      let record : SaleRecord :=
        { item := sn.item, generation := sn.generation, percent := sn.percent, quantity := q
          tare := if sn.item.mode = .byWeight then (s.port p).weigh.tare
            else { kind := .none, value := 0 }
          amounts := a, order := none, operator := (s.port p).operator, station := p
          stamp := { date := if s.clock.valid then some s.clock.date else none
                     second := s.clock.second } }
      ((s.port p).service ≠ .serving → ∃ t, exec (.print p) s = .next t ∧
        KeyAnswered (queued record) t p (printing record)) ∧
      (∀ o : Order, (s.port p).service = .serving → orderOpenAt s.orders p = some o →
        (o.lines.length < 24 → o.total + a.final ≤ 9999999 →
          let r := { record with order := some (o.number, o.ticket) }
          ∃ t, exec (.print p) s = .next t ∧ KeyAnswered (queued r) t p (printing r)) ∧
        (24 ≤ o.lines.length → ∃ t, exec (.print p) s = .next t ∧
          KeyAnswered s t p { s.port p with held := some .orderFull }) ∧
        (o.lines.length < 24 → 9999999 < o.total + a.final → ∃ t, exec (.print p) s = .next t ∧
          KeyAnswered s t p { s.port p with held := some .orderLimit }))) ∧
    (∀ m : MsgCode, sn.item.mode ≠ .byWeight → l.message = some m →
      ∃ t, exec (.print p) s = .next t ∧ KeyAnswered s t p { s.port p with held := some m })

/-! ### Keys: labels -/

/-- VOID of a printed label of this station, with no order or with its order OPEN here, by an operator with the
permission: the entry is VOIDED, its sale reversed, the void counted, its line of the order voided and taken off
the total, copies that wait withdrawn (in post-list order, the model's choice, log 37) and LABEL_VOIDED queued.
REPRINT of a printed label with fewer than three copies queues a REPRINT job. The checks before refuse in their
order. In ITEM both are BUSY. -/
def Obligations.VoidReversesAndReprintQueues : Prop :=
  (∀ (s : State) (p : CounterPort) (i : Instr), Quiet s → ScaleOnline s p → (s.port p).sale = .item →
    (∃ n, i = .void p n ∨ i = .reprint p n) →
    ∃ t, exec i s = .next t ∧ KeyAnswered s t p { s.port p with held := some .busy }) ∧
  ∀ (s : State) (p : CounterPort) (n : Nat), KeyReady s p →
    let refused : Instr → MsgCode → Prop := fun i m =>
      ∃ t, exec i s = .next t ∧ KeyAnswered s t p { s.port p with held := some m }
    (∀ (e : LogEntry) (sr : SaleRecord), s.log.find? (fun x => x.serial == n) = some e →
      e.sale = some sr →
      let openHere := e.order = none ∨ ∃ o l, (s.port p).service = .serving ∧
        orderOpenAt s.orders p = some o ∧ e.order = some o.number ∧
        s.orders.find? (fun x => x.number == o.number) = some o ∧ l ∈ o.lines ∧ l.serial = n ∧
        l.voided = false
      (∀ (k : OperatorNo) (op : OperatorRecord), e.state = .printed → e.station = p → openHere →
        (s.port p).operator = some k → s.ret.operators[k] = some op → op.voidPermission = true →
        let waits : SlotCtx → SlotNo → Bool := fun c i => decide (c.outstanding ≠ some i) &&
          c.labels[i].any fun l =>
            decide (l.cls = .reprint) && l.serial == n && l.day == s.ret.day.number
        let withdrawn : Port → Port := fun c =>
          { c with slots := (c.slots.post.filter (waits c.slots)).foldl (·.release ·) c.slots }
        let reversed := countOperator (some k) { voids := 1, voidValue := sr.amounts.final }
          (moveSale false sr s.ret)
        let counted := countGrand { voids := 1, voidValue := sr.amounts.final }
          (countStation p { voids := 1 } reversed)
        let struck : Order → Order := fun o =>
          { o with
            lines := o.lines.map fun l => if l.serial = n then { l with voided := true } else l
            total := o.total -
              ((o.lines.filter fun l => l.serial == n && !l.voided).map (·.final)).sum
            idle := 0 }
        ∃ t, exec (.void p n) s = .next t ∧
          KeyAnswered (notify (.labelVoided n p (.key (some k))) { s with
            log := s.log.map fun x => if x.serial = n then { x with state := .voided } else x
            ret := counted
            orders := match e.order with
              | none => s.orders
              | some m => s.orders.map fun o => if o.number = m then struck o else o
            ports := s.ports.map withdrawn }) t p { withdrawn (s.port p) with held := none }) ∧
      (e.state = .printed → e.station = p → openHere →
        (∀ k op, (s.port p).operator = some k → s.ret.operators[k] = some op →
          op.voidPermission = false) → refused (.void p n) .noPermission) ∧
      (e.state = .printed → e.reprints < 3 → (∀ j ∈ s.composer.queue, j.station ≠ p) →
        (∀ c, s.composer.current = some c → c.job.station = p → c.dropped = true) →
        ∃ t, exec (.reprint p n) s = .next t ∧
          KeyAnswered { s with composer := { s.composer with
              queue := s.composer.queue ++ [{ station := p, source := .reprint n }] } } t p
            { s.port p with
              held := if (s.port p).slots.free = [] then some .printerBusy else none }) ∧
      (e.state = .printed → e.reprints < 3 → (∃ j ∈ s.composer.queue, j.station = p) →
        refused (.reprint p n) .busy) ∧
      (e.state = .printed → 3 ≤ e.reprints → refused (.reprint p n) .reprintLimit)) ∧
    (∀ e : LogEntry, s.log.find? (fun x => x.serial == n) = some e →
      (e.state = .voided ∨ e.state = .unprinted →
        refused (.void p n) .alreadyVoid ∧ refused (.reprint p n) .notVoidable) ∧
      (e.state = .posted → refused (.void p n) .notVoidable ∧ refused (.reprint p n) .notVoidable) ∧
      (e.state = .printed → e.sale = none →
        refused (.void p n) .notVoidable ∧ refused (.reprint p n) .notVoidable) ∧
      (e.state = .printed → e.station ≠ p → refused (.void p n) .notVoidable) ∧
      (∀ m, e.state = .printed → e.order = some m →
        (s.port p).service ≠ .serving ∨ (∀ o, orderOpenAt s.orders p = some o → o.number ≠ m) →
        refused (.void p n) .notVoidable)) ∧
    ((∀ x ∈ s.log, x.serial ≠ n) → refused (.void p n) .notInLog ∧ refused (.reprint p n) .notInLog)

/-- PRINT_DONE with OK for the outstanding slot frees it, marks the POSTED entry of its serial and day
PRINTED, counts the label and sends the next one; with a printer fault the slot stays at the head and the
printer is FAULT; for any other slot it is a protocol error that still reloads supervision. From an OFFLINE
station it changes nothing. -/
def Obligations.PrintDoneFreesSlot : Prop :=
  (∀ (s : State) (p : CounterPort), Quiet s → ScaleOnline s p →
    let reload := s.ret.config.supervisionReload
    (∀ (k : SlotNo) (l : SlotLabel), (s.port p).slots.outstanding = some k →
      (s.port p).slots.labels[k] = some l →
      (let c := (s.port p).slots
       let freed : SlotCtx := { labels := c.labels.set k none, free := c.free ++ [k]
                                post := c.post.filter fun i => i ≠ k, outstanding := none }
       let log := if l.cls = .reprint then s.log else s.log.map fun e =>
         if e.serial = l.serial ∧ e.state = .posted ∧ e.day = l.day then
           { e with state := .printed } else e
       let base := { s with log := log, ret := countStation p { labelsPrinted := 1 } s.ret }
       (freed.post = [] ∨ (s.port p).printer = .fault →
         exec (.printDone p k.val .ok) s = .next (base.setPort p
           { s.port p with supervision := reload, slots := freed })) ∧
       (∀ i rest m, freed.post = i :: rest → (s.port p).printer = .ready →
         freed.labels[i] = some m →
         exec (.printDone p k.val .ok) s = .next (base.setPort p
           { s.port p with
             supervision := reload, tx := (s.port p).tx ++ labelFrames i m
             slots := { freed with outstanding := some i } }))) ∧
      (∀ o : PrintOutcome, o ≠ .ok → exec (.printDone p k.val o) s = .next (s.setPort p
        { s.port p with
          supervision := reload, printer := .fault
          slots := { (s.port p).slots with outstanding := none } }))) ∧
    (∀ (n : Nat) (o : PrintOutcome), (∀ k, (s.port p).slots.outstanding = some k → k.val ≠ n) →
      exec (.printDone p n o) s = .next (s.setPort p { s.port p with
        supervision := reload
        errors := { (s.port p).errors with
          protocol := min 65535 ((s.port p).errors.protocol + 1) } }))) ∧
  (∀ (s : State) (p : CounterPort) (n : Nat) (o : PrintOutcome), Quiet s →
    (s.port p).state = .up → (s.port p).online = false → exec (.printDone p n o) s = .next s)

/-- The take decision: the oldest eligible job is taken, an eligible SUMMARY ahead of the others when the
service count has reached the ratio or no other waits; a taken job whose template stands starts with copies of
template and tables, and clears PRINTER_BUSY where that is held. A job that cannot start is refused with its
code at its station. A composer that works, or finds none eligible, takes none. -/
def Obligations.TakeDecisionFollowsRatio : Prop :=
  ∀ s : State, Quiet s →
    let free : Job → Prop := fun j => (s.port j.station).slots.free ≠ []
    let summary : Job → Prop := fun j => ∃ n k w, j.source = .summary n k w
    let shown : CounterPort → Port → State → State → Prop := fun p c base t =>
      OnlyPort base t p ∧ t.port p = { c with tx := c.tx ++ [.display (displayOf t p)] }
    let ended : State :=
      { s with composer := { queue := [], current := none, serviceCount := 0 }, free := s.free + 1 }
    (s.composer.current ≠ none ∨ (∀ j ∈ s.composer.queue, ¬ free j) →
      exec .takeDecision s = .next s) ∧
    (∀ (a b : List Job) (j : Job) (t : Template), s.composer.current = none →
      s.composer.queue = a ++ j :: b → free j → (∀ x ∈ a ++ b, x.station ≠ j.station) →
      (∀ n k w, j.source = .summary n k w → summaryTemplate s.ret = some t) →
      (∀ sr, j.source = .item sr → itemTemplate s.ret sr.item.template = some t) →
      (∀ n, j.source = .reprint n → ∃ e sr, s.log.find? (fun x => x.serial == n) = some e ∧
        e.state = .printed ∧ e.reprints < 3 ∧ e.sale = some sr ∧
        itemTemplate s.ret sr.item.template = some t) →
      let taken : Nat → Prop := fun count =>
        let base : State := { s with composer := {
          queue := a ++ b, serviceCount := count
          current := some { job := j, template := t, table0 := s.ret.table0, table1 := s.ret.table1
                            dropped := false } } }
        let c := s.port j.station
        (c.held ≠ some .printerBusy → exec .takeDecision s = .next base) ∧
        (c.held = some .printerBusy → ScaleOnline s j.station → ∃ u, exec .takeDecision s = .next u ∧
          shown j.station { c with held := none } base u)
      (summary j → (∀ x ∈ a, summary x → ¬ free x) →
        s.ret.config.serviceRatio ≤ s.composer.serviceCount ∨
          (∀ x ∈ a ++ b, ¬ summary x → ¬ free x) → taken 0) ∧
      (¬ summary j → (∀ x ∈ a, ¬ summary x → ¬ free x) →
        ((∀ x ∈ a ++ b, summary x → ¬ free x) → taken 0) ∧
        (s.composer.serviceCount < s.ret.config.serviceRatio →
          (∃ x ∈ a ++ b, summary x ∧ free x) → taken (s.composer.serviceCount + 1)))) ∧
    (∀ j : Job, s.composer.current = none → s.composer.queue = [j] → free j →
      ScaleOnline s j.station → s.dayState = .trading →
      let p := j.station
      let c := s.port p
      (∀ (sr : SaleRecord) (sn : Snapshot), j.source = .item sr → s.commit = .editing →
        itemTemplate s.ret sr.item.template = none → c.snapshot = some sn →
        ∃ t, exec .takeDecision s = .next t ∧ shown p { c with
          sale := .item, record := none, held := some .templateMissing
          snapshot := some { sn with live := some (livePrice sn c.weigh.latest) } } ended t) ∧
      (∀ n k w, j.source = .summary n k w → summaryTemplate s.ret = none → c.calSwitch = .off →
        ∃ t, exec .takeDecision s = .next t ∧ shown p
          { c with sale := .idle, held := some .templateMissing }
          { ended with orders := s.orders.map fun o =>
              if o.number = n then { o with summaryInFlight := false } else o } t) ∧
      (∀ (n : Nat) (m : MsgCode), j.source = .reprint n →
        ((∀ x ∈ s.log, x.serial ≠ n) ∧ m = .notInLog ∨
          ∃ e sr, s.log.find? (fun x => x.serial == n) = some e ∧ e.sale = some sr ∧
            (itemTemplate s.ret sr.item.template ≠ none ∧ e.state ≠ .printed ∧ m = .notVoidable ∨
              itemTemplate s.ret sr.item.template ≠ none ∧ e.state = .printed ∧ 3 ≤ e.reprints ∧
                m = .reprintLimit ∨
              itemTemplate s.ret sr.item.template = none ∧ e.state = .printed ∧ e.reprints < 3 ∧
                m = .templateMissing)) →
        ∃ t, exec .takeDecision s = .next t ∧ shown p { c with held := some m } ended t))

/-- A completed composition: a dropped one is discarded. An ITEM label whose numeric fields fit is posted to
the first free slot and issued with the next serial, its sale counted, its line appended, the snapshot closed
and the station IDLE, or CALIBRATING where calibration is pending; one that does not fit returns to ITEM with
LABEL_FIELD_OVERFLOW, or is a forced cancel where a drain has passed its snapshot. A WAITING commit counts either
close of a G - 1 snapshot and completes with the last; a CLOSING day completes with the last snapshot and job. A
SUMMARY label that fits is issued and its order closed SERVED; one that does not leaves the order OPEN. A REPRINT
that fits is posted and counted; one that does not, or whose entry is no longer PRINTED, is refused to its station.
A posted label is sent at once when the printer is READY and nothing stands before it, ahead of the DISPLAY frame of
the same event by the model's choice (log 42). -/
def Obligations.CompositionIssuesOrRefuses : Prop :=
  ∀ (s : State) (c : Composition), Quiet s → s.composer.current = some c →
    let p := c.job.station
    let serial := s.ret.day.nextSerial
    let day := s.ret.day.number
    let idle := { s with composer := { s.composer with current := none } }
    let shown : State → Port → State → Prop := fun base x t => OnlyPort base t p ∧
      t.port p = { x with tx := x.tx ++ [.display (displayOf t p)] }
    let sent := (s.port p).printer = .ready ∧ (s.port p).slots.outstanding = none ∧
      (s.port p).slots.post = []
    let posted : SlotLabel → SlotNo → List SlotNo → Port → Port := fun l k rest x => { x with
      slots := { (s.port p).slots with
        labels := (s.port p).slots.labels.set k (some l), free := rest
        post := (s.port p).slots.post ++ [k]
        outstanding := if sent then some k else (s.port p).slots.outstanding }
      tx := if sent then (s.port p).tx ++ labelFrames k l else (s.port p).tx }
    let feeds := sent ∨ (s.port p).printer = .fault ∨ (s.port p).slots.outstanding ≠ none
    let logged : LogEntry → List LogEntry := fun e => (s.log ++ [e]).drop (s.log.length + 1 - 256)
    (c.dropped = true → s.dayState = .trading → exec .compositionComplete s = .next idle) ∧
    (∀ (sr : SaleRecord) (sn : Snapshot), c.dropped = false → c.job.source = .item sr →
      ScaleOnline s p → (s.port p).sale = .printing → (s.port p).snapshot = some sn →
      let stale := sn.generation = (s.ret.generation + 65535) % 65536
      let answers : State → Prop := fun u =>
        ∃ t, exec .compositionComplete s = .next t ∧ shown u (u.port p) t
      let asked := decide ((s.port p).calSwitch = .on ∧ (s.port p).service = .asking)
      let left : State → State := fun u => { u with tickets := { u.tickets with
        calling := u.tickets.calling.filter fun q => !(asked && decide (q = p)) } }
      let leaves : Option MsgCode → Port := fun m => { closedPort s.ret.cal[p] (s.port p) with
        sale := if (s.port p).calSwitch = .on then .calibrating else .idle
        service := if asked then .free else (s.port p).service
        record := none, held := m }
      let closes : Nat → State → Prop := fun forced u =>
        (s.dayState = .trading → (∀ d, s.commit = .waiting d → ¬ stale) → answers u) ∧
        (∀ d : CommitDrain, s.dayState = .trading → s.commit = .waiting d → stale →
          (2 ≤ d.awaited → answers { u with
            commit := .waiting { d with awaited := d.awaited - 1, forced := d.forced + forced } }) ∧
          (d.awaited ≤ 1 → ∃ t, exec .compositionComplete s = .next t ∧
            EveryStationShown (applied (d.forced + forced) u) t)) ∧
        (∀ n b, s.dayState = .closing n b → (∀ d, s.commit ≠ .waiting d) →
          ((∃ q : CounterPort, q ≠ p ∧ (s.port q).snapshot ≠ none) ∨ s.composer.queue ≠ [] →
            answers u) ∧
          ((∀ q : CounterPort, q ≠ p → (s.port q).snapshot = none) → s.composer.queue = [] →
            ServiceSound s → ∃ (ended : List Order) (t : State), ended.Perm u.orders ∧
              exec .compositionComplete s = .next t ∧ EveryStationShown (dayClosedWith ended u) t))
      let passed : MsgCode → Prop := fun m =>
        (∃ d, s.commit = .waiting d ∧ d.expired = true ∧ stale ∧ m = .priceChanged) ∨
        ((∀ d, s.commit ≠ .waiting d) ∧ (∃ n, s.dayState = .closing n true) ∧ m = .dayClosing)
      let image := imageOf c (itemFieldText s.ret.operators sr serial false)
        (itemBarcode sr.item.plu sr.amounts.final)
      (image.2 = true →
        ((∀ m, ¬ passed m) → answers (idle.setPort p { s.port p with
          sale := .item, record := none, held := some .labelFieldOverflow
          snapshot := some { sn with live := some (livePrice sn (s.port p).weigh.latest) } })) ∧
        (∀ m, passed m → closes 1 ((left { idle with
          ret := countGrand { forcedCancels := 1 } (countStation p { forcedCancels := 1 } s.ret)
          }).setPort p (leaves (some m))))) ∧
      (∀ (k : SlotNo) (rest : List SlotNo), image.2 = false → (s.port p).slots.free = k :: rest →
        feeds →
        let label : SlotLabel :=
          { cls := .item, image := image.1, serial := serial, day := day, sale := some sr }
        let sold := moveSale true sr { s.ret with day := { s.ret.day with nextSerial := serial + 1 } }
        let counted := countGrand { staleSales := 1 } sold
        let line : OrderLine := { serial := serial, plu := sr.item.plu, quantity := sr.quantity
                                  final := sr.amounts.final, generation := sr.generation
                                  voided := false }
        let joined : Order → Order := fun o =>
          { o with lines := o.lines ++ [line], total := o.total + sr.amounts.final, idle := 0 }
        closes 0 ((left (notify
          (.itemIssued serial p sr.item.plu sr.quantity sr.amounts.final (sr.order.map (·.1)))
          { idle with
            ret := if sr.generation = (s.ret.generation + 65535) % 65536 then counted else sold
            log := logged { serial := serial, sale := some sr, state := .posted, reprints := 0
                            station := p, order := sr.order.map (·.1), day := day }
            orders := match sr.order with
              | none => s.orders
              | some (n, _) => s.orders.map fun o => if o.number = n then joined o else o
            })).setPort p (posted label k rest (leaves none))))) ∧
    (∀ (n : Nat) (k : Option OperatorNo) (w : Stamp) (o : Order), c.dropped = false →
      c.job.source = .summary n k w → ScaleOnline s p → s.dayState = .trading →
      (s.port p).sale = .printing → (s.port p).calSwitch = .off → s.orders.find? (fun x => x.number == n) = some o →
      let image := imageOf c (summaryFieldText s.ret.operators o p k w serial)
        (summaryBarcode o.number o.total)
      (image.2 = true → ∃ t, exec .compositionComplete s = .next t ∧ shown
        { idle with orders := s.orders.map fun x =>
            if x.number = n then { x with summaryInFlight := false } else x }
        { s.port p with sale := .idle, held := some .labelFieldOverflow } t) ∧
      (∀ (i : SlotNo) (rest : List SlotNo), image.2 = false → (s.port p).slots.free = i :: rest →
        feeds →
        let label : SlotLabel :=
          { cls := .summary, image := image.1, serial := serial, day := day, sale := none }
        let live := (o.lines.filter fun l => !l.voided).length
        ∃ t, exec .compositionComplete s = .next t ∧ shown
          (notify (.orderClosed .served n o.ticket (some p) (some serial) (some live) (some o.total))
            (notify (.summaryIssued serial p n o.total)
              { idle with
                ret := countGrand { ordersClosed := 1 }
                  { s.ret with day := { s.ret.day with nextSerial := serial + 1 } }
                log := logged { serial := serial, sale := none, state := .posted, reprints := 0
                                station := p, order := some n, day := day }
                orders := s.orders.filter fun x => x.number ≠ n
                tickets := { s.tickets with
                  recs := s.tickets.recs.set o.ticket { state := .free, count := 0, age := 0 } } }))
          (posted label i rest { s.port p with service := .free, sale := .idle, held := none }) t)) ∧
    (∀ n : Nat, c.dropped = false → c.job.source = .reprint n → ScaleOnline s p → s.dayState = .trading →
      ((∀ e, s.log.find? (fun x => x.serial == n) = some e → e.state ≠ .printed) →
        ∃ t, exec .compositionComplete s = .next t ∧
          shown idle { s.port p with held := some .notVoidable } t) ∧
      (∀ (e : LogEntry) (sr : SaleRecord), s.log.find? (fun x => x.serial == n) = some e →
        e.state = .printed → e.sale = some sr →
        let image := imageOf c (itemFieldText s.ret.operators sr n true)
          (itemBarcode sr.item.plu sr.amounts.final)
        (image.2 = true → ∃ t, exec .compositionComplete s = .next t ∧
          shown idle { s.port p with held := some .labelFieldOverflow } t) ∧
        (∀ (k : SlotNo) (rest : List SlotNo), image.2 = false → (s.port p).slots.free = k :: rest →
          feeds →
          let label : SlotLabel :=
            { cls := .reprint, image := image.1, serial := n, day := day, sale := none }
          let base : State := { idle with
            log := s.log.map fun x => if x.serial = n then { x with reprints := x.reprints + 1 } else x
            ret := countGrand { reprints := 1 } (countStation p { reprints := 1 } s.ret) }
          ((s.port p).held = none → exec .compositionComplete s =
            .next (base.setPort p (posted label k rest (s.port p)))) ∧
          ((s.port p).held ≠ none → ∃ t, exec .compositionComplete s = .next t ∧
            shown base (posted label k rest { s.port p with held := none }) t))))

/-! ### Keys: the service line and orders -/

/-- NEXT with no ticket waiting puts the station on the calling-stations list, CANCEL_NEXT takes it off; NEXT
and RECALL_SKIPPED in a closing day, and a key that does not fit the service state, are refused. In ITEM every
service key is BUSY. -/
def Obligations.AskingStationsJoinAndLeave : Prop :=
  (∀ (s : State) (p : CounterPort) (i : Instr), Quiet s → ScaleOnline s p → (s.port p).sale = .item →
    i ∈ [Instr.next p, .serve p, .recall p, .skip p, .cancelNext p] ∨ (∃ n, i = .recallSkipped p n) →
    ∃ t, exec i s = .next t ∧ KeyAnswered s t p { s.port p with held := some .busy }) ∧
  ∀ (s : State) (p : CounterPort), KeyReady s p →
    ((s.port p).service = .free → s.dayState = .trading → s.tickets.waiting = [] →
      ∃ t, exec (.next p) s = .next t ∧ KeyAnswered
        { s with tickets := { s.tickets with calling := s.tickets.calling ++ [p] } } t p
        { s.port p with service := .asking, held := none }) ∧
    ((s.port p).service = .asking → ∃ t, exec (.cancelNext p) s = .next t ∧ KeyAnswered
      { s with tickets := { s.tickets with
          calling := s.tickets.calling.filter fun q => q ≠ p } } t p
      { s.port p with service := .free, held := none }) ∧
    (∀ (i : Instr) (m : MsgCode),
      ((∃ n b, s.dayState = .closing n b) ∧ (i = .next p ∨ i = .serve p ∨ ∃ n, i = .recallSkipped p n) ∧
          m = .dayClosing ∨
        (s.port p).service ≠ .asking ∧ i = .cancelNext p ∧ m = .notWaiting ∨
        s.dayState = .trading ∧ (i = .next p ∨ ∃ n, i = .recallSkipped p n) ∧
          ((s.port p).service = .asking ∧ m = .alreadyWaiting ∨
            (s.port p).service = .called ∧ m = .ticketCalled ∨
            (s.port p).service = .serving ∧ m = .orderOpen) ∨
        s.dayState = .trading ∧ i ∈ [Instr.serve p, .recall p, .skip p] ∧
          (((s.port p).service = .free ∨ (s.port p).service = .asking) ∧ m = .noTicket ∨
            (s.port p).service = .serving ∧ m = .orderOpen)) →
      ∃ t, exec i s = .next t ∧ KeyAnswered s t p { s.port p with held := some m })

/-- NEXT calls the head of the waiting queue, RECALL the called ticket again up to three calls, RECALL_SKIPPED
a skipped ticket with count 1: the ticket is CALLED with the timer loaded, the station and its call displays
are sent NOW_SERVING, and TICKET_CALLED is queued with its cause. That the station's NOW_SERVING goes ahead of its
DISPLAY frame is the model's choice (log 42). -/
def Obligations.CallsShowTicket : Prop :=
  ∀ (s : State) (p : CounterPort), KeyReady s p →
    let called : TicketNo → Nat → State → State := fun k n u => { u with tickets := { u.tickets with
      recs := u.tickets.recs.set k
        { s.ticket k with state := .called p s.ret.config.callTimeout, count := n } } }
    ((s.port p).service = .free → s.dayState = .trading →
      (∀ k rest, s.tickets.waiting = k :: rest →
        let n := min 3 ((s.ticket k).count + 1)
        ∃ t, exec (.next p) s = .next t ∧ CallAnswered (notify (.ticketCalled k p n .next)
          (called k n { s with tickets := { s.tickets with waiting := rest } })) t p
          { s.port p with held := none } k n) ∧
      (∀ k : TicketNo, k ∈ s.tickets.skipped →
        ∃ t, exec (.recallSkipped p k.val) s = .next t ∧
          CallAnswered (notify (.ticketCalled k p 1 .skipped) (called k 1 { s with
            tickets := { s.tickets with skipped := s.tickets.skipped.filter fun j => j ≠ k } }))
            t p { s.port p with held := none } k 1) ∧
      (∀ n : Nat, (∀ k ∈ s.tickets.skipped, k.val ≠ n) →
        ∃ t, exec (.recallSkipped p n) s = .next t ∧
          KeyAnswered s t p { s.port p with held := some .notSkipped })) ∧
    (∀ (k : TicketNo) (m : Nat), (s.port p).service = .called → (s.ticket k).state = .called p m →
      (∀ j n, (s.ticket j).state = .called p n → j = k) →
      ((s.ticket k).count < 3 →
        let n := (s.ticket k).count + 1
        ∃ t, exec (.recall p) s = .next t ∧
          CallAnswered (notify (.ticketCalled k p n .recall) (called k n s)) t p
            { s.port p with held := none } k n) ∧
      (3 ≤ (s.ticket k).count → ∃ t, exec (.recall p) s = .next t ∧
        KeyAnswered s t p { s.port p with held := some .recallLimit }))

/-- SERVE takes the called ticket IN_SERVICE, counts its wait and opens an empty order under the next order
number that no live order holds; with 32 live orders it is refused with ORDERS_FULL. -/
def Obligations.ServeOpensOrder : Prop :=
  ∀ (s : State) (p : CounterPort) (k : TicketNo) (m : Nat), KeyReady s p → s.dayState = .trading →
    (s.port p).service = .called → (s.ticket k).state = .called p m →
    (∀ j n, (s.ticket j).state = .called p n → j = k) →
    (∀ before after : List Order, before.length + after.length < 32 →
      s.orders = before ++ after → (∀ o ∈ before, o.number ≤ s.ret.day.nextOrder) →
      (∀ o, after.head? = some o → s.ret.day.nextOrder < o.number) →
      (∀ o ∈ s.orders, o.number ≠ s.ret.day.nextOrder) →
      let number := s.ret.day.nextOrder
      let order : Order := { number := number, ticket := k, state := .openAt p, lines := []
                             total := 0, idle := 0, summaryInFlight := false }
      let ret := countGrand { ticketsServed := 1, waitSeconds := (s.ticket k).age
                              largestWait := (s.ticket k).age } s.ret
      let after_ := if 9999 ≤ number then 1 else number + 1
      ∃ t, exec (.serve p) s = .next t ∧ KeyAnswered { s with
        ret := { ret with day := { ret.day with nextOrder := after_ } }
        tickets := { s.tickets with
          recs := s.tickets.recs.set k { s.ticket k with state := .inService } }
        orders := before ++ order :: after } t p
        { s.port p with service := .serving, held := none }) ∧
    (32 ≤ s.orders.length → ∃ t, exec (.serve p) s = .next t ∧
      KeyAnswered s t p { s.port p with held := some .ordersFull })

/-- SKIP, and a call timer that runs out, put the called ticket at the tail of the skipped list with its
count and age, count it, and set the station FREE; a list of eight gives up its oldest, whose number is freed
and counted as discarded. A timer with more left does not time out. -/
def Obligations.SkipMovesTicketToSkippedList : Prop :=
  ∀ (s : State) (p : CounterPort) (k : TicketNo) (m : Nat), (s.ticket k).state = .called p m →
    let skippedTo : List TicketNo → Retained → Vector TicketRec 100 → State := fun l ret recs =>
      { s with
        ret := countGrand { ticketsSkipped := 1 } ret
        tickets := { s.tickets with
          skipped := l ++ [k], recs := recs.set k { s.ticket k with state := .skipped } } }
    let key : State → Prop := fun base => KeyReady s p → (s.port p).service = .called →
      (∀ j n, (s.ticket j).state = .called p n → j = k) →
      ∃ t, exec (.skip p) s = .next t ∧
        KeyAnswered base t p { s.port p with service := .free, held := none }
    let timeout : State → Prop := fun base => m ≤ 1 →
      exec (.callTimeout k) s = .next (base.setPort p { s.port p with service := .free })
    (s.tickets.skipped.length < 8 →
      key (skippedTo s.tickets.skipped s.ret s.tickets.recs) ∧
      timeout (skippedTo s.tickets.skipped s.ret s.tickets.recs)) ∧
    (∀ o rest, s.tickets.skipped = o :: rest → 7 ≤ rest.length →
      key (skippedTo rest (countGrand { ticketsDiscarded := 1 } s.ret)
        (s.tickets.recs.set o TicketRec.fresh)) ∧
      timeout (skippedTo rest (countGrand { ticketsDiscarded := 1 } s.ret)
        (s.tickets.recs.set o TicketRec.fresh))) ∧
    (2 ≤ m → exec (.callTimeout k) s = .next s)

/-- TAKE_REQUEST of a dispenser: CLOSED in a closing day; ROLL_BLOCKED while the next number is live; else
the number is issued with age and count 0, counted, and waits, or is called to the station that asks and shown
there and at its call displays. -/
def Obligations.TakeRequestIssuesTicket : Prop :=
  ∀ (s : State) (p : CounterPort), Quiet s → (s.port p).state = .up → (s.port p).online = true →
    (s.port p).kind = some .dispenser →
    let k := s.tickets.next
    let answered : TakeAnswer → Port := fun a => { s.port p with
      supervision := s.ret.config.supervisionReload, tx := (s.port p).tx ++ [.takeAnswer a] }
    (∀ n b, s.dayState = .closing n b →
      exec (.takeRequest p) s = .next (s.setPort p (answered .closed))) ∧
    (s.dayState = .trading → (s.ticket k).state ≠ .free →
      exec (.takeRequest p) s = .next (s.setPort p (answered .rollBlocked))) ∧
    (s.dayState = .trading → (s.ticket k).state = .free →
      let issued : TicketState → Nat → List TicketNo → List CounterPort → State :=
        fun st n waiting calling => { s with
          ret := countGrand { ticketsIssued := 1 } s.ret
          tickets := { s.tickets with
            next := k + 1, waiting := waiting, calling := calling
            recs := s.tickets.recs.set k { state := st, count := n, age := 0 } } }
      (s.tickets.calling = [] → exec (.takeRequest p) s = .next
        ((issued .waiting 0 (s.tickets.waiting ++ [k]) []).setPort p (answered (.issue k)))) ∧
      (∀ (q : CounterPort) (rest : List CounterPort), s.tickets.calling = q :: rest → q ≠ p →
        ∃ t, exec (.takeRequest p) s = .next t ∧
          t = { notify (.ticketCalled k q 1 .take)
            (issued (.called q s.ret.config.callTimeout) 1 s.tickets.waiting rest) with
              ports := t.ports } ∧
          t.port p = answered (.issue k) ∧
          t.port q = { s.port q with
            service := .called
            tx := if (s.port q).state = .up ∧ (s.port q).online = true then
                (s.port q).tx ++ [.nowServing q k 1]
              else (s.port q).tx } ∧
          ∀ r : CounterPort, r ≠ p → r ≠ q → t.port r = { s.port r with
            tx := if (s.port r).state = .up ∧ (s.port r).online = true ∧
                (s.port r).kind = some .callDisplay ∧
                (∃ m, (s.port r).mask = some m ∧ s.ret.config.masks[m][q] = true) then
                (s.port r).tx ++ [.nowServing q k 1]
              else (s.port r).tx }))

/-- PARK and PICKUP move an order between its station and PARKED with its idle count 0; an order past its
park timeout is abandoned with its ticket freed and ORDER_CLOSED queued. In ITEM both keys are BUSY. -/
def Obligations.OrdersAreParkedPickedUpAbandoned : Prop :=
  (∀ (s : State) (p : CounterPort) (i : Instr), Quiet s → ScaleOnline s p → (s.port p).sale = .item →
    i = .park p ∨ (∃ n, i = .pickup p n) →
    ∃ t, exec i s = .next t ∧ KeyAnswered s t p { s.port p with held := some .busy }) ∧
  ∀ (s : State) (p : CounterPort) (o : Order),
    (KeyReady s p → (s.port p).service = .serving → orderOpenAt s.orders p = some o →
      ∃ t, exec (.park p) s = .next t ∧ KeyAnswered { s with orders := s.orders.map fun x =>
        if x.number = o.number then { x with state := .parked, idle := 0 } else x } t p
        { s.port p with service := .free, held := none }) ∧
    (KeyReady s p → (s.port p).service = .free →
      s.orders.find? (fun x => decide (x.state = .parked) && x.ticket == o.ticket) = some o →
      ∃ t, exec (.pickup p o.ticket.val) s = .next t ∧
        KeyAnswered { s with orders := s.orders.map fun x =>
          if x.number = o.number then { x with state := .openAt p, idle := 0 } else x } t p
          { s.port p with service := .serving, held := none }) ∧
    (∀ n : Nat, KeyReady s p → (s.port p).service = .free →
      (∀ x ∈ s.orders, x.state = .parked → x.ticket.val ≠ n) →
      ∃ t, exec (.pickup p n) s = .next t ∧
        KeyAnswered s t p { s.port p with held := some .noOrder }) ∧
    (s.orders.find? (fun x => x.number == o.number) = some o →
      (o.state = .parked → s.ret.config.parkTimeout * 60 ≤ o.idle + 1 →
        exec (.orderAbandoned o.number) s = .next (notify
          (.orderClosed .abandoned o.number o.ticket none none
            (some (o.lines.filter fun l => !l.voided).length) (some o.total))
          { s with
            ret := countGrand { ordersAbandoned := 1 } s.ret
            orders := s.orders.filter fun x => x.number ≠ o.number
            tickets := { s.tickets with
              recs := s.tickets.recs.set o.ticket { state := .free, count := 0, age := 0 } } })) ∧
      (o.state ≠ .parked ∨ o.idle + 1 < s.ret.config.parkTimeout * 60 →
        exec (.orderAbandoned o.number) s = .next s))

/-- CLOSE_ORDER: BUSY behind a job of the station; an order with no live line closes EMPTY with its ticket
freed; else the SUMMARY job is queued with the order in flight and the station PRINTING. Without an order OPEN
here it is NO_ORDER, and in ITEM BUSY. -/
def Obligations.CloseOrderEndsOrQueuesSummary : Prop :=
  (∀ (s : State) (p : CounterPort) (i : Instr), Quiet s → ScaleOnline s p → (s.port p).sale = .item →
    i = .closeOrder p →
    ∃ t, exec i s = .next t ∧ KeyAnswered s t p { s.port p with held := some .busy }) ∧
  ∀ (s : State) (p : CounterPort), KeyReady s p →
    (∀ o : Order, (s.port p).service = .serving → orderOpenAt s.orders p = some o →
      ((∀ j ∈ s.composer.queue, j.station ≠ p) →
        (∀ c, s.composer.current = some c → c.job.station = p → c.dropped = true) →
        ((∀ l ∈ o.lines, l.voided = true) →
          ∃ t, exec (.closeOrder p) s = .next t ∧ KeyAnswered
            (notify (.orderClosed .empty o.number o.ticket (some p) none none none) { s with
              orders := s.orders.filter fun x => x.number ≠ o.number
              tickets := { s.tickets with
                recs := s.tickets.recs.set o.ticket { state := .free, count := 0, age := 0 } } })
            t p { s.port p with service := .free, held := none }) ∧
        ((∃ l ∈ o.lines, l.voided = false) → s.ret.day.nextSerial + serialJobs s ≤ 999999 →
          let stamp : Stamp := { date := if s.clock.valid then some s.clock.date else none
                                 second := s.clock.second }
          let job : Job :=
            { station := p, source := .summary o.number (s.port p).operator stamp }
          ∃ t, exec (.closeOrder p) s = .next t ∧ KeyAnswered { s with
            orders := s.orders.map fun x =>
              if x.number = o.number then { x with summaryInFlight := true } else x
            composer := { s.composer with queue := s.composer.queue ++ [job] } } t p
            { s.port p with
              sale := .printing
              held := if (s.port p).slots.free = [] then some .printerBusy else none }) ∧
        ((∃ l ∈ o.lines, l.voided = false) → 999999 < s.ret.day.nextSerial + serialJobs s →
          ∃ t, exec (.closeOrder p) s = .next t ∧
            KeyAnswered s t p { s.port p with held := some .serialExhausted })) ∧
      ((∃ j ∈ s.composer.queue, j.station = p) → ∃ t, exec (.closeOrder p) s = .next t ∧
        KeyAnswered s t p { s.port p with held := some .busy })) ∧
    ((s.port p).service ≠ .serving → ∃ t, exec (.closeOrder p) s = .next t ∧
      KeyAnswered s t p { s.port p with held := some .noOrder })
end

