-- ==== Sys2Proof/Laws/State.lean ====
section
/-! SUPPORT. What each shared update of the state leaves unchanged, field by field, and what the ports read
after it. -/

namespace Sys2Proof.Machine

/-! ### State.setPort -/

@[simp] theorem State.setPort_pending (s : State) (p : CounterPort) (c : Port) :
    (s.setPort p c).pending = s.pending := rfl
@[simp] theorem State.setPort_ret (s : State) (p : CounterPort) (c : Port) :
    (s.setPort p c).ret = s.ret := rfl
@[simp] theorem State.setPort_clock (s : State) (p : CounterPort) (c : Port) :
    (s.setPort p c).clock = s.clock := rfl
@[simp] theorem State.setPort_uplink (s : State) (p : CounterPort) (c : Port) :
    (s.setPort p c).uplink = s.uplink := rfl
@[simp] theorem State.setPort_notices (s : State) (p : CounterPort) (c : Port) :
    (s.setPort p c).notices = s.notices := rfl
@[simp] theorem State.setPort_staged (s : State) (p : CounterPort) (c : Port) :
    (s.setPort p c).staged = s.staged := rfl
@[simp] theorem State.setPort_commit (s : State) (p : CounterPort) (c : Port) :
    (s.setPort p c).commit = s.commit := rfl
@[simp] theorem State.setPort_dayState (s : State) (p : CounterPort) (c : Port) :
    (s.setPort p c).dayState = s.dayState := rfl
@[simp] theorem State.setPort_composer (s : State) (p : CounterPort) (c : Port) :
    (s.setPort p c).composer = s.composer := rfl
@[simp] theorem State.setPort_log (s : State) (p : CounterPort) (c : Port) :
    (s.setPort p c).log = s.log := rfl
@[simp] theorem State.setPort_tickets (s : State) (p : CounterPort) (c : Port) :
    (s.setPort p c).tickets = s.tickets := rfl
@[simp] theorem State.setPort_orders (s : State) (p : CounterPort) (c : Port) :
    (s.setPort p c).orders = s.orders := rfl
@[simp] theorem State.setPort_free (s : State) (p : CounterPort) (c : Port) :
    (s.setPort p c).free = s.free := rfl

/-! ### modPort -/

@[simp] theorem modPort_pending (p : CounterPort) (f : Port → Port) (s : State) :
    (modPort p f s).pending = s.pending := rfl
@[simp] theorem modPort_ret (p : CounterPort) (f : Port → Port) (s : State) :
    (modPort p f s).ret = s.ret := rfl
@[simp] theorem modPort_clock (p : CounterPort) (f : Port → Port) (s : State) :
    (modPort p f s).clock = s.clock := rfl
@[simp] theorem modPort_uplink (p : CounterPort) (f : Port → Port) (s : State) :
    (modPort p f s).uplink = s.uplink := rfl
@[simp] theorem modPort_notices (p : CounterPort) (f : Port → Port) (s : State) :
    (modPort p f s).notices = s.notices := rfl
@[simp] theorem modPort_staged (p : CounterPort) (f : Port → Port) (s : State) :
    (modPort p f s).staged = s.staged := rfl
@[simp] theorem modPort_commit (p : CounterPort) (f : Port → Port) (s : State) :
    (modPort p f s).commit = s.commit := rfl
@[simp] theorem modPort_dayState (p : CounterPort) (f : Port → Port) (s : State) :
    (modPort p f s).dayState = s.dayState := rfl
@[simp] theorem modPort_composer (p : CounterPort) (f : Port → Port) (s : State) :
    (modPort p f s).composer = s.composer := rfl
@[simp] theorem modPort_log (p : CounterPort) (f : Port → Port) (s : State) :
    (modPort p f s).log = s.log := rfl
@[simp] theorem modPort_tickets (p : CounterPort) (f : Port → Port) (s : State) :
    (modPort p f s).tickets = s.tickets := rfl
@[simp] theorem modPort_orders (p : CounterPort) (f : Port → Port) (s : State) :
    (modPort p f s).orders = s.orders := rfl
@[simp] theorem modPort_free (p : CounterPort) (f : Port → Port) (s : State) :
    (modPort p f s).free = s.free := rfl

/-! ### modRet -/

@[simp] theorem modRet_pending (f : Retained → Retained) (s : State) :
    (modRet f s).pending = s.pending := rfl
@[simp] theorem modRet_clock (f : Retained → Retained) (s : State) :
    (modRet f s).clock = s.clock := rfl
@[simp] theorem modRet_ports (f : Retained → Retained) (s : State) :
    (modRet f s).ports = s.ports := rfl
@[simp] theorem modRet_uplink (f : Retained → Retained) (s : State) :
    (modRet f s).uplink = s.uplink := rfl
@[simp] theorem modRet_notices (f : Retained → Retained) (s : State) :
    (modRet f s).notices = s.notices := rfl
@[simp] theorem modRet_staged (f : Retained → Retained) (s : State) :
    (modRet f s).staged = s.staged := rfl
@[simp] theorem modRet_commit (f : Retained → Retained) (s : State) :
    (modRet f s).commit = s.commit := rfl
@[simp] theorem modRet_dayState (f : Retained → Retained) (s : State) :
    (modRet f s).dayState = s.dayState := rfl
@[simp] theorem modRet_composer (f : Retained → Retained) (s : State) :
    (modRet f s).composer = s.composer := rfl
@[simp] theorem modRet_log (f : Retained → Retained) (s : State) :
    (modRet f s).log = s.log := rfl
@[simp] theorem modRet_tickets (f : Retained → Retained) (s : State) :
    (modRet f s).tickets = s.tickets := rfl
@[simp] theorem modRet_orders (f : Retained → Retained) (s : State) :
    (modRet f s).orders = s.orders := rfl
@[simp] theorem modRet_free (f : Retained → Retained) (s : State) :
    (modRet f s).free = s.free := rfl

/-! ### deliver -/

@[simp] theorem deliver_pending (p : CounterPort) (f : OutFrame) (s : State) :
    (deliver p f s).pending = s.pending := rfl
@[simp] theorem deliver_ret (p : CounterPort) (f : OutFrame) (s : State) :
    (deliver p f s).ret = s.ret := rfl
@[simp] theorem deliver_clock (p : CounterPort) (f : OutFrame) (s : State) :
    (deliver p f s).clock = s.clock := rfl
@[simp] theorem deliver_uplink (p : CounterPort) (f : OutFrame) (s : State) :
    (deliver p f s).uplink = s.uplink := rfl
@[simp] theorem deliver_notices (p : CounterPort) (f : OutFrame) (s : State) :
    (deliver p f s).notices = s.notices := rfl
@[simp] theorem deliver_staged (p : CounterPort) (f : OutFrame) (s : State) :
    (deliver p f s).staged = s.staged := rfl
@[simp] theorem deliver_commit (p : CounterPort) (f : OutFrame) (s : State) :
    (deliver p f s).commit = s.commit := rfl
@[simp] theorem deliver_dayState (p : CounterPort) (f : OutFrame) (s : State) :
    (deliver p f s).dayState = s.dayState := rfl
@[simp] theorem deliver_composer (p : CounterPort) (f : OutFrame) (s : State) :
    (deliver p f s).composer = s.composer := rfl
@[simp] theorem deliver_log (p : CounterPort) (f : OutFrame) (s : State) :
    (deliver p f s).log = s.log := rfl
@[simp] theorem deliver_tickets (p : CounterPort) (f : OutFrame) (s : State) :
    (deliver p f s).tickets = s.tickets := rfl
@[simp] theorem deliver_orders (p : CounterPort) (f : OutFrame) (s : State) :
    (deliver p f s).orders = s.orders := rfl
@[simp] theorem deliver_free (p : CounterPort) (f : OutFrame) (s : State) :
    (deliver p f s).free = s.free := rfl

/-! ### markDisplay -/

@[simp] theorem markDisplay_pending (p : CounterPort) (s : State) :
    (markDisplay p s).pending = s.pending := rfl
@[simp] theorem markDisplay_ret (p : CounterPort) (s : State) :
    (markDisplay p s).ret = s.ret := rfl
@[simp] theorem markDisplay_clock (p : CounterPort) (s : State) :
    (markDisplay p s).clock = s.clock := rfl
@[simp] theorem markDisplay_uplink (p : CounterPort) (s : State) :
    (markDisplay p s).uplink = s.uplink := rfl
@[simp] theorem markDisplay_notices (p : CounterPort) (s : State) :
    (markDisplay p s).notices = s.notices := rfl
@[simp] theorem markDisplay_staged (p : CounterPort) (s : State) :
    (markDisplay p s).staged = s.staged := rfl
@[simp] theorem markDisplay_commit (p : CounterPort) (s : State) :
    (markDisplay p s).commit = s.commit := rfl
@[simp] theorem markDisplay_dayState (p : CounterPort) (s : State) :
    (markDisplay p s).dayState = s.dayState := rfl
@[simp] theorem markDisplay_composer (p : CounterPort) (s : State) :
    (markDisplay p s).composer = s.composer := rfl
@[simp] theorem markDisplay_log (p : CounterPort) (s : State) :
    (markDisplay p s).log = s.log := rfl
@[simp] theorem markDisplay_tickets (p : CounterPort) (s : State) :
    (markDisplay p s).tickets = s.tickets := rfl
@[simp] theorem markDisplay_orders (p : CounterPort) (s : State) :
    (markDisplay p s).orders = s.orders := rfl
@[simp] theorem markDisplay_free (p : CounterPort) (s : State) :
    (markDisplay p s).free = s.free := rfl

/-! ### markAllDisplays -/

@[simp] theorem markAllDisplays_pending (s : State) :
    (markAllDisplays s).pending = s.pending := rfl
@[simp] theorem markAllDisplays_ret (s : State) :
    (markAllDisplays s).ret = s.ret := rfl
@[simp] theorem markAllDisplays_clock (s : State) :
    (markAllDisplays s).clock = s.clock := rfl
@[simp] theorem markAllDisplays_uplink (s : State) :
    (markAllDisplays s).uplink = s.uplink := rfl
@[simp] theorem markAllDisplays_notices (s : State) :
    (markAllDisplays s).notices = s.notices := rfl
@[simp] theorem markAllDisplays_staged (s : State) :
    (markAllDisplays s).staged = s.staged := rfl
@[simp] theorem markAllDisplays_commit (s : State) :
    (markAllDisplays s).commit = s.commit := rfl
@[simp] theorem markAllDisplays_dayState (s : State) :
    (markAllDisplays s).dayState = s.dayState := rfl
@[simp] theorem markAllDisplays_composer (s : State) :
    (markAllDisplays s).composer = s.composer := rfl
@[simp] theorem markAllDisplays_log (s : State) :
    (markAllDisplays s).log = s.log := rfl
@[simp] theorem markAllDisplays_tickets (s : State) :
    (markAllDisplays s).tickets = s.tickets := rfl
@[simp] theorem markAllDisplays_orders (s : State) :
    (markAllDisplays s).orders = s.orders := rfl
@[simp] theorem markAllDisplays_free (s : State) :
    (markAllDisplays s).free = s.free := rfl

/-! ### flush -/

@[simp] theorem flush_pending (s : State) :
    (flush s).pending = s.pending := rfl
@[simp] theorem flush_ret (s : State) :
    (flush s).ret = s.ret := rfl
@[simp] theorem flush_clock (s : State) :
    (flush s).clock = s.clock := rfl
@[simp] theorem flush_uplink (s : State) :
    (flush s).uplink = s.uplink := rfl
@[simp] theorem flush_notices (s : State) :
    (flush s).notices = s.notices := rfl
@[simp] theorem flush_staged (s : State) :
    (flush s).staged = s.staged := rfl
@[simp] theorem flush_commit (s : State) :
    (flush s).commit = s.commit := rfl
@[simp] theorem flush_dayState (s : State) :
    (flush s).dayState = s.dayState := rfl
@[simp] theorem flush_composer (s : State) :
    (flush s).composer = s.composer := rfl
@[simp] theorem flush_log (s : State) :
    (flush s).log = s.log := rfl
@[simp] theorem flush_tickets (s : State) :
    (flush s).tickets = s.tickets := rfl
@[simp] theorem flush_orders (s : State) :
    (flush s).orders = s.orders := rfl
@[simp] theorem flush_free (s : State) :
    (flush s).free = s.free := rfl

/-! ### protocolError -/

@[simp] theorem protocolError_pending (p : CounterPort) (s : State) :
    (protocolError p s).pending = s.pending := rfl
@[simp] theorem protocolError_ret (p : CounterPort) (s : State) :
    (protocolError p s).ret = s.ret := rfl
@[simp] theorem protocolError_clock (p : CounterPort) (s : State) :
    (protocolError p s).clock = s.clock := rfl
@[simp] theorem protocolError_uplink (p : CounterPort) (s : State) :
    (protocolError p s).uplink = s.uplink := rfl
@[simp] theorem protocolError_notices (p : CounterPort) (s : State) :
    (protocolError p s).notices = s.notices := rfl
@[simp] theorem protocolError_staged (p : CounterPort) (s : State) :
    (protocolError p s).staged = s.staged := rfl
@[simp] theorem protocolError_commit (p : CounterPort) (s : State) :
    (protocolError p s).commit = s.commit := rfl
@[simp] theorem protocolError_dayState (p : CounterPort) (s : State) :
    (protocolError p s).dayState = s.dayState := rfl
@[simp] theorem protocolError_composer (p : CounterPort) (s : State) :
    (protocolError p s).composer = s.composer := rfl
@[simp] theorem protocolError_log (p : CounterPort) (s : State) :
    (protocolError p s).log = s.log := rfl
@[simp] theorem protocolError_tickets (p : CounterPort) (s : State) :
    (protocolError p s).tickets = s.tickets := rfl
@[simp] theorem protocolError_orders (p : CounterPort) (s : State) :
    (protocolError p s).orders = s.orders := rfl
@[simp] theorem protocolError_free (p : CounterPort) (s : State) :
    (protocolError p s).free = s.free := rfl

/-! ### holdMessage -/

@[simp] theorem holdMessage_pending (p : CounterPort) (m : MsgCode) (s : State) :
    (holdMessage p m s).pending = s.pending := rfl
@[simp] theorem holdMessage_ret (p : CounterPort) (m : MsgCode) (s : State) :
    (holdMessage p m s).ret = s.ret := rfl
@[simp] theorem holdMessage_clock (p : CounterPort) (m : MsgCode) (s : State) :
    (holdMessage p m s).clock = s.clock := rfl
@[simp] theorem holdMessage_uplink (p : CounterPort) (m : MsgCode) (s : State) :
    (holdMessage p m s).uplink = s.uplink := rfl
@[simp] theorem holdMessage_notices (p : CounterPort) (m : MsgCode) (s : State) :
    (holdMessage p m s).notices = s.notices := rfl
@[simp] theorem holdMessage_staged (p : CounterPort) (m : MsgCode) (s : State) :
    (holdMessage p m s).staged = s.staged := rfl
@[simp] theorem holdMessage_commit (p : CounterPort) (m : MsgCode) (s : State) :
    (holdMessage p m s).commit = s.commit := rfl
@[simp] theorem holdMessage_dayState (p : CounterPort) (m : MsgCode) (s : State) :
    (holdMessage p m s).dayState = s.dayState := rfl
@[simp] theorem holdMessage_composer (p : CounterPort) (m : MsgCode) (s : State) :
    (holdMessage p m s).composer = s.composer := rfl
@[simp] theorem holdMessage_log (p : CounterPort) (m : MsgCode) (s : State) :
    (holdMessage p m s).log = s.log := rfl
@[simp] theorem holdMessage_tickets (p : CounterPort) (m : MsgCode) (s : State) :
    (holdMessage p m s).tickets = s.tickets := rfl
@[simp] theorem holdMessage_orders (p : CounterPort) (m : MsgCode) (s : State) :
    (holdMessage p m s).orders = s.orders := rfl
@[simp] theorem holdMessage_free (p : CounterPort) (m : MsgCode) (s : State) :
    (holdMessage p m s).free = s.free := rfl

/-! ### refuseKey -/

@[simp] theorem refuseKey_pending (p : CounterPort) (m : MsgCode) (s : State) :
    (refuseKey p m s).pending = s.pending := rfl
@[simp] theorem refuseKey_ret (p : CounterPort) (m : MsgCode) (s : State) :
    (refuseKey p m s).ret = s.ret := rfl
@[simp] theorem refuseKey_clock (p : CounterPort) (m : MsgCode) (s : State) :
    (refuseKey p m s).clock = s.clock := rfl
@[simp] theorem refuseKey_uplink (p : CounterPort) (m : MsgCode) (s : State) :
    (refuseKey p m s).uplink = s.uplink := rfl
@[simp] theorem refuseKey_notices (p : CounterPort) (m : MsgCode) (s : State) :
    (refuseKey p m s).notices = s.notices := rfl
@[simp] theorem refuseKey_staged (p : CounterPort) (m : MsgCode) (s : State) :
    (refuseKey p m s).staged = s.staged := rfl
@[simp] theorem refuseKey_commit (p : CounterPort) (m : MsgCode) (s : State) :
    (refuseKey p m s).commit = s.commit := rfl
@[simp] theorem refuseKey_dayState (p : CounterPort) (m : MsgCode) (s : State) :
    (refuseKey p m s).dayState = s.dayState := rfl
@[simp] theorem refuseKey_composer (p : CounterPort) (m : MsgCode) (s : State) :
    (refuseKey p m s).composer = s.composer := rfl
@[simp] theorem refuseKey_log (p : CounterPort) (m : MsgCode) (s : State) :
    (refuseKey p m s).log = s.log := rfl
@[simp] theorem refuseKey_tickets (p : CounterPort) (m : MsgCode) (s : State) :
    (refuseKey p m s).tickets = s.tickets := rfl
@[simp] theorem refuseKey_orders (p : CounterPort) (m : MsgCode) (s : State) :
    (refuseKey p m s).orders = s.orders := rfl
@[simp] theorem refuseKey_free (p : CounterPort) (m : MsgCode) (s : State) :
    (refuseKey p m s).free = s.free := rfl

/-! ### clearHeld -/

@[simp] theorem clearHeld_pending (p : CounterPort) (s : State) :
    (clearHeld p s).pending = s.pending := rfl
@[simp] theorem clearHeld_ret (p : CounterPort) (s : State) :
    (clearHeld p s).ret = s.ret := rfl
@[simp] theorem clearHeld_clock (p : CounterPort) (s : State) :
    (clearHeld p s).clock = s.clock := rfl
@[simp] theorem clearHeld_uplink (p : CounterPort) (s : State) :
    (clearHeld p s).uplink = s.uplink := rfl
@[simp] theorem clearHeld_notices (p : CounterPort) (s : State) :
    (clearHeld p s).notices = s.notices := rfl
@[simp] theorem clearHeld_staged (p : CounterPort) (s : State) :
    (clearHeld p s).staged = s.staged := rfl
@[simp] theorem clearHeld_commit (p : CounterPort) (s : State) :
    (clearHeld p s).commit = s.commit := rfl
@[simp] theorem clearHeld_dayState (p : CounterPort) (s : State) :
    (clearHeld p s).dayState = s.dayState := rfl
@[simp] theorem clearHeld_composer (p : CounterPort) (s : State) :
    (clearHeld p s).composer = s.composer := rfl
@[simp] theorem clearHeld_log (p : CounterPort) (s : State) :
    (clearHeld p s).log = s.log := rfl
@[simp] theorem clearHeld_tickets (p : CounterPort) (s : State) :
    (clearHeld p s).tickets = s.tickets := rfl
@[simp] theorem clearHeld_orders (p : CounterPort) (s : State) :
    (clearHeld p s).orders = s.orders := rfl
@[simp] theorem clearHeld_free (p : CounterPort) (s : State) :
    (clearHeld p s).free = s.free := rfl

/-! ### setSale -/

@[simp] theorem setSale_pending (p : CounterPort) (v : SaleState) (m : Option MsgCode) (s : State) :
    (setSale p v m s).pending = s.pending := rfl
@[simp] theorem setSale_ret (p : CounterPort) (v : SaleState) (m : Option MsgCode) (s : State) :
    (setSale p v m s).ret = s.ret := rfl
@[simp] theorem setSale_clock (p : CounterPort) (v : SaleState) (m : Option MsgCode) (s : State) :
    (setSale p v m s).clock = s.clock := rfl
@[simp] theorem setSale_uplink (p : CounterPort) (v : SaleState) (m : Option MsgCode) (s : State) :
    (setSale p v m s).uplink = s.uplink := rfl
@[simp] theorem setSale_notices (p : CounterPort) (v : SaleState) (m : Option MsgCode) (s : State) :
    (setSale p v m s).notices = s.notices := rfl
@[simp] theorem setSale_staged (p : CounterPort) (v : SaleState) (m : Option MsgCode) (s : State) :
    (setSale p v m s).staged = s.staged := rfl
@[simp] theorem setSale_commit (p : CounterPort) (v : SaleState) (m : Option MsgCode) (s : State) :
    (setSale p v m s).commit = s.commit := rfl
@[simp] theorem setSale_dayState (p : CounterPort) (v : SaleState) (m : Option MsgCode) (s : State) :
    (setSale p v m s).dayState = s.dayState := rfl
@[simp] theorem setSale_composer (p : CounterPort) (v : SaleState) (m : Option MsgCode) (s : State) :
    (setSale p v m s).composer = s.composer := rfl
@[simp] theorem setSale_log (p : CounterPort) (v : SaleState) (m : Option MsgCode) (s : State) :
    (setSale p v m s).log = s.log := rfl
@[simp] theorem setSale_tickets (p : CounterPort) (v : SaleState) (m : Option MsgCode) (s : State) :
    (setSale p v m s).tickets = s.tickets := rfl
@[simp] theorem setSale_orders (p : CounterPort) (v : SaleState) (m : Option MsgCode) (s : State) :
    (setSale p v m s).orders = s.orders := rfl
@[simp] theorem setSale_free (p : CounterPort) (v : SaleState) (m : Option MsgCode) (s : State) :
    (setSale p v m s).free = s.free := rfl

/-! ### setService -/

@[simp] theorem setService_pending (p : CounterPort) (v : ServiceState) (s : State) :
    (setService p v s).pending = s.pending := rfl
@[simp] theorem setService_ret (p : CounterPort) (v : ServiceState) (s : State) :
    (setService p v s).ret = s.ret := rfl
@[simp] theorem setService_clock (p : CounterPort) (v : ServiceState) (s : State) :
    (setService p v s).clock = s.clock := rfl
@[simp] theorem setService_uplink (p : CounterPort) (v : ServiceState) (s : State) :
    (setService p v s).uplink = s.uplink := rfl
@[simp] theorem setService_notices (p : CounterPort) (v : ServiceState) (s : State) :
    (setService p v s).notices = s.notices := rfl
@[simp] theorem setService_staged (p : CounterPort) (v : ServiceState) (s : State) :
    (setService p v s).staged = s.staged := rfl
@[simp] theorem setService_commit (p : CounterPort) (v : ServiceState) (s : State) :
    (setService p v s).commit = s.commit := rfl
@[simp] theorem setService_dayState (p : CounterPort) (v : ServiceState) (s : State) :
    (setService p v s).dayState = s.dayState := rfl
@[simp] theorem setService_composer (p : CounterPort) (v : ServiceState) (s : State) :
    (setService p v s).composer = s.composer := rfl
@[simp] theorem setService_log (p : CounterPort) (v : ServiceState) (s : State) :
    (setService p v s).log = s.log := rfl
@[simp] theorem setService_tickets (p : CounterPort) (v : ServiceState) (s : State) :
    (setService p v s).tickets = s.tickets := rfl
@[simp] theorem setService_orders (p : CounterPort) (v : ServiceState) (s : State) :
    (setService p v s).orders = s.orders := rfl
@[simp] theorem setService_free (p : CounterPort) (v : ServiceState) (s : State) :
    (setService p v s).free = s.free := rfl

/-! ### reloadSupervision -/

@[simp] theorem reloadSupervision_pending (p : CounterPort) (s : State) :
    (reloadSupervision p s).pending = s.pending := rfl
@[simp] theorem reloadSupervision_ret (p : CounterPort) (s : State) :
    (reloadSupervision p s).ret = s.ret := rfl
@[simp] theorem reloadSupervision_clock (p : CounterPort) (s : State) :
    (reloadSupervision p s).clock = s.clock := rfl
@[simp] theorem reloadSupervision_uplink (p : CounterPort) (s : State) :
    (reloadSupervision p s).uplink = s.uplink := rfl
@[simp] theorem reloadSupervision_notices (p : CounterPort) (s : State) :
    (reloadSupervision p s).notices = s.notices := rfl
@[simp] theorem reloadSupervision_staged (p : CounterPort) (s : State) :
    (reloadSupervision p s).staged = s.staged := rfl
@[simp] theorem reloadSupervision_commit (p : CounterPort) (s : State) :
    (reloadSupervision p s).commit = s.commit := rfl
@[simp] theorem reloadSupervision_dayState (p : CounterPort) (s : State) :
    (reloadSupervision p s).dayState = s.dayState := rfl
@[simp] theorem reloadSupervision_composer (p : CounterPort) (s : State) :
    (reloadSupervision p s).composer = s.composer := rfl
@[simp] theorem reloadSupervision_log (p : CounterPort) (s : State) :
    (reloadSupervision p s).log = s.log := rfl
@[simp] theorem reloadSupervision_tickets (p : CounterPort) (s : State) :
    (reloadSupervision p s).tickets = s.tickets := rfl
@[simp] theorem reloadSupervision_orders (p : CounterPort) (s : State) :
    (reloadSupervision p s).orders = s.orders := rfl
@[simp] theorem reloadSupervision_free (p : CounterPort) (s : State) :
    (reloadSupervision p s).free = s.free := rfl

/-! ### handResult -/

@[simp] theorem handResult_pending (p : CounterPort) (w : WeighCtx) (r : WeightResult) (s : State) :
    (handResult p w r s).pending = s.pending := rfl
@[simp] theorem handResult_ret (p : CounterPort) (w : WeighCtx) (r : WeightResult) (s : State) :
    (handResult p w r s).ret = s.ret := rfl
@[simp] theorem handResult_clock (p : CounterPort) (w : WeighCtx) (r : WeightResult) (s : State) :
    (handResult p w r s).clock = s.clock := rfl
@[simp] theorem handResult_uplink (p : CounterPort) (w : WeighCtx) (r : WeightResult) (s : State) :
    (handResult p w r s).uplink = s.uplink := rfl
@[simp] theorem handResult_notices (p : CounterPort) (w : WeighCtx) (r : WeightResult) (s : State) :
    (handResult p w r s).notices = s.notices := rfl
@[simp] theorem handResult_staged (p : CounterPort) (w : WeighCtx) (r : WeightResult) (s : State) :
    (handResult p w r s).staged = s.staged := rfl
@[simp] theorem handResult_commit (p : CounterPort) (w : WeighCtx) (r : WeightResult) (s : State) :
    (handResult p w r s).commit = s.commit := rfl
@[simp] theorem handResult_dayState (p : CounterPort) (w : WeighCtx) (r : WeightResult) (s : State) :
    (handResult p w r s).dayState = s.dayState := rfl
@[simp] theorem handResult_composer (p : CounterPort) (w : WeighCtx) (r : WeightResult) (s : State) :
    (handResult p w r s).composer = s.composer := rfl
@[simp] theorem handResult_log (p : CounterPort) (w : WeighCtx) (r : WeightResult) (s : State) :
    (handResult p w r s).log = s.log := rfl
@[simp] theorem handResult_tickets (p : CounterPort) (w : WeighCtx) (r : WeightResult) (s : State) :
    (handResult p w r s).tickets = s.tickets := rfl
@[simp] theorem handResult_orders (p : CounterPort) (w : WeighCtx) (r : WeightResult) (s : State) :
    (handResult p w r s).orders = s.orders := rfl
@[simp] theorem handResult_free (p : CounterPort) (w : WeighCtx) (r : WeightResult) (s : State) :
    (handResult p w r s).free = s.free := rfl

/-! ### reprice -/

@[simp] theorem reprice_pending (p : CounterPort) (s : State) :
    (reprice p s).pending = s.pending := rfl
@[simp] theorem reprice_ret (p : CounterPort) (s : State) :
    (reprice p s).ret = s.ret := rfl
@[simp] theorem reprice_clock (p : CounterPort) (s : State) :
    (reprice p s).clock = s.clock := rfl
@[simp] theorem reprice_uplink (p : CounterPort) (s : State) :
    (reprice p s).uplink = s.uplink := rfl
@[simp] theorem reprice_notices (p : CounterPort) (s : State) :
    (reprice p s).notices = s.notices := rfl
@[simp] theorem reprice_staged (p : CounterPort) (s : State) :
    (reprice p s).staged = s.staged := rfl
@[simp] theorem reprice_commit (p : CounterPort) (s : State) :
    (reprice p s).commit = s.commit := rfl
@[simp] theorem reprice_dayState (p : CounterPort) (s : State) :
    (reprice p s).dayState = s.dayState := rfl
@[simp] theorem reprice_composer (p : CounterPort) (s : State) :
    (reprice p s).composer = s.composer := rfl
@[simp] theorem reprice_log (p : CounterPort) (s : State) :
    (reprice p s).log = s.log := rfl
@[simp] theorem reprice_tickets (p : CounterPort) (s : State) :
    (reprice p s).tickets = s.tickets := rfl
@[simp] theorem reprice_orders (p : CounterPort) (s : State) :
    (reprice p s).orders = s.orders := rfl
@[simp] theorem reprice_free (p : CounterPort) (s : State) :
    (reprice p s).free = s.free := rfl

/-! ### setTicket -/

@[simp] theorem setTicket_pending (t : TicketNo) (r : TicketRec) (s : State) :
    (setTicket t r s).pending = s.pending := rfl
@[simp] theorem setTicket_ret (t : TicketNo) (r : TicketRec) (s : State) :
    (setTicket t r s).ret = s.ret := rfl
@[simp] theorem setTicket_clock (t : TicketNo) (r : TicketRec) (s : State) :
    (setTicket t r s).clock = s.clock := rfl
@[simp] theorem setTicket_ports (t : TicketNo) (r : TicketRec) (s : State) :
    (setTicket t r s).ports = s.ports := rfl
@[simp] theorem setTicket_uplink (t : TicketNo) (r : TicketRec) (s : State) :
    (setTicket t r s).uplink = s.uplink := rfl
@[simp] theorem setTicket_notices (t : TicketNo) (r : TicketRec) (s : State) :
    (setTicket t r s).notices = s.notices := rfl
@[simp] theorem setTicket_staged (t : TicketNo) (r : TicketRec) (s : State) :
    (setTicket t r s).staged = s.staged := rfl
@[simp] theorem setTicket_commit (t : TicketNo) (r : TicketRec) (s : State) :
    (setTicket t r s).commit = s.commit := rfl
@[simp] theorem setTicket_dayState (t : TicketNo) (r : TicketRec) (s : State) :
    (setTicket t r s).dayState = s.dayState := rfl
@[simp] theorem setTicket_composer (t : TicketNo) (r : TicketRec) (s : State) :
    (setTicket t r s).composer = s.composer := rfl
@[simp] theorem setTicket_log (t : TicketNo) (r : TicketRec) (s : State) :
    (setTicket t r s).log = s.log := rfl
@[simp] theorem setTicket_orders (t : TicketNo) (r : TicketRec) (s : State) :
    (setTicket t r s).orders = s.orders := rfl
@[simp] theorem setTicket_free (t : TicketNo) (r : TicketRec) (s : State) :
    (setTicket t r s).free = s.free := rfl

/-! ### freeTicket -/

@[simp] theorem freeTicket_pending (t : TicketNo) (s : State) :
    (freeTicket t s).pending = s.pending := rfl
@[simp] theorem freeTicket_ret (t : TicketNo) (s : State) :
    (freeTicket t s).ret = s.ret := rfl
@[simp] theorem freeTicket_clock (t : TicketNo) (s : State) :
    (freeTicket t s).clock = s.clock := rfl
@[simp] theorem freeTicket_ports (t : TicketNo) (s : State) :
    (freeTicket t s).ports = s.ports := rfl
@[simp] theorem freeTicket_uplink (t : TicketNo) (s : State) :
    (freeTicket t s).uplink = s.uplink := rfl
@[simp] theorem freeTicket_notices (t : TicketNo) (s : State) :
    (freeTicket t s).notices = s.notices := rfl
@[simp] theorem freeTicket_staged (t : TicketNo) (s : State) :
    (freeTicket t s).staged = s.staged := rfl
@[simp] theorem freeTicket_commit (t : TicketNo) (s : State) :
    (freeTicket t s).commit = s.commit := rfl
@[simp] theorem freeTicket_dayState (t : TicketNo) (s : State) :
    (freeTicket t s).dayState = s.dayState := rfl
@[simp] theorem freeTicket_composer (t : TicketNo) (s : State) :
    (freeTicket t s).composer = s.composer := rfl
@[simp] theorem freeTicket_log (t : TicketNo) (s : State) :
    (freeTicket t s).log = s.log := rfl
@[simp] theorem freeTicket_orders (t : TicketNo) (s : State) :
    (freeTicket t s).orders = s.orders := rfl
@[simp] theorem freeTicket_free (t : TicketNo) (s : State) :
    (freeTicket t s).free = s.free := rfl

/-! ### showCall -/

@[simp] theorem showCall_pending (t : TicketNo) (p : CounterPort) (n : Nat) (s : State) :
    (showCall t p n s).pending = s.pending := rfl
@[simp] theorem showCall_ret (t : TicketNo) (p : CounterPort) (n : Nat) (s : State) :
    (showCall t p n s).ret = s.ret := rfl
@[simp] theorem showCall_clock (t : TicketNo) (p : CounterPort) (n : Nat) (s : State) :
    (showCall t p n s).clock = s.clock := rfl
@[simp] theorem showCall_uplink (t : TicketNo) (p : CounterPort) (n : Nat) (s : State) :
    (showCall t p n s).uplink = s.uplink := rfl
@[simp] theorem showCall_notices (t : TicketNo) (p : CounterPort) (n : Nat) (s : State) :
    (showCall t p n s).notices = s.notices := rfl
@[simp] theorem showCall_staged (t : TicketNo) (p : CounterPort) (n : Nat) (s : State) :
    (showCall t p n s).staged = s.staged := rfl
@[simp] theorem showCall_commit (t : TicketNo) (p : CounterPort) (n : Nat) (s : State) :
    (showCall t p n s).commit = s.commit := rfl
@[simp] theorem showCall_dayState (t : TicketNo) (p : CounterPort) (n : Nat) (s : State) :
    (showCall t p n s).dayState = s.dayState := rfl
@[simp] theorem showCall_composer (t : TicketNo) (p : CounterPort) (n : Nat) (s : State) :
    (showCall t p n s).composer = s.composer := rfl
@[simp] theorem showCall_log (t : TicketNo) (p : CounterPort) (n : Nat) (s : State) :
    (showCall t p n s).log = s.log := rfl
@[simp] theorem showCall_tickets (t : TicketNo) (p : CounterPort) (n : Nat) (s : State) :
    (showCall t p n s).tickets = s.tickets := rfl
@[simp] theorem showCall_orders (t : TicketNo) (p : CounterPort) (n : Nat) (s : State) :
    (showCall t p n s).orders = s.orders := rfl
@[simp] theorem showCall_free (t : TicketNo) (p : CounterPort) (n : Nat) (s : State) :
    (showCall t p n s).free = s.free := rfl

/-! ### modOrder -/

@[simp] theorem modOrder_pending (n : Nat) (f : Order → Order) (s : State) :
    (modOrder n f s).pending = s.pending := rfl
@[simp] theorem modOrder_ret (n : Nat) (f : Order → Order) (s : State) :
    (modOrder n f s).ret = s.ret := rfl
@[simp] theorem modOrder_clock (n : Nat) (f : Order → Order) (s : State) :
    (modOrder n f s).clock = s.clock := rfl
@[simp] theorem modOrder_ports (n : Nat) (f : Order → Order) (s : State) :
    (modOrder n f s).ports = s.ports := rfl
@[simp] theorem modOrder_uplink (n : Nat) (f : Order → Order) (s : State) :
    (modOrder n f s).uplink = s.uplink := rfl
@[simp] theorem modOrder_notices (n : Nat) (f : Order → Order) (s : State) :
    (modOrder n f s).notices = s.notices := rfl
@[simp] theorem modOrder_staged (n : Nat) (f : Order → Order) (s : State) :
    (modOrder n f s).staged = s.staged := rfl
@[simp] theorem modOrder_commit (n : Nat) (f : Order → Order) (s : State) :
    (modOrder n f s).commit = s.commit := rfl
@[simp] theorem modOrder_dayState (n : Nat) (f : Order → Order) (s : State) :
    (modOrder n f s).dayState = s.dayState := rfl
@[simp] theorem modOrder_composer (n : Nat) (f : Order → Order) (s : State) :
    (modOrder n f s).composer = s.composer := rfl
@[simp] theorem modOrder_log (n : Nat) (f : Order → Order) (s : State) :
    (modOrder n f s).log = s.log := rfl
@[simp] theorem modOrder_tickets (n : Nat) (f : Order → Order) (s : State) :
    (modOrder n f s).tickets = s.tickets := rfl
@[simp] theorem modOrder_free (n : Nat) (f : Order → Order) (s : State) :
    (modOrder n f s).free = s.free := rfl

/-! ### freeOrder -/

@[simp] theorem freeOrder_pending (o : Order) (s : State) :
    (freeOrder o s).pending = s.pending := rfl
@[simp] theorem freeOrder_ret (o : Order) (s : State) :
    (freeOrder o s).ret = s.ret := rfl
@[simp] theorem freeOrder_clock (o : Order) (s : State) :
    (freeOrder o s).clock = s.clock := rfl
@[simp] theorem freeOrder_ports (o : Order) (s : State) :
    (freeOrder o s).ports = s.ports := rfl
@[simp] theorem freeOrder_uplink (o : Order) (s : State) :
    (freeOrder o s).uplink = s.uplink := rfl
@[simp] theorem freeOrder_notices (o : Order) (s : State) :
    (freeOrder o s).notices = s.notices := rfl
@[simp] theorem freeOrder_staged (o : Order) (s : State) :
    (freeOrder o s).staged = s.staged := rfl
@[simp] theorem freeOrder_commit (o : Order) (s : State) :
    (freeOrder o s).commit = s.commit := rfl
@[simp] theorem freeOrder_dayState (o : Order) (s : State) :
    (freeOrder o s).dayState = s.dayState := rfl
@[simp] theorem freeOrder_composer (o : Order) (s : State) :
    (freeOrder o s).composer = s.composer := rfl
@[simp] theorem freeOrder_log (o : Order) (s : State) :
    (freeOrder o s).log = s.log := rfl
@[simp] theorem freeOrder_free (o : Order) (s : State) :
    (freeOrder o s).free = s.free := rfl

/-! ### modLog -/

@[simp] theorem modLog_pending (n : Nat) (f : LogEntry → LogEntry) (s : State) :
    (modLog n f s).pending = s.pending := rfl
@[simp] theorem modLog_ret (n : Nat) (f : LogEntry → LogEntry) (s : State) :
    (modLog n f s).ret = s.ret := rfl
@[simp] theorem modLog_clock (n : Nat) (f : LogEntry → LogEntry) (s : State) :
    (modLog n f s).clock = s.clock := rfl
@[simp] theorem modLog_ports (n : Nat) (f : LogEntry → LogEntry) (s : State) :
    (modLog n f s).ports = s.ports := rfl
@[simp] theorem modLog_uplink (n : Nat) (f : LogEntry → LogEntry) (s : State) :
    (modLog n f s).uplink = s.uplink := rfl
@[simp] theorem modLog_notices (n : Nat) (f : LogEntry → LogEntry) (s : State) :
    (modLog n f s).notices = s.notices := rfl
@[simp] theorem modLog_staged (n : Nat) (f : LogEntry → LogEntry) (s : State) :
    (modLog n f s).staged = s.staged := rfl
@[simp] theorem modLog_commit (n : Nat) (f : LogEntry → LogEntry) (s : State) :
    (modLog n f s).commit = s.commit := rfl
@[simp] theorem modLog_dayState (n : Nat) (f : LogEntry → LogEntry) (s : State) :
    (modLog n f s).dayState = s.dayState := rfl
@[simp] theorem modLog_composer (n : Nat) (f : LogEntry → LogEntry) (s : State) :
    (modLog n f s).composer = s.composer := rfl
@[simp] theorem modLog_tickets (n : Nat) (f : LogEntry → LogEntry) (s : State) :
    (modLog n f s).tickets = s.tickets := rfl
@[simp] theorem modLog_orders (n : Nat) (f : LogEntry → LogEntry) (s : State) :
    (modLog n f s).orders = s.orders := rfl
@[simp] theorem modLog_free (n : Nat) (f : LogEntry → LogEntry) (s : State) :
    (modLog n f s).free = s.free := rfl

/-! ### offlineContext -/

@[simp] theorem offlineContext_pending (p : CounterPort) (s : State) :
    (offlineContext p s).pending = s.pending := rfl
@[simp] theorem offlineContext_ret (p : CounterPort) (s : State) :
    (offlineContext p s).ret = s.ret := rfl
@[simp] theorem offlineContext_clock (p : CounterPort) (s : State) :
    (offlineContext p s).clock = s.clock := rfl
@[simp] theorem offlineContext_uplink (p : CounterPort) (s : State) :
    (offlineContext p s).uplink = s.uplink := rfl
@[simp] theorem offlineContext_notices (p : CounterPort) (s : State) :
    (offlineContext p s).notices = s.notices := rfl
@[simp] theorem offlineContext_staged (p : CounterPort) (s : State) :
    (offlineContext p s).staged = s.staged := rfl
@[simp] theorem offlineContext_commit (p : CounterPort) (s : State) :
    (offlineContext p s).commit = s.commit := rfl
@[simp] theorem offlineContext_dayState (p : CounterPort) (s : State) :
    (offlineContext p s).dayState = s.dayState := rfl
@[simp] theorem offlineContext_composer (p : CounterPort) (s : State) :
    (offlineContext p s).composer = s.composer := rfl
@[simp] theorem offlineContext_log (p : CounterPort) (s : State) :
    (offlineContext p s).log = s.log := rfl
@[simp] theorem offlineContext_tickets (p : CounterPort) (s : State) :
    (offlineContext p s).tickets = s.tickets := rfl
@[simp] theorem offlineContext_orders (p : CounterPort) (s : State) :
    (offlineContext p s).orders = s.orders := rfl
@[simp] theorem offlineContext_free (p : CounterPort) (s : State) :
    (offlineContext p s).free = s.free := rfl

/-! ### offlineLink -/

@[simp] theorem offlineLink_pending (p : CounterPort) (s : State) :
    (offlineLink p s).pending = s.pending := rfl
@[simp] theorem offlineLink_ret (p : CounterPort) (s : State) :
    (offlineLink p s).ret = s.ret := rfl
@[simp] theorem offlineLink_clock (p : CounterPort) (s : State) :
    (offlineLink p s).clock = s.clock := rfl
@[simp] theorem offlineLink_uplink (p : CounterPort) (s : State) :
    (offlineLink p s).uplink = s.uplink := rfl
@[simp] theorem offlineLink_notices (p : CounterPort) (s : State) :
    (offlineLink p s).notices = s.notices := rfl
@[simp] theorem offlineLink_staged (p : CounterPort) (s : State) :
    (offlineLink p s).staged = s.staged := rfl
@[simp] theorem offlineLink_commit (p : CounterPort) (s : State) :
    (offlineLink p s).commit = s.commit := rfl
@[simp] theorem offlineLink_dayState (p : CounterPort) (s : State) :
    (offlineLink p s).dayState = s.dayState := rfl
@[simp] theorem offlineLink_composer (p : CounterPort) (s : State) :
    (offlineLink p s).composer = s.composer := rfl
@[simp] theorem offlineLink_log (p : CounterPort) (s : State) :
    (offlineLink p s).log = s.log := rfl
@[simp] theorem offlineLink_tickets (p : CounterPort) (s : State) :
    (offlineLink p s).tickets = s.tickets := rfl
@[simp] theorem offlineLink_orders (p : CounterPort) (s : State) :
    (offlineLink p s).orders = s.orders := rfl
@[simp] theorem offlineLink_free (p : CounterPort) (s : State) :
    (offlineLink p s).free = s.free := rfl

/-! ### offlineOrder -/

@[simp] theorem offlineOrder_pending (p : CounterPort) (s : State) :
    (offlineOrder p s).pending = s.pending := rfl
@[simp] theorem offlineOrder_ret (p : CounterPort) (s : State) :
    (offlineOrder p s).ret = s.ret := rfl
@[simp] theorem offlineOrder_clock (p : CounterPort) (s : State) :
    (offlineOrder p s).clock = s.clock := rfl
@[simp] theorem offlineOrder_ports (p : CounterPort) (s : State) :
    (offlineOrder p s).ports = s.ports := rfl
@[simp] theorem offlineOrder_uplink (p : CounterPort) (s : State) :
    (offlineOrder p s).uplink = s.uplink := rfl
@[simp] theorem offlineOrder_notices (p : CounterPort) (s : State) :
    (offlineOrder p s).notices = s.notices := rfl
@[simp] theorem offlineOrder_staged (p : CounterPort) (s : State) :
    (offlineOrder p s).staged = s.staged := rfl
@[simp] theorem offlineOrder_commit (p : CounterPort) (s : State) :
    (offlineOrder p s).commit = s.commit := rfl
@[simp] theorem offlineOrder_dayState (p : CounterPort) (s : State) :
    (offlineOrder p s).dayState = s.dayState := rfl
@[simp] theorem offlineOrder_composer (p : CounterPort) (s : State) :
    (offlineOrder p s).composer = s.composer := rfl
@[simp] theorem offlineOrder_log (p : CounterPort) (s : State) :
    (offlineOrder p s).log = s.log := rfl
@[simp] theorem offlineOrder_tickets (p : CounterPort) (s : State) :
    (offlineOrder p s).tickets = s.tickets := rfl
@[simp] theorem offlineOrder_free (p : CounterPort) (s : State) :
    (offlineOrder p s).free = s.free := rfl

/-! ### offlineComposer -/

@[simp] theorem offlineComposer_pending (p : CounterPort) (s : State) :
    (offlineComposer p s).pending = s.pending := rfl
@[simp] theorem offlineComposer_ret (p : CounterPort) (s : State) :
    (offlineComposer p s).ret = s.ret := rfl
@[simp] theorem offlineComposer_clock (p : CounterPort) (s : State) :
    (offlineComposer p s).clock = s.clock := rfl
@[simp] theorem offlineComposer_ports (p : CounterPort) (s : State) :
    (offlineComposer p s).ports = s.ports := rfl
@[simp] theorem offlineComposer_uplink (p : CounterPort) (s : State) :
    (offlineComposer p s).uplink = s.uplink := rfl
@[simp] theorem offlineComposer_notices (p : CounterPort) (s : State) :
    (offlineComposer p s).notices = s.notices := rfl
@[simp] theorem offlineComposer_staged (p : CounterPort) (s : State) :
    (offlineComposer p s).staged = s.staged := rfl
@[simp] theorem offlineComposer_commit (p : CounterPort) (s : State) :
    (offlineComposer p s).commit = s.commit := rfl
@[simp] theorem offlineComposer_dayState (p : CounterPort) (s : State) :
    (offlineComposer p s).dayState = s.dayState := rfl
@[simp] theorem offlineComposer_log (p : CounterPort) (s : State) :
    (offlineComposer p s).log = s.log := rfl
@[simp] theorem offlineComposer_tickets (p : CounterPort) (s : State) :
    (offlineComposer p s).tickets = s.tickets := rfl
@[simp] theorem offlineComposer_orders (p : CounterPort) (s : State) :
    (offlineComposer p s).orders = s.orders := rfl
@[simp] theorem offlineComposer_free (p : CounterPort) (s : State) :
    (offlineComposer p s).free = s.free := rfl

/-! ### reply -/

@[simp] theorem reply_pending (tag : Nat) (c : ResultCode) (d : ReplyData) (s : State) :
    (reply tag c d s).pending = s.pending := rfl
@[simp] theorem reply_ret (tag : Nat) (c : ResultCode) (d : ReplyData) (s : State) :
    (reply tag c d s).ret = s.ret := rfl
@[simp] theorem reply_clock (tag : Nat) (c : ResultCode) (d : ReplyData) (s : State) :
    (reply tag c d s).clock = s.clock := rfl
@[simp] theorem reply_ports (tag : Nat) (c : ResultCode) (d : ReplyData) (s : State) :
    (reply tag c d s).ports = s.ports := rfl
@[simp] theorem reply_notices (tag : Nat) (c : ResultCode) (d : ReplyData) (s : State) :
    (reply tag c d s).notices = s.notices := rfl
@[simp] theorem reply_staged (tag : Nat) (c : ResultCode) (d : ReplyData) (s : State) :
    (reply tag c d s).staged = s.staged := rfl
@[simp] theorem reply_commit (tag : Nat) (c : ResultCode) (d : ReplyData) (s : State) :
    (reply tag c d s).commit = s.commit := rfl
@[simp] theorem reply_dayState (tag : Nat) (c : ResultCode) (d : ReplyData) (s : State) :
    (reply tag c d s).dayState = s.dayState := rfl
@[simp] theorem reply_composer (tag : Nat) (c : ResultCode) (d : ReplyData) (s : State) :
    (reply tag c d s).composer = s.composer := rfl
@[simp] theorem reply_log (tag : Nat) (c : ResultCode) (d : ReplyData) (s : State) :
    (reply tag c d s).log = s.log := rfl
@[simp] theorem reply_tickets (tag : Nat) (c : ResultCode) (d : ReplyData) (s : State) :
    (reply tag c d s).tickets = s.tickets := rfl
@[simp] theorem reply_orders (tag : Nat) (c : ResultCode) (d : ReplyData) (s : State) :
    (reply tag c d s).orders = s.orders := rfl
@[simp] theorem reply_free (tag : Nat) (c : ResultCode) (d : ReplyData) (s : State) :
    (reply tag c d s).free = s.free := rfl

/-! ### refuseRequest -/

@[simp] theorem refuseRequest_pending (tag : Nat) (c : ResultCode) (s : State) :
    (refuseRequest tag c s).pending = s.pending := rfl
@[simp] theorem refuseRequest_ret (tag : Nat) (c : ResultCode) (s : State) :
    (refuseRequest tag c s).ret = s.ret := rfl
@[simp] theorem refuseRequest_clock (tag : Nat) (c : ResultCode) (s : State) :
    (refuseRequest tag c s).clock = s.clock := rfl
@[simp] theorem refuseRequest_ports (tag : Nat) (c : ResultCode) (s : State) :
    (refuseRequest tag c s).ports = s.ports := rfl
@[simp] theorem refuseRequest_notices (tag : Nat) (c : ResultCode) (s : State) :
    (refuseRequest tag c s).notices = s.notices := rfl
@[simp] theorem refuseRequest_staged (tag : Nat) (c : ResultCode) (s : State) :
    (refuseRequest tag c s).staged = s.staged := rfl
@[simp] theorem refuseRequest_commit (tag : Nat) (c : ResultCode) (s : State) :
    (refuseRequest tag c s).commit = s.commit := rfl
@[simp] theorem refuseRequest_dayState (tag : Nat) (c : ResultCode) (s : State) :
    (refuseRequest tag c s).dayState = s.dayState := rfl
@[simp] theorem refuseRequest_composer (tag : Nat) (c : ResultCode) (s : State) :
    (refuseRequest tag c s).composer = s.composer := rfl
@[simp] theorem refuseRequest_log (tag : Nat) (c : ResultCode) (s : State) :
    (refuseRequest tag c s).log = s.log := rfl
@[simp] theorem refuseRequest_tickets (tag : Nat) (c : ResultCode) (s : State) :
    (refuseRequest tag c s).tickets = s.tickets := rfl
@[simp] theorem refuseRequest_orders (tag : Nat) (c : ResultCode) (s : State) :
    (refuseRequest tag c s).orders = s.orders := rfl
@[simp] theorem refuseRequest_free (tag : Nat) (c : ResultCode) (s : State) :
    (refuseRequest tag c s).free = s.free := rfl

/-! ### badFrame -/

@[simp] theorem badFrame_pending (tag : Nat) (s : State) :
    (badFrame tag s).pending = s.pending := rfl
@[simp] theorem badFrame_ret (tag : Nat) (s : State) :
    (badFrame tag s).ret = s.ret := rfl
@[simp] theorem badFrame_clock (tag : Nat) (s : State) :
    (badFrame tag s).clock = s.clock := rfl
@[simp] theorem badFrame_ports (tag : Nat) (s : State) :
    (badFrame tag s).ports = s.ports := rfl
@[simp] theorem badFrame_notices (tag : Nat) (s : State) :
    (badFrame tag s).notices = s.notices := rfl
@[simp] theorem badFrame_staged (tag : Nat) (s : State) :
    (badFrame tag s).staged = s.staged := rfl
@[simp] theorem badFrame_commit (tag : Nat) (s : State) :
    (badFrame tag s).commit = s.commit := rfl
@[simp] theorem badFrame_dayState (tag : Nat) (s : State) :
    (badFrame tag s).dayState = s.dayState := rfl
@[simp] theorem badFrame_composer (tag : Nat) (s : State) :
    (badFrame tag s).composer = s.composer := rfl
@[simp] theorem badFrame_log (tag : Nat) (s : State) :
    (badFrame tag s).log = s.log := rfl
@[simp] theorem badFrame_tickets (tag : Nat) (s : State) :
    (badFrame tag s).tickets = s.tickets := rfl
@[simp] theorem badFrame_orders (tag : Nat) (s : State) :
    (badFrame tag s).orders = s.orders := rfl
@[simp] theorem badFrame_free (tag : Nat) (s : State) :
    (badFrame tag s).free = s.free := rfl

/-! ### notify -/

@[simp] theorem notify_pending (b : NoticeBody) (s : State) : (notify b s).pending = s.pending := by
  unfold notify; split <;> rfl
@[simp] theorem notify_ret (b : NoticeBody) (s : State) : (notify b s).ret = s.ret := by
  unfold notify; split <;> rfl
@[simp] theorem notify_clock (b : NoticeBody) (s : State) : (notify b s).clock = s.clock := by
  unfold notify; split <;> rfl
@[simp] theorem notify_ports (b : NoticeBody) (s : State) : (notify b s).ports = s.ports := by
  unfold notify; split <;> rfl
@[simp] theorem notify_uplink (b : NoticeBody) (s : State) : (notify b s).uplink = s.uplink := by
  unfold notify; split <;> rfl
@[simp] theorem notify_staged (b : NoticeBody) (s : State) : (notify b s).staged = s.staged := by
  unfold notify; split <;> rfl
@[simp] theorem notify_commit (b : NoticeBody) (s : State) : (notify b s).commit = s.commit := by
  unfold notify; split <;> rfl
@[simp] theorem notify_dayState (b : NoticeBody) (s : State) : (notify b s).dayState = s.dayState := by
  unfold notify; split <;> rfl
@[simp] theorem notify_composer (b : NoticeBody) (s : State) : (notify b s).composer = s.composer := by
  unfold notify; split <;> rfl
@[simp] theorem notify_log (b : NoticeBody) (s : State) : (notify b s).log = s.log := by
  unfold notify; split <;> rfl
@[simp] theorem notify_tickets (b : NoticeBody) (s : State) : (notify b s).tickets = s.tickets := by
  unfold notify; split <;> rfl
@[simp] theorem notify_orders (b : NoticeBody) (s : State) : (notify b s).orders = s.orders := by
  unfold notify; split <;> rfl
@[simp] theorem notify_free (b : NoticeBody) (s : State) : (notify b s).free = s.free := by
  unfold notify; split <;> rfl

/-! ### What a port reads -/

@[simp] theorem State.port_setPort_self (s : State) (p : CounterPort) (c : Port) :
    (s.setPort p c).port p = c := by simp [State.port, State.setPort]

theorem State.port_setPort_ne (s : State) {p q : CounterPort} (c : Port) (h : q ≠ p) :
    (s.setPort p c).port q = s.port q := by
  have h' : (p : Nat) ≠ (q : Nat) := fun e => h (Fin.ext e.symm)
  simp [State.port, State.setPort, h']

theorem State.port_setPort (s : State) (p q : CounterPort) (c : Port) :
    (s.setPort p c).port q = if q = p then c else s.port q := by
  by_cases h : q = p
  · subst h; simp
  · simp [h, State.port_setPort_ne]

@[simp] theorem modPort_port_self (p : CounterPort) (f : Port → Port) (s : State) :
    (modPort p f s).port p = f (s.port p) := by simp [modPort]

theorem modPort_port_ne {p q : CounterPort} (f : Port → Port) (s : State) (h : q ≠ p) :
    (modPort p f s).port q = s.port q := by simp [modPort, State.port_setPort_ne, h]

theorem modPort_port (p q : CounterPort) (f : Port → Port) (s : State) :
    (modPort p f s).port q = if q = p then f (s.port p) else s.port q := by
  simp [modPort, State.port_setPort]

theorem State.port_of_ports (s t : State) (p : CounterPort) (h : s.ports = t.ports) :
    s.port p = t.port p := by simp [State.port, h]

@[simp] theorem flush_port (s : State) (p : CounterPort) : (flush s).port p = flushPort s p := by
  simp [flush, State.port]

@[simp] theorem markAllDisplays_port (s : State) (p : CounterPort) :
    (markAllDisplays s).port p = { s.port p with displayDue := true } := by
  simp [markAllDisplays, State.port]

@[simp] theorem modRet_port (f : Retained → Retained) (s : State) (p : CounterPort) :
    (modRet f s).port p = s.port p := rfl

@[simp] theorem notify_port (b : NoticeBody) (s : State) (p : CounterPort) :
    (notify b s).port p = s.port p := by simp [State.port]

@[simp] theorem reply_port (tag : Nat) (c : ResultCode) (d : ReplyData) (s : State) (p : CounterPort) :
    (reply tag c d s).port p = s.port p := rfl

@[simp] theorem setTicket_port (t : TicketNo) (r : TicketRec) (s : State) (p : CounterPort) :
    (setTicket t r s).port p = s.port p := rfl

@[simp] theorem modOrder_port (n : Nat) (f : Order → Order) (s : State) (p : CounterPort) :
    (modOrder n f s).port p = s.port p := rfl

@[simp] theorem freeOrder_port (o : Order) (s : State) (p : CounterPort) :
    (freeOrder o s).port p = s.port p := rfl

@[simp] theorem modLog_port (n : Nat) (f : LogEntry → LogEntry) (s : State) (p : CounterPort) :
    (modLog n f s).port p = s.port p := rfl

/-! ### Tickets -/

@[simp] theorem setTicket_ticket_self (t : TicketNo) (r : TicketRec) (s : State) :
    (setTicket t r s).ticket t = r := by simp [setTicket, State.ticket]

theorem setTicket_ticket_ne {t u : TicketNo} (r : TicketRec) (s : State) (h : u ≠ t) :
    (setTicket t r s).ticket u = s.ticket u := by
  have h' : (t : Nat) ≠ (u : Nat) := fun e => h (Fin.ext e.symm)
  simp [setTicket, State.ticket, h']

/-! ### Equality of states -/

/-- Two states with the same ports at every number and the same other fields are equal. -/
theorem State.ext_ports (s t : State) (h : ∀ p, s.port p = t.port p)
    (r : { s with ports := t.ports } = t) : s = t := by
  have e : s.ports = t.ports := by
    apply Vector.ext
    intro i hi
    exact h ⟨i, hi⟩
  rw [← r, ← e]

end Sys2Proof.Machine
end

