-- ==== Sys2Proof/Laws/Ops.lean ====
section
/-! SUPPORT. What each shared operation of Machine/Ops.lean can do, said once: frames sent, the key gate,
requests, notices, tickets, orders and the end of an event. -/

namespace Sys2Proof.Machine

/-! ### The end of an event -/

theorem flushPort_of_due_false (s : State) (p : CounterPort) (h : (s.port p).displayDue = false) :
    flushPort s p = s.port p := by simp [flushPort, h]

theorem flushPort_displayDue (s : State) (p : CounterPort) : (flushPort s p).displayDue = false := by
  unfold flushPort
  by_cases h : (s.port p).displayDue = true
  · by_cases h2 : reachable (s.port p) = true ∧ (s.port p).kind = some .scale <;> simp [h, h2]
  · simp [h]

theorem flush_quiet (s : State) : Quiet (flush s) := by
  intro p; rw [flush_port]; exact flushPort_displayDue s p

/-- With no display owed the end of an event changes nothing. -/
theorem flush_of_quiet {s : State} (h : Quiet s) : flush s = s := by
  apply State.ext_ports
  · intro p; rw [flush_port, flushPort_of_due_false s p (h p)]
  · rfl

/-- What a DISPLAY frame shows does not depend on the frames still to be sent, on the mark or on
supervision. -/
theorem displayOf_congr (s t : State) (p : CounterPort) (h : t = { s with ports := t.ports })
    (hp : ∃ b l n, t.port p = { s.port p with displayDue := b, tx := l, supervision := n }) :
    displayOf t p = displayOf s p := by
  obtain ⟨b, l, n, hp⟩ := hp
  have hr : t.ret = s.ret := by rw [h]
  have ho : t.orders = s.orders := by rw [h]
  have hf : t.free = s.free := by rw [h]
  have hd : t.dayState = s.dayState := by rw [h]
  simp only [displayOf, hp, hr, ho, hf, hd]
  rfl

/-- The end of an event at which one ONLINE scale station is owed its display. -/
theorem flush_markDisplay {s : State} {p : CounterPort} (hs : ScaleOnline s p)
    (hq : ∀ q : CounterPort, q ≠ p → (s.port q).displayDue = false) :
    OnlyPort s (flush (markDisplay p s)) p ∧
      (flush (markDisplay p s)).port p =
        { s.port p with
          displayDue := false
          tx := (s.port p).tx ++ [.display (displayOf (flush (markDisplay p s)) p)] } := by
  obtain ⟨h1, h2, h3⟩ := hs
  have hp : (flush (markDisplay p s)).port p =
      { s.port p with
        displayDue := false
        tx := (s.port p).tx ++ [.display (displayOf (markDisplay p s) p)] } := by
    simp [flush_port, flushPort, markDisplay, reachable, h1, h2, h3]
  have hd : displayOf (flush (markDisplay p s)) p = displayOf (markDisplay p s) p := by
    apply displayOf_congr
    · rfl
    · refine ⟨false, (s.port p).tx ++ [.display (displayOf (markDisplay p s) p)],
        (s.port p).supervision, ?_⟩
      rw [hp]; simp [markDisplay]
  refine ⟨⟨rfl, fun q hqp => ?_⟩, ?_⟩
  · have hm : (markDisplay p s).port q = s.port q := modPort_port_ne _ _ hqp
    rw [flush_port, flushPort_of_due_false _ _ (by rw [hm]; exact hq q hqp), hm]
  · rw [hd]; exact hp

/-! ### Frames handed on and keys taken (R6, R11) -/

theorem handOn_up {s : State} {p : CounterPort} {accepts : Option DeviceKind → Bool} {f : State → State}
    (h1 : (s.port p).state = .up) (h2 : (s.port p).online = true)
    (h3 : accepts (s.port p).kind = true) :
    handOn p accepts f s = f (reloadSupervision p s) := by
  simp [handOn, h1, h2, h3]

theorem reloadSupervision_port_self (p : CounterPort) (s : State) :
    (reloadSupervision p s).port p =
      { s.port p with supervision := s.ret.config.supervisionReload } := by
  simp [reloadSupervision]

theorem reloadSupervision_port_ne {p q : CounterPort} (s : State) (h : q ≠ p) :
    (reloadSupervision p s).port q = s.port q := modPort_port_ne _ _ h

theorem salesGate_congr {c : Port} (n : Nat) : salesGate { c with supervision := n } = salesGate c := rfl

theorem salesGate_idle {c : Port} (h : c.sale = .idle) : salesGate c = none := by simp [salesGate, h]

theorem salesGate_item {c : Port} (h : c.sale = .item) : salesGate c = none := by simp [salesGate, h]

/-- A sales key that the gate passes goes to its owner. -/
theorem keyEvent_sales {s : State} {p : CounterPort} (hs : ScaleOnline s p)
    (hg : salesGate (s.port p) = none) (own : State → State) :
    keyEvent p salesGate own s = flush (markDisplay p (own (reloadSupervision p s))) := by
  obtain ⟨h1, h2, h3⟩ := hs
  simp [keyEvent, handOn_up h1 h2 (show scaleOnly (s.port p).kind = true by simp [scaleOnly, h3]),
    reloadSupervision_port_self, salesGate_congr, hg]

/-- A sales key that the gate refuses changes the held message alone (R11). -/
theorem keyEvent_refused {s : State} {p : CounterPort} (hs : ScaleOnline s p) {m : MsgCode}
    (hg : salesGate (s.port p) = some m) (own : State → State) :
    keyEvent p salesGate own s =
      flush (markDisplay p (refuseKey p m (reloadSupervision p s))) := by
  obtain ⟨h1, h2, h3⟩ := hs
  simp [keyEvent, handOn_up h1 h2 (show scaleOnly (s.port p).kind = true by simp [scaleOnly, h3]),
    reloadSupervision_port_self, salesGate_congr, hg]

theorem idleOnly_idle {s : State} {p : CounterPort} (h : (s.port p).sale = .idle)
    (own : State → State) : idleOnly p own s = own s := by simp [idleOnly, h]

/-- A key whose owner, given the state with supervision reloaded, leaves `u`. -/
theorem keyAnswered_of {s u : State} {p : CounterPort} {c : Port} (hs : ScaleOnline u p)
    (hq : ∀ q : CounterPort, q ≠ p → (u.port q).displayDue = false)
    (base : State) (hb : u = { base with ports := u.ports })
    (ho : ∀ q : CounterPort, q ≠ p → u.port q = base.port q)
    (hc : { u.port p with displayDue := false } =
      { c with supervision := base.ret.config.supervisionReload }) (he : s = flush (markDisplay p u)) :
    KeyAnswered base s p c := by
  obtain ⟨⟨h1, h2⟩, h3⟩ := flush_markDisplay hs hq
  subst he
  refine ⟨⟨?_, fun q hqp => (h2 q hqp).trans (ho q hqp)⟩, ?_⟩
  · rw [h1, hb]
  · rw [h3]
    have htx : (u.port p).tx = c.tx := by simpa using congrArg Port.tx hc
    have : ∀ l, { u.port p with displayDue := false, tx := l } =
        { c with supervision := base.ret.config.supervisionReload, tx := l } := by
      intro l
      exact (congrArg (fun x : Port => { x with tx := l }) hc :)
    rw [htx]; exact this _

/-! ### Notices (R194) -/

theorem NoticeQueue.push_length_le (q : NoticeQueue) (n : Notice) (h : q.queue.length ≤ Config.maxNotices) :
    (q.push n).queue.length ≤ Config.maxNotices := by
  unfold NoticeQueue.push
  split
  · next h' => simp only [List.length_append, List.length_singleton]; omega
  · exact h

theorem NoticeQueue.push_lost_le (q : NoticeQueue) (n : Notice) (h : q.lost ≤ Config.maxLost) :
    (q.push n).lost ≤ Config.maxLost := by
  unfold NoticeQueue.push
  split
  · exact h
  · exact Nat.min_le_left _ _

/-- A notice is queued, dropped and counted, or not made. -/
theorem notify_cases (b : NoticeBody) (s : State) :
    notify b s = s ∨ notify b s =
      { s with notices := s.notices.push { stamp := s.clock.stamp, body := b } } := by
  unfold notify
  split
  · exact .inr rfl
  · exact .inl rfl

theorem notify_off {b : NoticeBody} {s : State} (h : s.notices.enables.master = false) :
    notify b s = s := by simp [notify, h]

/-! ### Requests (R185, R187, R188) -/

/-- A good frame on an open uplink is taken at once. -/
theorem arrive_open {s : State} (h : UplinkOpen s) (i : Instr) (own : State → State) :
    arrive i own s = flush (own { s with uplink := { s.uplink with up := true } }) := by
  simp [arrive, h.2.1, h.2.2]

/-- A request whose rule answers without owing a display. -/
theorem arrive_replied {s base : State} (h : UplinkOpen s) (i : Instr) (own : State → State)
    {tag : Nat} {code : ResultCode} {data : ReplyData}
    (hq : Quiet base)
    (ho : own { s with uplink := { s.uplink with up := true } } =
      reply tag code data { base with uplink := { base.uplink with up := true } }) :
    arrive i own s = replied tag code data base := by
  rw [arrive_open h, ho]
  exact flush_of_quiet hq

/-- After a HUB_RESET nothing is taken (R193). -/
theorem arrive_resetPending {s : State} (h : s.uplink.resetPending = true) (i : Instr)
    (own : State → State) : arrive i own s = s := by simp [arrive, h]

/-- While the reply queue is full one request waits (R185). -/
theorem arrive_waits {s : State} (h : s.uplink.resetPending = false)
    (hf : Config.maxReplies ≤ s.uplink.replies.length) (hw : s.uplink.waiting = none) (i : Instr)
    (own : State → State) :
    arrive i own s = { s with uplink := { s.uplink with waiting := some i } } := by
  simp [arrive, h, Nat.not_lt.mpr hf, hw]

/-- A further frame behind one that waits is an overrun (R185). -/
theorem arrive_overrun {s : State} (h : s.uplink.resetPending = false)
    (hf : Config.maxReplies ≤ s.uplink.replies.length) {j : Instr} (hw : s.uplink.waiting = some j)
    (i : Instr) (own : State → State) :
    arrive i own s = { s with uplink := { s.uplink with errors :=
      { s.uplink.errors with overrun := satUp Config.max16 s.uplink.errors.overrun 1 } } } := by
  simp [arrive, h, Nat.not_lt.mpr hf, hw]

/-! ### Bounded numbers -/

theorem satUp_le (top x n : Nat) : satUp top x n ≤ top := Nat.min_le_left _ _

theorem clamp_mem (lo hi x : Nat) (h : lo ≤ hi) : lo ≤ clamp lo hi x ∧ clamp lo hi x ≤ hi := by
  unfold clamp; split
  · omega
  · split <;> omega

theorem clamp_of_mem {lo hi x : Nat} (h1 : lo ≤ x) (h2 : x ≤ hi) : clamp lo hi x = x := by
  unfold clamp; split
  · omega
  · split <;> omega

theorem accMove_up_le (top x n : Nat) : accMove true top x n ≤ max top (x + n) := by
  unfold accMove; simp; split <;> omega

theorem accMove_exact {top x n : Nat} (h : x + n ≤ top) : accMove true top x n = x + n := by
  unfold accMove; simp; omega

theorem accMove_down_exact {top x n : Nat} (h1 : x < top) (h2 : n ≤ x) :
    accMove false top x n + n = x := by
  unfold accMove; simp; split <;> omega

/-! ### Rounding -/

/-- Half up: the quotient's whole part, one more from the half on. -/
theorem roundHalfUp_bounds (num den : Nat) (h : 0 < den) :
    2 * num < 2 * den * roundHalfUp num den + den ∧ 2 * den * roundHalfUp num den ≤ 2 * num + den := by
  unfold roundHalfUp
  have hd : 0 < 2 * den := by omega
  have h1 := Nat.div_add_mod (2 * num + den) (2 * den)
  have h2 := Nat.mod_lt (2 * num + den) hd
  constructor <;> omega

end Sys2Proof.Machine
end

