-- ==== Sys2Proof/Laws/Effects.lean ====
section
/-! SUPPORT. What the shared operations of tares, snapshots, commits, tickets, orders, slots, the composer
queue and the day can do: one lemma for each, to be cited in place of its definition. -/

namespace Sys2Proof.Machine

/-! ### Frames handed on (R4, R6) -/

/-- A frame is refused, counted as a protocol error, lost, or handed on. -/
theorem handOn_cases (p : CounterPort) (accepts : Option DeviceKind → Bool) (f : State → State)
    (s : State) :
    ((s.port p).state = .refused ∧ handOn p accepts f s =
        s.setPort p { s.port p with tx := (s.port p).tx ++ [.refused] }) ∨
    (((s.port p).state = .down ∨ (s.port p).state = .up ∧ (s.port p).online = true ∧
        accepts (s.port p).kind = false) ∧ handOn p accepts f s = protocolError p s) ∨
    ((s.port p).state = .up ∧ (s.port p).online = false ∧ handOn p accepts f s = s) ∨
    ((s.port p).state = .up ∧ (s.port p).online = true ∧ accepts (s.port p).kind = true ∧
      handOn p accepts f s = f (reloadSupervision p s)) := by
  unfold handOn
  cases hst : (s.port p).state <;> cases ho : (s.port p).online <;>
    cases ha : accepts (s.port p).kind <;> simp [modPort, hst, ha, ho]

/-! ### Tares and snapshots (R37, R38, R47) -/

/-- A change of tare touches one port: its weighing context is weighed again, its snapshot is priced again
in ITEM, and it is owed a display. -/
theorem applyTare_eq (p : CounterPort) (t : Tare) (s : State) :
    ∃ sn, applyTare p t s = s.setPort p { s.port p with
        weigh := retared s.ret.cal[p] t (s.port p).weigh, snapshot := sn, displayDue := true } ∧
      ((s.port p).sale ≠ .item → sn = (s.port p).snapshot) ∧
      ((s.port p).snapshot = none → sn = none) := by
  unfold applyTare retared
  dsimp only
  generalize reweigh _ _ = o
  cases o with
  | none => exact ⟨(s.port p).snapshot, rfl, fun _ => rfl, id⟩
  | some r => exact ⟨_, rfl, fun hs => if_neg hs, fun hs => by simp [hs]⟩

/-- A PRESET tare goes; any other stays, and then nothing changes. -/
theorem removePreset_cases (p : CounterPort) (s : State) :
    ((s.port p).weigh.tare.kind = .preset ∧ removePreset p s = applyTare p noTare s) ∨
      ((s.port p).weigh.tare.kind ≠ .preset ∧ removePreset p s = s) := by
  unfold removePreset
  by_cases h : (s.port p).weigh.tare.kind = .preset <;> simp [h]

/-- A commit in WAITING completes as `appliedFor` says, and every station is owed a display. -/
theorem completeCommit_waiting {s : State} {d : CommitDrain} (named : List Nat)
    (h : s.commit = .waiting d) :
    completeCommit named s = markAllDisplays (appliedFor named d.forced s) := by
  simp [completeCommit, appliedFor, h, nextGen]

/-- A close is counted by a WAITING commit that awaits its generation, which completes at the last one. -/
theorem reportClose_cases (named : List Nat) (g : Nat) (s : State) :
    reportClose named g s = s ∨
    ∃ d, s.commit = .waiting d ∧ g = prevGen s.ret.generation ∧
      ((2 ≤ d.awaited ∧
        reportClose named g s = { s with commit := .waiting { d with awaited := d.awaited - 1 } }) ∨
      (d.awaited ≤ 1 ∧ reportClose named g s =
        completeCommit named { s with commit := .waiting { d with awaited := d.awaited - 1 } })) := by
  unfold reportClose
  cases h : s.commit with
  | editing => simp
  | scheduled _ _ => simp
  | waiting d =>
    by_cases hg : g = prevGen s.ret.generation
    · refine .inr ⟨d, rfl, hg, ?_⟩
      by_cases h1 : d.awaited - 1 = 0
      · exact .inr ⟨by omega, by simp [hg, h1]⟩
      · exact .inl ⟨by omega, by simp [hg, h1]⟩
    · exact .inl (by simp [hg])

theorem closeSnapshot_none {s : State} {p : CounterPort} (h : (s.port p).snapshot = none) :
    closeSnapshot p s = s := by simp [closeSnapshot, closeSnapshotFor, h]

/-- While no commit waits a close touches its port alone. -/
theorem closeSnapshot_eq {s : State} {p : CounterPort} {sn : Snapshot}
    (h : (s.port p).snapshot = some sn) (hc : ∀ d, s.commit ≠ .waiting d) :
    closeSnapshot p s =
      s.setPort p { closedPort s.ret.cal[p] (s.port p) with displayDue := true } := by
  have hr : ∀ (g : Nat) (c : Port), reportClose [] g (s.setPort p c) = s.setPort p c := by
    intro g c
    obtain h' | ⟨d, hd, _⟩ := reportClose_cases [] g (s.setPort p c)
    · exact h'
    · exact absurd hd (hc d)
  have hset : ∀ (u : State) (a b : Port), (u.setPort p a).setPort p b = u.setPort p b := by
    intro u a b; simp [State.setPort]
  have hport : ∀ (u : State) (a : Port), (u.setPort p a).port p = a := by
    intro u a; simp [State.setPort, State.port]
  have hclose : closeSnapshot p s = reportClose [] sn.generation
      (removePreset p (s.setPort p { s.port p with snapshot := none, displayDue := true })) := by
    simp only [closeSnapshot, closeSnapshotFor, h]; rfl
  rw [hclose]
  generalize hc1 : ({ s.port p with snapshot := none, displayDue := true } : Port) = c1
  have hw : c1.weigh = (s.port p).weigh := by rw [← hc1]
  have hn1 : c1.snapshot = none := by rw [← hc1]
  obtain ⟨hk, he⟩ | ⟨hk, he⟩ := removePreset_cases p (s.setPort p c1)
  · obtain ⟨x, hx, -, hn⟩ := applyTare_eq p noTare (s.setPort p c1)
    rw [hport] at hx hn hk
    rw [hn hn1, hset] at hx
    rw [he, hx, hr]
    subst hc1
    exact congrArg _ (by simp only [closedPort]; rw [if_pos hk]; rfl)
  · rw [hport] at hk
    rw [he, hr]
    subst hc1
    exact congrArg _ (by simp only [closedPort]; rw [if_neg hk])

/-! ### Tickets (R135, R138) -/

/-- A call: the ticket is CALLED with its timer and count, the station's service state follows, and frames
and a notice go out; nothing else changes. -/
theorem callTicket_eq (t : TicketNo) (p : CounterPort) (n : Nat) (cause : CallCause) (s : State) :
    let r : TicketRec := { s.ticket t with state := .called p s.ret.config.callTimeout, count := n }
    callTicket t p n cause s = notify (.ticketCalled t p n cause)
      { s with
        tickets := { s.tickets with recs := s.tickets.recs.set t r }
        ports := (callTicket t p n cause s).ports } := by
  intro r
  have h : (callTicket t p n cause s).ports =
      (showCall t p n (setService p .called (setTicket t r s))).ports := notify_ports _ _
  rw [h]
  rfl

/-- A skip into a list with room. -/
theorem skipTicket_room {t : TicketNo} {p : CounterPort} {s : State}
    (h : s.tickets.skipped.length < Config.maxSkipped) :
    let u := setService p .free s
    skipTicket t p s = { u with
      ret := countGrand { ticketsSkipped := 1 } s.ret
      tickets := { s.tickets with
        skipped := s.tickets.skipped ++ [t]
        recs := s.tickets.recs.set t { s.ticket t with state := .skipped } } } := by
  have hu : (setService p .free s).tickets.skipped = s.tickets.skipped := rfl
  unfold skipTicket
  dsimp only
  rw [hu]
  cases hl : s.tickets.skipped with
  | nil => simp [setTicket, modRet, hl, setService, modPort, State.setPort]
  | cons o rest =>
    have : ¬ Config.maxSkipped ≤ (o :: rest).length := by simpa [hl] using h
    simp only [this, if_false]
    simp [setTicket, modRet, hl, setService, modPort, State.setPort]

/-! ### Orders (R151, R152, R162) -/

/-- An order goes in before the first of a greater number. -/
theorem insertOrder_split (o : Order) (before after : List Order)
    (h1 : ∀ x ∈ before, x.number ≤ o.number) (h2 : ∀ x, after.head? = some x → o.number < x.number) :
    insertOrder o (before ++ after) = before ++ o :: after := by
  induction before with
  | nil =>
    cases after with
    | nil => rfl
    | cons x xs => simp [insertOrder, h2 x rfl]
  | cons b bs ih =>
    have hb : ¬ o.number < b.number := Nat.not_lt.mpr (h1 b (by simp))
    simp [insertOrder, hb, ih fun x hx => h1 x (by simp [hx])]

theorem insertOrder_mem (o x : Order) (l : List Order) : x ∈ insertOrder o l ↔ x = o ∨ x ∈ l := by
  induction l with
  | nil => simp [insertOrder]
  | cons y ys ih =>
    simp only [insertOrder]
    split
    · simp
    · simp [ih]; tauto

/-- Voiding a line keeps number, ticket, state and the count of lines, and never raises the total. -/
theorem voidLine_frame (serial : Nat) (o : Order) :
    (voidLine serial o).number = o.number ∧ (voidLine serial o).ticket = o.ticket ∧
      (voidLine serial o).state = o.state ∧ (voidLine serial o).lines.length = o.lines.length ∧
      (voidLine serial o).total ≤ o.total := by
  simp [voidLine]

/-- Only the order list can change, and with it no number. -/
theorem markLineVoided_cases (n serial : Nat) (keyed : Bool) (s : State) :
    markLineVoided n serial keyed s = s ∨ ∃ o, orderOf s.orders n = some o ∧
      markLineVoided n serial keyed s = modOrder n (fun x =>
        { voidLine serial x with idle := if keyed then 0 else x.idle }) s := by
  unfold markLineVoided
  cases h : orderOf s.orders n with
  | none => exact .inl rfl
  | some o =>
    by_cases hl : (o.lines.any fun l => l.serial == serial && !l.voided) = true
    · exact .inr ⟨o, rfl, by simp only [hl, if_true]⟩
    · exact .inl (by simp only [hl]; rfl)

/-! ### Slots (R110, R112) -/

/-- The feed sends the head of the post list and makes it outstanding, or does nothing. -/
theorem feedPrinter_cases (p : CounterPort) (s : State) :
    feedPrinter p s = s ∨ ∃ k rest l, (s.port p).slots.post = k :: rest ∧
      (s.port p).slots.labels[k] = some l ∧ reachable (s.port p) = true ∧
      (s.port p).printer = .ready ∧ (s.port p).slots.outstanding = none ∧
      feedPrinter p s = s.setPort p { s.port p with
        tx := (s.port p).tx ++ labelFrames k l
        slots := { (s.port p).slots with outstanding := some k } } := by
  unfold feedPrinter
  dsimp only
  split
  · exact .inl rfl
  · next k rest hp =>
    split
    · exact .inl rfl
    · next l hl =>
      split
      · next h => exact .inr ⟨k, rest, l, hp, hl, h.1, h.2.1, h.2.2, rfl⟩
      · exact .inl rfl

/-- A release of a posted slot keeps every slot number on one list. -/
theorem SlotCtx.release_sound {c : SlotCtx} {k : SlotNo} (h : SlotsSound c) (hk : k ∈ c.post)
    (ho : c.outstanding ≠ some k) : SlotsSound (c.release k) := by
  have hp := h.partition
  have hf := h.filled
  have one : c.post.count k = 1 := by
    have h1 := hp k
    have h2 := List.count_pos_iff.mpr hk
    omega
  have zero : c.free.count k = 0 := by have h1 := hp k; omega
  refine ⟨fun j => ?_, fun j => ?_, fun j hj => ?_⟩
  · by_cases hjk : j = k
    · subst hjk
      have : (c.post.filter (fun x => decide (x ≠ j))).count j = 0 := by
        rw [List.count_eq_zero]; simp
      simp only [SlotCtx.release, List.count_append, this, zero]
      simp
    · have h1 : (c.post.filter (fun x => decide (x ≠ k))).count j = c.post.count j := by
        rw [List.count_filter]; simp [hjk]
      have h2 : ([k] : List SlotNo).count j = 0 := by
        rw [List.count_eq_zero]; simpa using hjk
      simp only [SlotCtx.release, List.count_append, h1, h2]
      simpa using hp j
  · by_cases hjk : j = k
    · subst hjk
      simp [SlotCtx.release]
    · have hne : k.val ≠ j.val := fun h' => hjk (Fin.ext h'.symm)
      have : (c.labels.set k none)[j] = c.labels[j] := by
        simp [hne]
      simp only [SlotCtx.release, this, hf j]
      simp [hjk]
  · have hj' : c.outstanding = some j := hj
    have hne : j ≠ k := fun h' => ho (h' ▸ hj')
    have := h.outstanding j hj'
    cases hpost : c.post with
    | nil => simp [hpost] at this
    | cons x xs =>
      simp only [hpost, List.head?_cons, Option.some.injEq] at this
      subst this
      simp [SlotCtx.release, hpost, hne]

/-! ### The composer queue (R102, R103) -/

/-- A job joins at the end; where its station has no free slot PRINTER_BUSY becomes held there. -/
theorem joinComposer_cases (j : Job) (s : State) :
    ((s.port j.station).slots.free = [] ∧ joinComposer j s = holdMessage j.station .printerBusy
        { s with composer := { s.composer with queue := s.composer.queue ++ [j] } }) ∨
      ((s.port j.station).slots.free ≠ [] ∧ joinComposer j s =
        { s with composer := { s.composer with queue := s.composer.queue ++ [j] } }) := by
  unfold joinComposer
  by_cases h : (s.port j.station).slots.free = [] <;> simp [h]

/-- A station has no job when none is queued for it and none of its own is in composition. -/
theorem hasJob_false_iff (s : State) (p : CounterPort) :
    hasJob s p = false ↔ (∀ j ∈ s.composer.queue, j.station ≠ p) ∧
      ∀ c, s.composer.current = some c → c.job.station = p → c.dropped = true := by
  unfold hasJob composing
  cases s.composer.current <;> simp

/-! ### The day (R174) -/

theorem dayTest_cases (s : State) :
    (closeReady s = true ∧ dayTest s = completeDayClose s) ∨ (closeReady s = false ∧ dayTest s = s) := by
  unfold dayTest
  cases h : closeReady s <;> simp

/-- The test fails while an item is selected, the composer works, or the day is TRADING. -/
theorem closeReady_iff (s : State) :
    closeReady s = true ↔ (∃ n b, s.dayState = .closing n b) ∧
      (∀ p : CounterPort, (s.port p).snapshot = none) ∧ s.composer.queue = [] ∧
      s.composer.current = none := by
  have hp : (s.ports.toList.all fun c => c.snapshot.isNone) = true ↔
      ∀ p : CounterPort, (s.port p).snapshot = none := by
    simp only [List.all_eq_true, Option.isNone_iff_eq_none, State.port]
    constructor
    · intro h p
      exact h _ (by simp)
    · intro h c hc
      obtain ⟨i, hi, rfl⟩ := List.getElem_of_mem hc
      have hi' : i < 14 := by simpa using hi
      simpa using h ⟨i, hi'⟩
  unfold closeReady composerIdle
  rw [Bool.and_eq_true, Bool.and_eq_true, hp, Bool.and_eq_true]
  cases s.dayState <;> simp [DayState.isClosing]

end Sys2Proof.Machine
end

