-- ==== Sys2Proof/WellFormed.lean ====
section
/-! DEFINITION. Which commands a frame, a request or an event can carry: the widths of their fields and the
room of one frame (10.2, R181). What a rule judges by its value is not judged here. -/

namespace Sys2Proof

/-- A number of one byte, of two, of three. -/
def byteOk (n : Nat) : Bool := decide (n < 256)
def wordOk (n : Nat) : Bool := decide (n < 65536)
def tripleOk (n : Nat) : Bool := decide (n < 16777216)

/-- A count of three bytes in two's complement. -/
def sampleOk (x : Int) : Bool := decide (-8388608 ≤ x) && decide (x ≤ 8388607)

/-- A tag of a request (10.2). -/
def tagOk (tag : Nat) : Bool := decide (1 ≤ tag) && decide (tag ≤ 255)

/-- A text's length byte. -/
def textOk (t : Text) : Bool := byteOk t.length

/-- A date as four bytes carry it. -/
def dateOk (d : Date) : Bool := wordOk d.year && byteOk d.month && byteOk d.day

/-- The characters of one frame in reception. -/
def charsOk (chars : List RxChar) : Bool := decide (1 ≤ chars.length) && decide (chars.length ≤ 255)

/-- The bytes of one frame. -/
def frameOk (frame : List Byte) : Bool := decide (6 ≤ frame.length) && decide (frame.length ≤ 255)

/-! ### Requests -/

/-- Bytes of a field that may be absent. -/
def optionSize {α : Type} (size : α → Nat) : Option α → Nat
  | none => 1
  | some x => 1 + size x

/-- Bytes of a staging entry (R69: 82 at most for a PUT, 4 for a DELETE). -/
def entrySize : StageEntry → Nat
  | .put f m =>
    13 + optionSize (fun _ => 1) f.basis + f.name.length + optionSize (fun t => 1 + t.length) f.extra +
      optionSize (fun _ => 2) f.sellBy + optionSize (fun _ => 5) m
  | .delete _ => 4

def markdownOk (m : Markdown) : Bool := byteOk m.percent && wordOk m.start && wordOk m.stop

def itemOk (f : ItemFields) : Bool :=
  tripleOk f.plu && tripleOk f.price && wordOk f.presetTare && byteOk f.department &&
    byteOk f.template && textOk f.name && f.extra.all textOk && f.sellBy.all wordOk

def entryOk : StageEntry → Bool
  | .put f m => itemOk f && m.all markdownOk
  | .delete n => tripleOk n

/-- A block that fits the payload of one REQUEST frame (R69). -/
def blockOk (block : List StageEntry) : Bool :=
  block.all entryOk && decide (2 + (block.map entrySize).sum ≤ 249)

def calOk (f : CalFields) : Bool :=
  sampleOk f.zero && tripleOk f.mult && wordOk f.max && wordOk f.max1 && byteOk f.e1 && byteOk f.e2 &&
    byteOk f.window && byteOk f.stability

def fieldSize (f : FieldRaw) : Nat := 8 + optionSize (fun t => 1 + t.length) f.text

def fieldOk (f : FieldRaw) : Bool :=
  byteOk f.line && byteOk f.column && byteOk f.width && f.text.all textOk

/-- A template that fits one REQUEST frame. -/
def templateOk (t : TemplateRaw) : Bool :=
  t.fields.all fieldOk && decide (5 + (t.fields.map fieldSize).sum ≤ 249)

/-- Bytes of a configuration entry: its identifier and its value (R181). An unknown identifier gives its value no
form (log 28). -/
def configSize : ConfigEntry → Nat
  | .number _ _ => 3
  | .mask _ stations => 2 + stations.length
  | .zeroTracking _ => 2
  | .unknown _ => 1

/-- A configuration entry's value (R200); an unknown identifier is one that the table does not hold. A mask may
name a station more than once (DESIGN CHOICE, log 43). -/
def configOk : ConfigEntry → Bool
  | .number _ v => wordOk v
  | .mask _ stations => byteOk stations.length
  | .zeroTracking _ => true
  | .unknown identifier => byteOk identifier && !(decide (1 ≤ identifier) && decide (identifier ≤ 11))

/-- Configuration entries that fit one REQUEST frame. -/
def configListOk (entries : List ConfigEntry) : Bool :=
  entries.all configOk && decide (2 + (entries.map configSize).sum ≤ 249)

def activationOk (a : Date × Nat) : Bool := dateOk a.1 && wordOk a.2

/-- The command can be sent. -/
def wellFormed : Instr → Bool
  | .lineDrop _ => true
  | .lineReturn _ => true
  | .uplinkLineDrop => true
  | .frameDiscard _ chars _ => charsOk chars
  | .malformedFrame _ frame => frameOk frame
  | .malformedRequest length rest => frameOk (length :: rest)
  | .hello _ _ _ _ => true
  | .statusFrame _ _ _ => true
  | .sample _ s0 s1 s2 s3 => sampleOk s0 && sampleOk s1 && sampleOk s2 && sampleOk s3
  | .sampleGapExpiry _ => true
  | .supervisionExpiry _ => true
  | .login _ n => tripleOk n
  | .logout _ => true
  | .zero _ => true
  | .tare _ => true
  | .keyedTare _ t => tripleOk t
  | .plu _ n => tripleOk n
  | .qty _ q => tripleOk q
  | .print _ => true
  | .cancel _ => true
  | .void _ serial => tripleOk serial
  | .reprint _ serial => tripleOk serial
  | .next _ => true
  | .serve _ => true
  | .recall _ => true
  | .skip _ => true
  | .recallSkipped _ t => tripleOk t
  | .cancelNext _ => true
  | .park _ => true
  | .pickup _ t => tripleOk t
  | .closeOrder _ => true
  | .printDone _ slot _ => byteOk slot
  | .takeRequest _ => true
  | .takeDecision => true
  | .compositionComplete => true
  | .callTimeout _ => true
  | .orderAbandoned n => decide (1 ≤ n) && decide (n ≤ Config.maxOrderNumber)
  | .clockTick => true
  | .commitActivation => true
  | .commitDrainExpiry => true
  | .commitCompletion => true
  | .closeDrainExpiry => true
  | .dayCloseCompletion => true
  | .status tag => tagOk tag
  | .statusClear tag port => tagOk tag && port.all byteOk
  | .noticeEnable tag _ => tagOk tag
  | .hubReset tag => tagOk tag
  | .warmReset => true
  | .powerUp found => decide (found.map (·.1)).Nodup
  | .operatorWrite tag n r => tagOk tag && byteOk n && r.all fun x => decide (6 + x.name.length ≤ 249)
  | .calWrite tag port f _ => tagOk tag && byteOk port && calOk f
  | .calRead tag port => tagOk tag && byteOk port
  | .pluRead tag first last => tagOk tag && tripleOk first && tripleOk last
  | .pluStage tag block => tagOk tag && blockOk block
  | .stageDiscard tag => tagOk tag
  | .commit tag a => tagOk tag && a.all activationOk
  | .commitAbort tag => tagOk tag
  | .templateWrite tag n t => tagOk tag && byteOk n && t.all templateOk
  | .translateWrite tag table _ codes => tagOk tag && byteOk table && decide (3 + codes.length ≤ 249)
  | .orderRead tag n => tagOk tag && n.all wordOk
  | .totalsRead tag _ first => tagOk tag && tripleOk first
  | .dayClose tag => tagOk tag
  | .dayRecordRead tag _ first => tagOk tag && wordOk first
  | .configWrite tag entries => tagOk tag && configListOk entries
  | .timeSet tag d second => tagOk tag && dateOk d && tripleOk second
  | .uplinkTransmit => true

end Sys2Proof
end

