-- ==== Sys2Proof/Tests/Slice0.lean ====
section
/-! SUPPORT. Tests: the manual's worked figures, one ill-formed command for each check, single steps on a
small counter, and for each statement with hypotheses a state that meets them. -/

namespace Sys2Proof.Tests

set_option Elab.async false

open Sys2Proof.Machine

/-! ### Worked figures of the manual -/

/-- R183: the check over "123456789". -/
theorem test_crc_of_digits :
    crc16 [0x31, 0x32, 0x33, 0x34, 0x35, 0x36, 0x37, 0x38, 0x39] = 0x29B1 := by decide +kernel

/-- The table of R101. -/
theorem test_barcodes :
    itemBarcode 417 1215 = [2, 0, 0, 4, 1, 7, 0, 0, 1, 2, 1, 5, 1] ∧
      itemBarcode 417 871 = [2, 0, 0, 4, 1, 7, 0, 0, 0, 8, 7, 1, 0] ∧
      summaryBarcode 42 4071 = [9, 0, 0, 4, 2, 0, 0, 0, 4, 0, 7, 1, 3] := by decide +kernel

/-- The table of R91: 6,005 g, 5 cents, 9,999,999 cents, ticket 7, 14 March 2031. -/
theorem test_renderings :
    renderWeight 6005 = [54, 46, 48, 48, 53] ∧ renderAmount 5 = [48, 46, 48, 53] ∧
      renderAmount 9999999 = [57, 57, 57, 57, 57, 46, 57, 57] ∧ renderFixed 2 7 = [48, 55] ∧
      renderDate ⟨2031, 3, 14⟩ = [49, 52, 46, 48, 51, 46, 51, 49] := by decide +kernel

/-- R93: 31 December 2099 and two days. -/
theorem test_sell_by_past_2099 :
    addDays ⟨2099, 12, 31⟩ 2 = ⟨2100, 1, 2⟩ ∧ addDays ⟨2028, 2, 28⟩ 1 = ⟨2028, 2, 29⟩ := by
  decide +kernel

/-- The calibration record of 2.6. -/
def cal : CalRecord where
  zero := 152300
  mult := 20480
  max := 15000
  max1 := 6000
  e1 := 2
  e2 := 5
  window := 8
  stability := 5
  tracking := false

/-- 2.6, events 19 to 21: gross 4,992 of a sum of 1,346,195; d = 488 g under a tare of 12 g; the weighed
tare of 500 g. -/
theorem test_worked_weights :
    grossOf cal.toCalFields 1346195 0 = 4992 ∧
      (weightsOf cal.toCalFields ⟨.keyed, 12⟩ 4992 true).d = 488 ∧
      (weightsOf cal.toCalFields ⟨.weighed, 500⟩ 4992 true).net = -8 ∧
      overloadLimit cal.toCalFields = 150450 ∧ underloadLimit cal.toCalFields = -400 := by
  decide +kernel

/-- The end of 2.6: 60,030 tenths is in range 2 with d = 6,005 g, 60,000 in range 1 with d = 6,000 g. -/
theorem test_range_boundary :
    (weightsOf cal.toCalFields noTare 60030 true).d = 6005 ∧
      (weightsOf cal.toCalFields noTare 60030 true).netRange = .two ∧
      (weightsOf cal.toCalFields noTare 60000 true).d = 6000 ∧
      (weightsOf cal.toCalFields noTare 60000 true).netRange = .one := by decide +kernel

/-! ### A small counter -/

/-- PLU 417 of 3.5, with no markdown and no preset tare. -/
def salad : ItemFields where
  plu := 417
  mode := .byWeight
  price := 2490
  basis := some .perKg
  presetTare := 0
  department := 3
  template := 3
  name := [79, 76, 73, 86, 69]
  extra := none
  sellBy := some 2

/-- A count item. -/
def roll : ItemFields :=
  { salad with plu := 530, mode := .byCount, price := 85, basis := none, template := 4 }

def recordOf (f : ItemFields) (t : ItemTotals) : ItemRecord :=
  { item := f, markdown := none, status := .live, totals := t }

/-- A template that prints the total price. -/
def totalField (width : Nat) : FieldDesc where
  kind := .totalPrice
  line := 1
  column := 1
  width := width
  justify := .right
  fill := 32
  translation := .none
  trim := false
  text := none

def priceTemplate : Template := { kind := .item, fields := [totalField 8] }

def stable488 : WeightResult where
  state := .stable
  weights := some (weightsOf cal.toCalFields noTare 4880 true)
  message := none

/-- An ONLINE calibrated scale with its operator, in IDLE, a stable 488 g on it. -/
def scale : Port :=
  { Port.fresh (some cal) with
    state := .up, kind := some .scale, online := true, supervision := 2
    operator := some 6, sale := .idle
    weigh := { WeighCtx.fresh (some cal) true with
      state := .stable, pendingZero := false, latest := some stable488 } }

def rollSnapshot (generation : Nat) : Snapshot where
  item := roll
  generation := generation
  percent := 0
  quantity := 2
  live := some (priced 170 0)

/-- The scale with two rolls selected under a generation. -/
def inItem (generation : Nat) : Port :=
  { scale with sale := .item, operator := some 7, snapshot := some (rollSnapshot generation) }

def saleOf (p : CounterPort) (order : Option (Nat × TicketNo)) : SaleRecord where
  item := roll
  generation := 42
  percent := 0
  quantity := 2
  tare := noTare
  amounts := amountsOf 170 0
  order := order
  operator := some 6
  station := p
  stamp := { date := none, second := 0 }

/-- The counter: station 1 IDLE, station 2 in ITEM, station 3 with ticket 17 called, station 4 serving
order 42 of ticket 18, a dispenser on port 5, a call display on port 6, ticket 20 waiting, ticket 7 skipped,
order 57 parked with ticket 9, and label 214 printed at station 1. -/
def counter : State :=
  { State.reset with
    ret := { Retained.empty with
      items := [recordOf salad {}, recordOf roll { items := 3, count := 6, value := 510 }]
      templates := (Vector.replicate 16 none).set 2 (some priceTemplate) |>.set 3 (some priceTemplate)
      operators := (Vector.replicate 32 none).set 6
        (some { name := [65], enabled := true, voidPermission := true })
      cal := Vector.replicate 14 (some cal)
      generation := 42 }
    clock := { date := ⟨2031, 3, 14⟩, second := 36000, valid := true }
    ports := Vector.ofFn fun p =>
      match p.val with
      | 0 => scale
      | 1 => inItem 42
      | 2 => { scale with operator := some 8, service := .called }
      | 3 => { scale with operator := some 9, service := .serving }
      | 4 => { Port.fresh none with
          state := .up, kind := some .dispenser, online := true, supervision := 2 }
      | 5 => { Port.fresh none with
          state := .up, kind := some .callDisplay, online := true, supervision := 2, mask := some 0 }
      | _ => Port.fresh (some cal)
    log := [{ serial := 214, sale := some (saleOf 0 none), state := .printed, reprints := 0,
              station := 0, order := none, day := 0 }]
    tickets :=
      { next := 21
        recs := (Vector.replicate 100 TicketRec.fresh)
          |>.set 17 { state := .called 2 60, count := 1, age := 30 }
          |>.set 18 { state := .inService, count := 1, age := 40 }
          |>.set 20 { state := .waiting, count := 0, age := 5 }
          |>.set 7 { state := .skipped, count := 1, age := 300 }
          |>.set 9 { state := .inService, count := 1, age := 90 }
        waiting := [20], calling := [], skipped := [7] }
    orders :=
      [{ number := 42, ticket := 18, state := .openAt 3, total := 170, idle := 12,
         summaryInFlight := false,
         lines := [{ serial := 213, plu := 530, quantity := 2, final := 170, generation := 42,
                     voided := false }] },
       { number := 57, ticket := 9, state := .parked, total := 0, idle := 40,
         summaryInFlight := false, lines := [] }] }

/-- The outcome is a next state with a property. -/
def leads (o : Host.Outcome State Fault Refusal) (f : State → Bool) : Bool :=
  match o with
  | .next t => f t
  | .fault _ => false
  | .refused _ => false

/-! ### Ill-formed commands, one for each check of WellFormed -/

/-- A tag 0, a tag above 255; a port, an operator and a table number past one byte. -/
theorem test_wf_tags_and_bytes :
    wellFormed (.status 0) = false ∧ wellFormed (.status 256) = false ∧
      wellFormed (.calRead 1 256) = false ∧ wellFormed (.operatorWrite 1 256 none) = false ∧
      wellFormed (.translateWrite 1 256 .low []) = false ∧ wellFormed (.printDone 0 256 .ok) = false ∧
      wellFormed (.statusClear 1 (some 256)) = false ∧ wellFormed (.templateWrite 1 256 none) = false := by
  decide +kernel

/-- Numbers past their three bytes, a number past two bytes, a sample past its range. -/
theorem test_wf_numbers :
    wellFormed (.plu 0 16777216) = false ∧ wellFormed (.orderRead 1 (some 65536)) = false ∧
      wellFormed (.sample 0 0 0 0 8388608) = false ∧ wellFormed (.sample 0 (-8388609) 0 0 0) = false ∧
      wellFormed (.timeSet 1 ⟨65536, 1, 1⟩ 0) = false ∧
      wellFormed (.commit 1 (some (⟨2031, 1, 1⟩, 65536))) = false ∧
      wellFormed (.dayRecordRead 1 none 65536) = false ∧ wellFormed (.orderAbandoned 0) = false ∧
      wellFormed (.orderAbandoned 10000) = false := by decide +kernel

/-- No character at all, frames of five bytes, an area named twice. -/
theorem test_wf_frames :
    wellFormed (.frameDiscard 1 [] false) = false ∧
      wellFormed (.malformedFrame 0 (List.replicate 5 0)) = false ∧
      wellFormed (.malformedRequest 0 (List.replicate 4 0)) = false ∧
      wellFormed (.powerUp [(.items, 0), (.items, 1)]) = false := by decide +kernel

/-- Records that do not fit a frame or whose fields do not fit their bytes. -/
theorem test_wf_records :
    wellFormed (.operatorWrite 1 1 (some ⟨List.replicate 244 65, true, true⟩)) = false ∧
      wellFormed (.calWrite 1 1 { cal.toCalFields with e1 := 256 } none) = false ∧
      wellFormed (.pluStage 1 [.put { salad with price := 16777216 } none]) = false ∧
      wellFormed (.pluStage 1 [.put salad (some ⟨256, 0, 0⟩)]) = false ∧
      wellFormed (.pluStage 1 (List.replicate 62 (.delete 5))) = false ∧
      wellFormed (.translateWrite 1 0 .low (List.replicate 247 0)) = false := by decide +kernel

def rawTotal (line width : Nat) : FieldRaw where
  kind := some .totalPrice
  line := line
  column := 1
  width := width
  justify := some .right
  fill := 32
  translation := some .none
  trim := false
  text := none

/-- Templates and configuration entries: a line past one byte, too many descriptors for one frame, a mask
too long for one frame, a value past two bytes, a known identifier called unknown. -/
theorem test_wf_templates_and_entries :
    wellFormed (.templateWrite 1 1 (some ⟨some .item, [rawTotal 256 8]⟩)) = false ∧
      wellFormed (.templateWrite 1 1 (some ⟨some .item, List.replicate 28 (rawTotal 1 8)⟩)) = false ∧
      wellFormed (.configWrite 1 [.mask 0 (List.replicate 246 3)]) = false ∧
      wellFormed (.configWrite 1 [.number .serviceRatio 65536]) = false ∧
      wellFormed (.configWrite 1 [.unknown 11]) = false := by decide +kernel

/-- Commands at the edges of the same checks. -/
theorem test_wf_accepts :
    wellFormed (.status 255) = true ∧ wellFormed (.sample 0 8388607 (-8388608) 0 0) = true ∧
      wellFormed (.malformedRequest 7 (frameBytes 0 12 0 [1]).tail) = true ∧ wellFormed (.orderAbandoned 9999) = true ∧
      wellFormed (.pluStage 1 (List.replicate 61 (.delete 5))) = true ∧
      wellFormed (.templateWrite 1 1 (some ⟨some .item, List.replicate 20 (rawTotal 1 8)⟩)) = true ∧
      wellFormed (.configWrite 1 [.mask 0 [3, 3]]) = true ∧
      wellFormed (.configWrite 1 [.unknown 12]) = true := by decide +kernel

/-! ### States around the counter -/

/-- A state with one port changed. -/
def withPort (s : State) (p : CounterPort) (f : Port → Port) : State := s.setPort p (f (s.port p))

/-- A closing day. -/
def closing (n : Nat) (b : Bool) (s : State) : State := { s with dayState := .closing n b }

/-- Every notice enabled. -/
def noisy (s : State) : State :=
  { s with notices := { NoticeQueue.fresh with
      enables := ⟨true, true, true, true, true, true, true, true, true⟩ } }

/-- No ticket waits. -/
def unasked : State :=
  { counter with tickets := { counter.tickets with
      waiting := [], recs := counter.tickets.recs.set 20 TicketRec.fresh } }

/-- Station 1 asks for the next ticket. -/
def asking : State :=
  withPort { unasked with tickets := { unasked.tickets with calling := [0] } } 0
    ({ · with service := .asking })

/-- Ticket 17's call timer at its last second. -/
def late (s : State) : State :=
  { s with tickets := { s.tickets with
      recs := s.tickets.recs.set 17 { state := .called 2 1, count := 1, age := 30 } } }

/-- Order 57 in its last parked second of thirty minutes. -/
def forgotten : State :=
  { counter with orders := counter.orders.map fun o => { o with idle := 1799 } }

/-- A label of station 1 under a class and a serial. -/
def labelOf (cls : LabelClass) (serial : Nat) : SlotLabel where
  cls := cls
  image := { grid := List.replicate 256 33, barcode := none }
  serial := serial
  day := 0
  sale := none

/-- Station 1 with label 214 at its printer and another behind it. -/
def printing (pr : PrinterState) : State :=
  withPort { counter with log := counter.log.map fun e => { e with state := .posted } } 0 fun c =>
    { c with
      printer := pr
      slots := { labels := #v[some (labelOf .item 214), some (labelOf .item 215), none, none]
                 free := [2, 3], post := [0, 1], outstanding := some 0 } }

/-- A commit that waits for the snapshot of station 2, taken before generation 42. -/
def draining (timer awaited : Nat) : State :=
  { withPort counter 1 (fun _ => inItem 41) with
    staged := [.delete 417]
    commit := .waiting { timer := timer, expired := false, awaited := awaited, forced := 3 } }

/-- Station 2's sale frozen and in composition on a field of a width. -/
def composing (width : Nat) (dropped : Bool) : State :=
  { withPort counter 1 (fun c =>
      { c with sale := .printing, record := some (saleOf 1 none) }) with
    composer := { Composer.fresh with
      current := some { job := { station := 1, source := .item (saleOf 1 none) }
                        template := { kind := .item, fields := [totalField width] }
                        table0 := identityTable, table1 := identityTable, dropped := dropped } } }

/-- No sale, no order, no called ticket and no job: the day can close, with ticket 20 waiting. -/
def quiet : State :=
  { counter with
    ports := counter.ports.map fun c =>
      { c with sale := if c.sale = .item then .idle else c.sale, snapshot := none, service := .free }
    orders := []
    tickets := { counter.tickets with
      recs := (Vector.replicate 100 TicketRec.fresh).set 20 { state := .waiting, count := 0, age := 5 }
      skipped := [] } }

/-- What a command leads to. -/
def does (i : Instr) (s : State) (f : State → Bool) : Bool := leads (exec i s) f

/-- A station's message after a command. -/
def tells (i : Instr) (s : State) (p : CounterPort) (m : MsgCode) : Bool :=
  does i s fun t => decide ((t.port p).held = some m)

/-- The last reply after a request. -/
def replies (i : Instr) (s : State) (code : ResultCode) (data : ReplyData) : Bool :=
  does i s fun t => decide ((t.uplink.replies.getLast?.map fun r => (r.result, r.data)) =
    some (code, data))

/-! ### Single steps -/

/-- R9: a line that drops takes the station OFFLINE. -/
theorem test_line_drop :
    does (.lineDrop 4) counter (fun t => decide ((t.port 4).state = .down ∧ (t.port 4).online = false))
      = true := by decide +kernel

theorem test_line_return : does (.lineReturn 0) counter (fun t => decide (t = counter)) = true := by
  decide +kernel

/-- An uplink that is UP with two notices. -/
def notified : State :=
  { counter with
    uplink := { counter.uplink with up := true }
    notices := { NoticeQueue.fresh with
      queue := [⟨counter.clock.stamp, .calChanged 0 1⟩, ⟨counter.clock.stamp, .calChanged 0 2⟩] } }

/-- R195: the notice whose frame the drop cuts is lost, and the one behind it stays. -/
theorem test_uplink_line_drop :
    does .uplinkLineDrop notified (fun t => decide (t.uplink.up = false ∧ t.notices.lost = 0)) = true ∧
      ((uplinkDrop notified).notices.queue.map (·.body) =
        if Config.freeBit 0 then [.calChanged 0 2] else [.calChanged 0 1, .calChanged 0 2]) := by
  refine ⟨by decide +kernel, ?_⟩
  have hm : noticeMaySend notified = true := by decide +kernel
  have hf : notified.free = 0 := by decide +kernel
  cases h : Config.freeBit 0 <;> simp [uplinkDrop, loseNotice, uplinkDown, hm, hf, h] <;> simp [notified]

/-- R184: Length 5 is a framing error. -/
theorem test_frame_discard :
    does (.frameDiscard 14 [⟨5, true⟩] false) counter
      (fun t => decide ((t.port 13).errors = { framing := 1 })) = true := by decide +kernel

theorem test_malformed_frame :
    does (.malformedFrame 0 (frameBytes 1 7 0 [])) counter
      (fun t => decide ((t.port 0).errors.protocol = 1)) = true := by decide +kernel

/-- R187: tag 0, code 21, a PLU_STAGE with no entries; a DELETE of 417 is one. -/
theorem test_malformed_request :
    replies (.malformedRequest 7 (frameBytes 0 12 0 [1]).tail) counter .badFrame .none = true ∧
      malformedRequest (frameBytes 0 12 7 [21]) = true ∧ malformedRequest (frameBytes 0 12 7 [9, 0]) = true ∧
      requestOfFrame (frameBytes 0 12 7 [9, 1, 2, 0, 1, 161]) = some (.pluStage 7 [.delete 417]) := by
  decide +kernel

/-- The forms of R181: a COMMIT with a date and minute, an OPERATOR_WRITE with a name, a CONFIG_WRITE. -/
theorem test_requests_read :
    requestOfFrame (frameBytes 0 12 7 [11, 1, 7, 239, 3, 14, 2, 88]) =
        some (.commit 7 (some (⟨2031, 3, 14⟩, 600))) ∧
      requestOfFrame (frameBytes 0 12 7 [5, 7, 1, 2, 65, 66, 1, 2]) =
        some (.operatorWrite 7 7 (some ⟨[65, 66], true, false⟩)) ∧
      requestOfFrame (frameBytes 0 12 7 [19, 2, 4, 1, 44, 11, 3]) =
        some (.configWrite 7 [.number .callTimeout 300, .zeroTracking none]) := by decide +kernel

/-- 10.4: PLU 417, a sample of -1, and a STATUS that is not read at a dispenser. -/
theorem test_frames_read :
    commandOfFrame 0 false (frameBytes 1 4 0 [6, 0, 1, 161]) = some (.plu 0 417) ∧
      commandOfFrame 0 false (frameBytes 1 3 0 [255, 255, 255, 0, 0, 1, 0, 0, 2, 0, 0, 3]) =
        some (.sample 0 (-1) 1 2 3) ∧
      commandOfFrame 0 false (frameBytes 1 2 0 [0, 0]) = none ∧
      commandOfFrame 0 true (frameBytes 1 2 0 [0, 0]) = some (.statusFrame 0 .off .ready) := by
  decide +kernel

/-- R135: the lowest mask number that no other call display holds. -/
theorem test_hello :
    does (.hello 9 (some .callDisplay) .off .ready) counter
      (fun t => decide ((t.port 9).mask = some 1 ∧ (t.port 9).online = true)) = true := by decide +kernel

theorem test_status_frame :
    does (.statusFrame 0 .off .jam) counter
      (fun t => decide ((t.port 0).printer = .fault ∧ (t.port 0).supervision = 3)) = true := by
  decide +kernel

/-- 2.6, event 19: eight samples that sum to 1,346,195 weigh 4,992 tenths over Z. -/
theorem test_sample :
    does (.sample 0 168274 168274 168274 168275)
      (withPort counter 0 fun c =>
        { c with weigh := { c.weigh with window := [168274, 168275, 168274, 168275] } })
      (fun t => decide ((t.port 0).weigh.band = [4992] ∧ (t.port 0).weigh.state = .motion)) = true := by
  decide +kernel

theorem test_sample_gap_expiry :
    does (.sampleGapExpiry 0) counter
      (fun t => decide ((t.port 0).weigh.state = .noData ∧ (t.port 0).weigh.gapRunning = false))
      = true := by decide +kernel

theorem test_supervision_expiry :
    does (.supervisionExpiry 4) (withPort counter 4 ({ · with supervision := 1 }))
      (fun t => decide ((t.port 4).state = .up ∧ (t.port 4).online = false)) = true := by decide +kernel

theorem test_login :
    tells (.login 0 8) counter 0 .operatorUnknown = true ∧ tells (.login 1 6) counter 1 .busy = true := by
  decide +kernel

theorem test_logout :
    does (.logout 0) counter
      (fun t => decide ((t.port 0).operator = none ∧ (t.port 0).sale = .noOperator)) = true := by
  decide +kernel

/-- R31: a tare stands in the way of ZERO. -/
theorem test_zero :
    tells (.zero 0) (withPort counter 0 fun c => { c with weigh := { c.weigh with tare := ⟨.keyed, 12⟩ } })
      0 .tareActive = true := by decide +kernel

/-- R34: 488 g is taken as a WEIGHED tare. -/
theorem test_tare :
    does (.tare 0) counter (fun t => decide ((t.port 0).weigh.tare = ⟨.weighed, 488⟩)) = true := by
  decide +kernel

/-- R35: 12 g is a multiple of e1, 13 g is not, 7,502 g is past half of Max. -/
theorem test_keyed_tare :
    does (.keyedTare 0 12) counter (fun t => decide ((t.port 0).weigh.tare = ⟨.keyed, 12⟩)) = true ∧
      tells (.keyedTare 0 13) counter 0 .tareInvalid = true ∧
      tells (.keyedTare 0 7502) counter 0 .tareRange = true := by decide +kernel

/-- R50: 488 g at 24.90 a kilogram is 12.15. -/
theorem test_plu :
    does (.plu 0 417) counter (fun t => decide (((t.port 0).snapshot.bind fun sn => sn.live) =
      some ⟨some ⟨1215, 0, 1215⟩, none⟩)) = true := by decide +kernel

/-- R46, R79, R169: the reselection at station 2 completes a commit that deletes the keyed number; its record
stays, RETIRED, for the sale that follows. -/
theorem test_plu_reselects :
    does (.plu 1 417) (draining 9 1) (fun t => decide (t.ret.generation = 43 ∧
      t.ret.items.map (fun r => (r.item.plu, r.status)) = [(417, .retired), (530, .live)] ∧
      ((t.port 1).snapshot.map fun sn => (sn.item.plu, sn.generation)) = some (417, 43))) = true := by
  decide +kernel

theorem test_qty :
    does (.qty 1 3) counter (fun t => decide (((t.port 1).snapshot.bind fun sn => sn.live) =
      some ⟨some ⟨255, 0, 255⟩, none⟩)) = true ∧ tells (.qty 1 1000) counter 1 .qtyRange = true := by
  decide +kernel

theorem test_print :
    does (.print 1) counter (fun t =>
      decide ((t.port 1).sale = .printing ∧ t.composer.queue.map (·.station) = [1])) = true := by
  decide +kernel

theorem test_cancel :
    does (.cancel 1) counter (fun t => decide ((t.port 1).sale = .idle ∧ (t.port 1).snapshot = none))
      = true := by decide +kernel

/-- R120: the item's three sales of 5.10 come down by 1.70. -/
theorem test_void :
    does (.void 0 214) counter (fun t => decide (t.ret.items.map (·.totals.value) = [0, 340] ∧
      t.log.map (·.state) = [.voided])) = true ∧ tells (.void 0 215) counter 0 .notInLog = true := by
  decide +kernel

theorem test_reprint :
    does (.reprint 0 214) counter (fun t =>
      decide (t.composer.queue = [{ station := 0, source := .reprint 214 }])) = true := by decide +kernel

theorem test_next :
    does (.next 0) counter (fun t =>
      decide ((t.ticket 20).state = .called 0 120 ∧ (t.port 0).service = .called)) = true := by
  decide +kernel

theorem test_serve :
    does (.serve 2) counter (fun t =>
      decide (t.orders.map (·.number) = [1, 42, 57] ∧ (t.ticket 17).state = .inService)) = true := by
  decide +kernel

theorem test_recall : does (.recall 2) counter (fun t => decide ((t.ticket 17).count = 2)) = true := by
  decide +kernel

theorem test_skip :
    does (.skip 2) counter (fun t => decide (t.tickets.skipped = [7, 17] ∧ (t.port 2).service = .free))
      = true := by decide +kernel

theorem test_recall_skipped :
    does (.recallSkipped 0 7) counter (fun t => decide ((t.ticket 7).state = .called 0 120 ∧
      (t.ticket 7).count = 1)) = true := by decide +kernel

theorem test_cancel_next :
    does (.cancelNext 0) asking (fun t => decide (t.tickets.calling = [])) = true ∧
      tells (.cancelNext 0) counter 0 .notWaiting = true := by decide +kernel

theorem test_park :
    does (.park 3) counter (fun t => decide (t.orders.map (·.state) = [.parked, .parked])) = true := by
  decide +kernel

theorem test_pickup :
    does (.pickup 0 9) counter (fun t => decide (t.orders.map (·.state) = [.openAt 3, .openAt 0])) = true ∧
      tells (.pickup 0 7) counter 0 .noOrder = true := by decide +kernel

theorem test_close_order :
    does (.closeOrder 3) counter (fun t =>
      decide (t.orders.map (·.summaryInFlight) = [true, false])) = true := by decide +kernel

theorem test_print_done :
    does (.printDone 0 0 .ok) (printing .ready) (fun t =>
      decide ((t.port 0).slots.free = [2, 3, 0] ∧ (t.port 0).slots.outstanding = some 1 ∧
        t.log.map (·.state) = [.printed])) = true := by decide +kernel

theorem test_take_request :
    does (.takeRequest 4) counter (fun t => decide ((t.port 4).tx = [.takeAnswer (.issue 21)] ∧
      t.tickets.waiting = [20, 21] ∧ t.tickets.next = 22)) = true := by decide +kernel

theorem test_take_decision :
    does .takeDecision { counter with composer := { Composer.fresh with
        queue := [{ station := 0, source := .reprint 214 }] } }
      (fun t => decide (t.composer.queue = [] ∧ t.composer.current.isSome)) = true := by decide +kernel

/-- R117: 1.70 in a field of four; R97: it does not fit three. -/
theorem test_composition_complete :
    does .compositionComplete (composing 4 false) (fun t =>
      decide (t.log.map (·.serial) = [214, 1] ∧ (t.port 1).sale = .idle)) = true ∧
      tells .compositionComplete (composing 3 false) 1 .labelFieldOverflow = true := by decide +kernel

theorem test_call_timeout :
    does (.callTimeout 17) (late counter) (fun t => decide (t.tickets.skipped = [7, 17])) = true ∧
      does (.callTimeout 17) counter (fun t => decide (t = counter)) = true := by decide +kernel

theorem test_order_abandoned :
    does (.orderAbandoned 57) forgotten (fun t =>
      decide (t.orders.map (·.number) = [42] ∧ (t.ticket 9).state = .free)) = true := by decide +kernel

theorem test_clock_tick :
    does .clockTick counter (fun t => decide (t.clock.second = 36001 ∧
      (t.ticket 17).state = .called 2 59 ∧ (t.port 0).supervision = 1)) = true := by decide +kernel

theorem test_commit_activation :
    does .commitActivation { counter with
        staged := [.delete 417], commit := .scheduled ⟨2031, 3, 14⟩ 600 }
      (fun t => decide (t.ret.generation = 43 ∧ t.ret.items.map (·.item.plu) = [530])) = true := by
  decide +kernel

theorem test_commit_drain_expiry :
    does .commitDrainExpiry (draining 1 1) (fun t => decide ((t.port 1).snapshot = none ∧
      (t.port 1).held = some .priceChanged ∧ t.ret.generation = 43)) = true := by decide +kernel

theorem test_commit_completion :
    does .commitCompletion (draining 9 0) (fun t =>
      decide (t.ret.generation = 43 ∧ t.commit = .editing ∧ t.staged = [])) = true := by decide +kernel

theorem test_close_drain_expiry :
    does .closeDrainExpiry { closing 1 false counter with composer := { Composer.fresh with
        queue := [{ station := 0, source := .reprint 214 }] } }
      (fun t => decide ((t.port 1).held = some .dayClosing ∧ t.dayState = .closing 0 true)) = true := by
  decide +kernel

theorem test_day_close_completion :
    does .dayCloseCompletion (closing 9 false quiet) (fun t =>
      decide (t.ret.day.number = 1 ∧ t.log = [] ∧ t.tickets.waiting = [])) = true := by decide +kernel

theorem test_status :
    does (.status 5) counter (fun t => decide (t.uplink.replies.map (·.tag) = [5])) = true := by
  decide +kernel

theorem test_status_clear : replies (.statusClear 5 (some 15)) counter .badRecord .none = true := by
  decide +kernel

theorem test_notice_enable :
    replies (.noticeEnable 5 Enables.off) (noisy counter) .ok
      (.enables ⟨true, true, true, true, true, true, true, true, true⟩) = true := by decide +kernel

theorem test_hub_reset :
    does (.hubReset 5) counter (fun t => t.uplink.resetPending) = true := by decide +kernel

theorem test_warm_reset :
    does .warmReset counter (fun t => decide ((t.port 0).state = .down ∧ t.clock = counter.clock ∧
      t.ret.generation = 42)) = true := by decide +kernel

/-- R198: a check value of GENERATION that is not the one over its contents. -/
theorem test_power_up (v : Nat) (h : v ≠ areaCheck counter.ret .generation) :
    does (.powerUp [(.generation, v)]) counter (fun t => decide (t.ret.generation = 0 ∧
      t.clock.valid = false ∧ t.notices.queue.map (·.body) = [.retainedLost .generation])) = true := by
  have ha : areaFails [(.generation, v)] counter.ret = fun a => a == .generation := by
    funext a
    by_cases hg : a = .generation
    · subst hg; simp [areaFails, h]
    · have hb : (a == Area.generation) = false := by simpa using hg
      simp [areaFails, List.lookup, hb]
  have hf : failedAreas [(.generation, v)] counter.ret = [.generation] := by
    rw [failedAreas, ha]; decide +kernel
  simp only [does, exec, execPowerUp, powerUp, hf]
  decide +kernel

/-- R80, R17: the drain's expiry at a tick is one event, and station 2's DISPLAY is sent with it. -/
theorem test_tick_event :
    (let t := takeTickEvent (draining 0 2) .commitDrain
     decide ((t.port 1).displayDue = false ∧ (t.port 1).tx.length = 1 ∧
      t.commit = .waiting { timer := 0, expired := true, awaited := 1, forced := 4 })) = true := by
  decide +kernel

theorem test_operator_write :
    replies (.operatorWrite 5 7 none) counter .operatorBusy .none = true ∧
      replies (.operatorWrite 5 33 none) counter .badRecord .none = true := by decide +kernel

theorem test_cal_write :
    replies (.calWrite 5 1 cal.toCalFields (some .default)) counter .calLocked .none = true := by
  decide +kernel

theorem test_cal_read :
    replies (.calRead 5 14) counter .ok (.calibration (some cal) .noData 8 0 0 0 0) = true := by
  decide +kernel

theorem test_plu_read :
    replies (.pluRead 5 418 99999) counter .ok
      (.items 42 [recordOf roll { items := 3, count := 6, value := 510 }] none) = true := by decide +kernel

theorem test_plu_stage :
    replies (.pluStage 5 [.put salad none, .delete 417]) counter .ok (.count 1) = true := by decide +kernel

theorem test_stage_discard :
    replies (.stageDiscard 5) { counter with staged := [.delete 417] } .ok (.count 1) = true := by
  decide +kernel

theorem test_commit :
    replies (.commit 5 none) { counter with staged := [.delete 417] } .ok (.commit .editing 43) = true ∧
      replies (.commit 5 none) counter .nothingStaged .none = true := by decide +kernel

theorem test_commit_abort : replies (.commitAbort 5) (draining 9 1) .ok (.aborted 3 1) = true := by
  decide +kernel

theorem test_template_write :
    replies (.templateWrite 5 3 (some ⟨some .item, [rawTotal 8 8, rawTotal 9 8]⟩)) counter
      .badRecord (.position 2) = true := by decide +kernel

theorem test_translate_write :
    does (.translateWrite 5 1 .high (List.replicate 128 7)) counter (fun t =>
      decide (t.ret.table1[127] = 127 ∧ t.ret.table1[128] = 7)) = true := by decide +kernel

theorem test_order_read :
    replies (.orderRead 5 (some 58)) counter .noOrder .none = true := by decide +kernel

theorem test_totals_read :
    replies (.totalsRead 5 (some .item) 418) counter .ok
      (.totals .item ⟨0, .trading, none, false, 42⟩
        [.item 530 .live 3 .byCount { items := 3, count := 6, value := 510 }] none) = true := by
  decide +kernel

theorem test_day_close :
    replies (.dayClose 5) counter .ok (.day (.closing 60 false) 0) = true := by decide +kernel

theorem test_day_record_read : replies (.dayRecordRead 5 (some .grand) 0) counter .noRecord .none = true := by
  decide +kernel

theorem test_config_write :
    does (.configWrite 5 [.number .callTimeout 601, .number .serviceRatio 2]) counter (fun t =>
      decide (t.ret.config.callTimeout = 600 ∧ t.ret.config.serviceRatio = 2)) = true := by decide +kernel

theorem test_time_set :
    does (.timeSet 5 ⟨2028, 2, 29⟩ 86399) counter (fun t =>
      decide (t.clock = ⟨⟨2028, 2, 29⟩, 86399, true⟩)) = true ∧
      replies (.timeSet 5 ⟨2027, 2, 29⟩ 0) counter .outOfRange .none = true := by decide +kernel

theorem test_uplink_transmit :
    does .uplinkTransmit { counter with uplink := { counter.uplink with
        up := true, replies := [{ tag := 5, result := .ok, data := .none }] } }
      (fun t => decide (t.uplink.replies = [])) = true := by decide +kernel

/-! ### States that meet the hypotheses of each statement

One theorem for each statement with hypotheses, one conjunct for each of its clauses. -/

/-- A ticket that is the only one called to a station. -/
theorem called_only (s : State) (p : CounterPort) (k : TicketNo)
    (h : ∀ j, calledAt p (s.ticket j).state = true → j = k) :
    ∀ j n, (s.ticket j).state = .called p n → j = k := by
  intro j n hj
  exact h j (by simp [calledAt, hj])

/-- For the statements that every step keeps an invariant: a state that steps, with the invariant shown of
it. -/
theorem meets_StepKeepsQueuesBounded :
    QueuesBounded { counter with pending := [.clockTick] } ∧
      leads (step { counter with pending := [.clockTick] }) (fun _ => true) = true := by
  refine ⟨⟨?_, ?_, ?_, ?_, ?_, ?_, ?_, ?_⟩, ?_⟩
  all_goals (try unfold Quiet); decide +kernel

theorem meets_StepKeepsSlotLists : AllSlotsSound (printing .ready) := by
  have h : ∀ p : CounterPort, ∀ k : SlotNo,
      (((printing .ready).port p).slots.free.count k + ((printing .ready).port p).slots.post.count k = 1 ∧
        ((((printing .ready).port p).slots.labels[k]).isSome =
          ((printing .ready).port p).slots.post.contains k)) ∧
        (((printing .ready).port p).slots.outstanding = some k →
          ((printing .ready).port p).slots.post.head? = some k) := by decide +kernel
  exact fun p => ⟨fun k => (h p k).1.1, fun k => (h p k).1.2, fun k => (h p k).2⟩

theorem meets_StepKeepsComposerSound : ComposerSound (composing 4 false) := by
  have hq : (composing 4 false).composer.queue = [] := by decide +kernel
  refine ⟨by simp [hq], fun c _ _ j hj => by simp [hq] at hj, fun c hc _ => ?_⟩
  have h : (composing 4 false).composer.current.all
      (fun c => decide (((composing 4 false).port c.job.station).slots.free ≠ [])) = true := by
    decide +kernel
  rw [hc] at h
  simpa using h

theorem meets_StepKeepsExclusions : LinesExclusive asking ∧ DrainsExclusive (draining 9 1) := by
  unfold LinesExclusive DrainsExclusive; decide +kernel

theorem meets_StepKeepsGenerations : GenerationsSound (draining 9 1) ∧ TableSound (draining 9 1) := by
  have h : ∀ p : CounterPort, ((draining 9 1).port p).snapshot.all (fun sn =>
      decide (((draining 9 1).port p).online = true ∧ ((draining 9 1).port p).kind = some .scale ∧
        (sn.generation = (draining 9 1).ret.generation ∨
          sn.generation = prevGen (draining 9 1).ret.generation))) = true := by decide +kernel
  refine ⟨⟨by decide +kernel, by decide +kernel, fun p sn hs => ?_, fun d hd => ?_⟩,
    ⟨by decide +kernel, by decide +kernel, by decide +kernel, fun _ _ => by decide +kernel⟩⟩
  · have := h p
    rw [hs] at this
    simpa using this
  · have : staleOpen (draining 9 1) = 1 := by decide +kernel
    rw [this]
    cases hd
    decide

theorem meets_StepKeepsLedgerBalanced : LedgerClean counter.ret.totals ∧ LedgerBalanced counter := by
  unfold LedgerBalanced LedgerClean; decide +kernel

/-- With no ticket called, no station asking, no order OPEN and no summary job, what `ServiceSound` says can be decided. -/
theorem service_sound_at_rest (s : State)
    (hp : ∀ p : CounterPort, ((s.port p).online = true → (s.port p).state = .up) ∧
      (s.port p).service = .free)
    (ht : ∀ k : TicketNo, ((s.ticket k).state = .inService ↔ ∃ o ∈ s.orders, o.ticket = k) ∧
      (∀ p, calledAt p (s.ticket k).state = false) ∧
      ((s.ticket k).state = .waiting ↔ k ∈ s.tickets.waiting) ∧
      ((s.ticket k).state = .skipped ↔ k ∈ s.tickets.skipped) ∧
      ((s.ticket k).state = .free → s.ticket k = TicketRec.fresh))
    (ho : (∀ o ∈ s.orders, o.state = .parked) ∧ s.orders.length ≤ Config.maxOrders ∧
      (s.orders.map (·.number)).Nodup ∧ (s.orders.map (·.ticket)).Nodup)
    (hl : s.tickets.calling = [] ∧ s.tickets.waiting.Nodup ∧ s.tickets.skipped.Nodup ∧
      (∀ j ∈ s.composer.queue, isSummary j = false) ∧
      s.composer.current.all (fun c => !isSummary c.job) = true) : ServiceSound s := by
  obtain ⟨hc, hw, hs, hq, hn⟩ := hl
  have parked : ∀ o ∈ s.orders, ∀ p, o.state ≠ .openAt p := fun o h p hp => by simp [ho.1 o h] at hp
  have called : ∀ (p : CounterPort) (k : TicketNo) (n : Nat), (s.ticket k).state ≠ .called p n := by
    intro p k n hk
    have := (ht k).2.1 p
    simp [calledAt, hk] at this
  constructor
  case upOnline => exact fun p => (hp p).1
  case attended => exact fun p h => absurd (hp p).2 h
  case asking => intro p; simp [(hp p).2, hc]
  case called => intro p; simp [(hp p).2, called p]
  case calledOnce => exact fun p j k m n h => absurd h (called p j m)
  case serving => intro p; simp only [(hp p).2, reduceCtorEq, false_iff]; exact fun ⟨o, h, hs⟩ => parked o h p hs
  case waiting => exact fun k => (ht k).2.2.1
  case skipped => exact fun k => (ht k).2.2.2.1
  case inService => exact fun k => (ht k).1
  case freeFresh => exact fun k => (ht k).2.2.2.2
  case lists => exact ⟨by simp [hc], hw, hs⟩
  case orders => exact ho.2
  case openOnce => exact fun o h _ _ p hs => absurd hs (parked o h p)
  case summaries =>
    intro j n k w h hs
    have summary : isSummary j = true := by simp [isSummary, hs]
    rcases h with h | ⟨c, hcur, -, rfl⟩
    · simp [hq j h] at summary
    · simp [hcur, summary] at hn

theorem quiet_service_sound : ServiceSound quiet :=
  service_sound_at_rest quiet (by decide +kernel) (by decide +kernel) (by decide +kernel) (by decide +kernel)

/-- The orders of the counter, a line of 1.70 and none, in a state with no job. -/
theorem meets_StepKeepsServiceLine :
    (ComposerSound quiet ∧ ServiceSound quiet ∧ OrdersSound quiet) ∧ OrdersSound counter := by
  have hq : quiet.composer.queue = [] ∧ quiet.composer.current = none ∧ quiet.orders = [] := by
    decide +kernel
  have hc : counter.composer.queue = [] ∧ counter.composer.current = none := by decide +kernel
  refine ⟨⟨⟨?_, ?_, ?_⟩, quiet_service_sound, ⟨?_, ?_⟩⟩, ⟨by decide +kernel, ?_⟩⟩ <;> simp [hq, hc]

theorem meets_StepRunsFrontCommand :
    ({ counter with pending := [.clockTick, .next 0] } : State).pending = .clockTick :: [.next 0] := rfl

theorem meets_IdleStepSendsOldestFrames :
    counter.pending = [] ∧ (counter.port 0).tx = [] ∧
      ((withPort counter 0 ({ · with tx := [.refused, .refused] })).port 0).tx = .refused :: [.refused] := by
  decide +kernel

theorem meets_TablesChangeOnlyByTheirWriters :
    does .clockTick counter (fun _ => true) = true ∧ Instr.clockTick ≠ .uplinkTransmit := by
  decide +kernel

/-- Forty items, every second number from 1000. -/
def many : State :=
  { counter with ret := { counter.ret with
      items := (List.range 40).map fun n => recordOf { roll with plu := n * 2 + 1000 } {} } }

/-- A frozen record of forty items. -/
def dayThree : DayRecord where
  number := 3
  opened := none
  closed := { date := none, second := 0 }
  totalsLost := false
  totals := Totals.empty
  items := (List.range 40).map fun n =>
    { plu := n, name := [65], department := 1, mode := .byCount, status := .live
      totals := { items := 1 } }

def withRecord : State :=
  { counter with ret := { counter.ret with day := { counter.ret.day with record := some dayThree } } }

theorem meets_ReadingRequestsAnswer :
    (UplinkOpen counter ∧ (counter.port 0).online = true ∧ (counter.port 0).kind = some .scale ∧
      (counter.port 4).kind = some .dispenser ∧ (counter.port 13).online = false) ∧
    (UplinkOpen many ∧
      (many.ret.items.filter fun r => 1000 ≤ r.item.plu && r.item.plu ≤ 1063).length = 32 ∧
      (many.ret.items.filter fun r => 1000 ≤ r.item.plu && r.item.plu ≤ 1064).length = 33 ∧
      (many.ret.items.filter fun r => 1000 ≤ r.item.plu && r.item.plu ≤ 1064)[31]? =
        some (recordOf { roll with plu := 1062 } {}) ∧
      (many.ret.items.filter fun r => 1014 ≤ r.item.plu && r.item.plu ≤ 99999).length = 33 ∧
      (many.ret.items.filter fun r => 1014 ≤ r.item.plu && r.item.plu ≤ 99999)[31]? =
        some (recordOf { roll with plu := 1076 } {}) ∧
      (many.ret.items.filter fun r => 1016 ≤ r.item.plu && r.item.plu ≤ 99999).length = 32) ∧
    (counter.orders.find? (fun x => x.number == 57) = counter.orders[1]? ∧
      (∀ o ∈ counter.orders, o.number ≠ 58)) ∧
    (UplinkOpen withRecord ∧ withRecord.ret.day.record = some dayThree ∧ dayThree.items.length = 40) ∧
    counter.ret.day.record = none := by
  unfold UplinkOpen Quiet; decide +kernel

theorem meets_uplink_statements : UplinkOpen counter ∧ UplinkOpen (noisy counter) := by
  unfold UplinkOpen Quiet; decide +kernel

/-- For NOTICE_ENABLE: the master OFF at reset; a class OFF under a master that is ON. -/
theorem meets_NoticeEnableReplacesEnables :
    UplinkOpen counter ∧ counter.notices.enables.master = false ∧
      classEnabled { Enables.off with master := true } (.calChanged 0 1) = false := by
  unfold UplinkOpen Quiet; decide +kernel

def restarting : State :=
  { counter with uplink := { counter.uplink with
      up := true, resetPending := true, replies := [{ tag := 9, result := .ok, data := .none }] } }

theorem meets_HubResetThenWarmReset :
    UplinkOpen counter ∧ (restarting.uplink.resetPending = true ∧ restarting.uplink.up = true ∧
      restarting.uplink.sentParts = 0 ∧
      restarting.uplink.replies = [{ tag := 9, result := .ok, data := .none }]) := by
  unfold UplinkOpen Quiet; decide +kernel

def named (n : Nat) : OperatorRecord :=
  { name := List.replicate n 65, enabled := true, voidPermission := true }

/-- Names of 12, of 0 and of 13 characters, operators 3 and 7 of the tables, numbers 0 and 33. -/
theorem meets_OperatorWriteReplacesRecord :
    (UplinkOpen counter ∧ (1 ≤ (named 12).name.length ∧ (named 12).name.length ≤ 12) ∧
      (∀ q : CounterPort, (counter.port q).operator ≠ some 2)) ∧
    (counter.port 0).operator = some 6 ∧ (named 0).name.length = 0 ∧ 12 < (named 13).name.length := by
  unfold UplinkOpen Quiet; decide +kernel

def sealed : State := withPort counter 0 fun c => { c with calSwitch := .on, sale := .calibrating }

theorem meets_CalWriteStoresRecord :
    (UplinkOpen sealed ∧ ScaleOnline sealed 0 ∧ (sealed.port 0).calSwitch = .on ∧
      (sealed.port 0).sale ≠ .item ∧ (sealed.port 0).sale ≠ .printing ∧
      calValid cal.toCalFields = true) ∧
    (counter.port 0).calSwitch = .off := by
  unfold UplinkOpen Quiet ScaleOnline; decide +kernel

def block : List StageEntry := [.put salad none, .delete 530, .delete 417]

def scheduled (s : State) (minute : Nat) : State :=
  { s with staged := block, commit := .scheduled ⟨2031, 3, 14⟩ minute }

theorem meets_StagingChangesPendingList :
    (UplinkOpen counter ∧ counter.commit = .editing ∧ counter.dayState = .trading ∧
      1 ≤ block.length ∧ block.length ≤ 32 ∧ (∀ e ∈ block, entryValid e = true) ∧
      (stageAll block counter.staged).length ≤ 256) ∧
    (UplinkOpen (scheduled counter 600) ∧ (scheduled counter 600).commit ≠ .editing) := by
  unfold UplinkOpen Quiet; decide +kernel

/-- The counter with a staged list, station 2's snapshot under a generation. -/
def listed (generation : Nat) : State :=
  { withPort counter 1 (fun _ => inItem generation) with staged := block }

/-- A table full of 2,000 items. -/
def fullTable : State :=
  { listed 42 with ret := { counter.ret with
      items := (List.range 2000).map fun n => recordOf { roll with plu := n + 1000 } {} } }

theorem meets_CommitIsTakenAndAborted :
    (UplinkOpen counter ∧ counter.commit = .editing ∧ counter.dayState = .trading ∧
      counter.staged = []) ∧
    (UplinkOpen (listed 42) ∧ (listed 42).staged ≠ [] ∧
      capacityCount (listed 42).ret.items (listed 42).staged ≤ 2000 ∧ staleOpen (listed 42) = 0) ∧
    (UplinkOpen (listed 41) ∧ staleOpen (listed 41) ≠ 0) ∧
    (dateValid ⟨2099, 12, 31⟩ = true ∧ (listed 41).clock.valid = true) ∧
    (UplinkOpen fullTable ∧ fullTable.commit = .editing ∧ fullTable.dayState = .trading ∧
      fullTable.staged ≠ [] ∧ capacityCount fullTable.ret.items fullTable.staged = 2001) ∧
    (UplinkOpen (scheduled counter 600) ∧
      (scheduled counter 600).commit = .scheduled ⟨2031, 3, 14⟩ 600) ∧
    (UplinkOpen (draining 9 1) ∧ (draining 9 1).commit =
      .waiting { timer := 9, expired := false, awaited := 1, forced := 3 }) := by
  unfold UplinkOpen Quiet; decide +kernel

/-- Descriptors on line 8 stand, one on line 9 does not; half a table is 128 codes. -/
theorem meets_LabelTablesAreWritten :
    UplinkOpen counter ∧
      (List.replicate 20 (rawTotal 8 8)).map fieldOf =
        (List.replicate 20 { totalField 8 with line := 8 }).map some ∧
      (∀ f ∈ List.replicate 18 (rawTotal 8 8), fieldOf f ≠ none) ∧ fieldOf (rawTotal 9 8) = none ∧
      (List.replicate 128 (0 : Byte)).length = 128 := by
  unfold UplinkOpen Quiet; decide +kernel

theorem meets_ConfigWriteClampsIntoRange :
    UplinkOpen counter ∧ ConfigSound counter.ret.config ∧
      firstFailing 1 [] [.number .serviceRatio 9, .mask 2 [0, 1, 15], .zeroTracking (some false)] =
        none := by
  refine ⟨?_, ⟨?_, ?_, ?_, ?_, ?_, ?_⟩, ?_⟩
  all_goals (try unfold UplinkOpen Quiet); decide +kernel

/-- The last second of a leap day; a day that does not exist; a second past the last; a scheduled commit
brought due to its minute. -/
theorem meets_TimeSetSetsClock :
    (UplinkOpen counter ∧ dateValid ⟨2028, 2, 29⟩ = true ∧ counter.commit = .editing) ∧
    dateValid ⟨2027, 2, 29⟩ = false ∧
    (let s := scheduled (listed 41) 1439
     UplinkOpen s ∧ s.commit = .scheduled ⟨2031, 3, 14⟩ 1439 ∧ 1439 ≤ 86399 / 60 ∧
      capacityCount s.ret.items s.staged ≤ 2000 ∧ staleOpen s ≠ 0) := by
  unfold UplinkOpen Quiet; decide +kernel

def charsOf (bytes : List Byte) : List RxChar := bytes.map fun b => ⟨b, true⟩

/-- A request under tag 0 and one that is none of these; a frame of another port, of another kind, of a wrong
Length, with key 21, outcome 4, switch 3, printer 0; Lengths 5 and 6, six characters with a wrong check and with
a right one; an uplink whose request waits and one that will restart. -/
theorem meets_DiscardedFramesAreCounted :
    (UplinkOpen counter ∧ goodFrame (frameBytes 0 12 0 [1]) = true ∧
      malformedRequest (frameBytes 0 12 0 [1]) = true ∧ malformedRequest (frameBytes 0 12 9 [1]) = false) ∧
    (goodFrame (frameBytes 2 6 0 []) = true ∧
      (frameBytes 2 6 0 [])[1]? ≠ some (BitVec.ofNat 8 (0 : CounterPort).number)) ∧
    (goodFrame (frameBytes 1 7 0 []) = true ∧ (frameBytes 1 7 0 [])[2]? = some 7) ∧
    (goodFrame (frameBytes 1 6 0 [0]) = true ∧ (frameBytes 1 6 0 [0]).length ≠ 6) ∧
    (goodFrame (frameBytes 1 4 0 [21, 0, 0, 0]) = true ∧ (frameBytes 1 4 0 [21, 0, 0, 0])[4]? = some 21) ∧
    (goodFrame (frameBytes 1 5 0 [0, 4]) = true ∧ (frameBytes 1 5 0 [0, 4])[5]? = some 4) ∧
    (goodFrame (frameBytes 1 2 0 [3, 1]) = true ∧ (frameBytes 1 2 0 [3, 1])[4]? = some 3 ∧
      (counter.port 0).kind = some .scale) ∧
    (goodFrame (frameBytes 1 1 0 [1, 1, 0]) = true ∧ (frameBytes 1 1 0 [1, 1, 0])[6]? = some 0) ∧
    ((5 : Byte).toNat < 6 ∧ (charsOf [6, 1, 2, 3, 4]).length < (6 : Byte).toNat) ∧
    ([5, 6].map (6 : Byte).toNat.ble = [false, true] ∧
      ([6, 1, 2, 3, 4, 5] : List Byte).drop 4 ≠ crcBytes (([6, 1, 2, 3, 4, 5] : List Byte).take 4)) ∧
    ((frameBytes 1 6 0 []).length = 6 ∧
      (frameBytes 1 6 0 []).drop 4 = crcBytes ((frameBytes 1 6 0 []).take 4)) ∧
    counter.uplink.resetPending = false ∧ restarting.uplink.resetPending = true := by
  unfold UplinkOpen Quiet; decide +kernel

theorem meets_CommitActivatesAtItsMinute :
    (let s := scheduled (listed 42) 600
     Quiet s ∧ s.clock.second % 60 = 0 ∧ s.clock.valid = true ∧ s.clock.date = ⟨2031, 3, 14⟩ ∧
      600 = s.clock.second / 60 ∧ capacityCount s.ret.items s.staged ≤ 2000 ∧ staleOpen s = 0) ∧
    (Quiet (scheduled (listed 41) 600) ∧ staleOpen (scheduled (listed 41) 600) ≠ 0) ∧
    (Quiet (scheduled fullTable 600) ∧
      2000 < capacityCount (scheduled fullTable 600).ret.items (scheduled fullTable 600).staged) ∧
    (Quiet (scheduled (listed 42) 601) ∧ ¬ 601 ≤ (scheduled (listed 42) 601).clock.second / 60) := by
  unfold Quiet; decide +kernel

theorem meets_DrainedCommitCompletes :
    (Quiet (draining 9 0) ∧ (draining 9 0).commit =
      .waiting { timer := 9, expired := false, awaited := 0, forced := 3 }) ∧
    (ItemReady (draining 9 1) 1 (rollSnapshot 41) ∧ ((draining 9 1).port 1).calSwitch = .off ∧
      (draining 9 1).dayState = .trading ∧
      (rollSnapshot 41).generation = ((draining 9 1).ret.generation + 65535) % 65536) := by
  unfold ItemReady Quiet ScaleOnline; decide +kernel

/-- One G - 1 snapshot in ITEM, awaited alone or with another; the same in PRINTING; none. -/
theorem meets_CommitDrainExpiryCancelsStaleItems :
    (∀ n ∈ [1, 2], Quiet (draining 1 n) ∧ ((draining 1 n).port 1).sale = .item ∧
      ((draining 1 n).port 1).snapshot = some (rollSnapshot 41) ∧ staleOpen (draining 1 n) = 1 ∧
      (rollSnapshot 41).generation = ((draining 1 n).ret.generation + 65535) % 65536) ∧
    (let s := withPort (draining 1 1) 1 ({ · with sale := .printing })
     Quiet s ∧ (∀ p : CounterPort, (s.port p).sale ≠ .item)) ∧
    (let s := withPort (draining 1 0) 1 ({ · with sale := .idle, snapshot := none })
     Quiet s ∧ (∀ p : CounterPort, (s.port p).sale ≠ .item)) := by
  unfold Quiet; decide +kernel

theorem meets_AppliedEntriesFollowTheirKind :
    (counter.ret.items.map (·.item.plu)).Pairwise (· < ·) ∧ itemOf counter.ret.items 418 = none ∧
      itemOf counter.ret.items 417 = some (recordOf salad {}) ∧
      itemOf counter.ret.items 530 = some (recordOf roll { items := 3, count := 6, value := 510 }) := by
  decide +kernel

theorem meets_DayCloseBeginsOrCompletes :
    (UplinkOpen counter ∧ counter.commit = .editing ∧ counter.dayState = .trading ∧
      (counter.port 1).snapshot ≠ none) ∧
    (UplinkOpen (scheduled counter 600) ∧ (scheduled counter 600).commit ≠ .editing) ∧
    (UplinkOpen (closing 20 false counter) ∧
      (closing 20 false counter).dayState = .closing 20 false) ∧
    (UplinkOpen quiet ∧ quiet.commit = .editing ∧ quiet.dayState = .trading ∧
      (∀ p : CounterPort, (quiet.port p).snapshot = none) ∧ quiet.composer.queue = [] ∧
      quiet.composer.current = none ∧ quiet.orders = []) := by
  unfold UplinkOpen Quiet; decide +kernel

/-- The quiet counter with order 57 PARKED, and every notice enabled. -/
def parked : State :=
  noisy { quiet with
    orders := counter.orders.filter fun o => o.number = 57
    tickets := { quiet.tickets with
      recs := quiet.tickets.recs.set 9 { state := .inService, count := 1, age := 90 } } }

/-- A live order and notices ON; the day's last snapshot at station 2. -/
theorem meets_DayCloseCompletes_orders :
    ServiceSound (closing 9 false parked) ∧
    (Quiet (closing 9 false parked) ∧
      (∀ p : CounterPort, ((closing 9 false parked).port p).snapshot = none) ∧
      (closing 9 false parked).composer.queue = [] ∧ (closing 9 false parked).composer.current = none ∧
      (closing 9 false parked).orders.map (·.number) = [57] ∧
      (closing 9 false parked).notices.enables.master = true) := by
  refine ⟨service_sound_at_rest _ (by decide +kernel) (by decide +kernel) (by decide +kernel) (by decide +kernel), ?_⟩
  unfold Quiet; decide +kernel

theorem meets_DayCloseCompletes :
    ServiceSound (closing 9 false quiet) ∧
    (Quiet (closing 9 false quiet) ∧
      (∀ p : CounterPort, ((closing 9 false quiet).port p).snapshot = none) ∧
      (closing 9 false quiet).composer.queue = [] ∧ (closing 9 false quiet).composer.current = none ∧
      (closing 9 false quiet).notices.enables.master = false) ∧
    (Quiet (closing 9 false counter) ∧ ((closing 9 false counter).port 1).snapshot ≠ none) := by
  refine ⟨service_sound_at_rest _ (by decide +kernel) (by decide +kernel) (by decide +kernel) (by decide +kernel), ?_⟩
  unfold Quiet; decide +kernel

/-- Behind a job; behind a composition in PRINTING; and with station 2's selected rolls as all that keeps the day
open. -/
theorem meets_CloseDrainExpiryCancelsItems :
    (let s : State := { closing 1 false counter with composer := { Composer.fresh with
      queue := [{ station := 0, source := .reprint 214 }] } }
     Quiet s ∧ s.commit = .editing ∧ s.dayState = .closing 1 false ∧ s.composer.queue ≠ [] ∧
      ((s.port 1).sale = .item ∧ (s.port 1).snapshot ≠ none) ∧ (s.port 0).sale ≠ .item) ∧
    (let s := closing 1 false (composing 4 false)
     Quiet s ∧ s.commit = .editing ∧ s.dayState = .closing 1 false ∧ s.composer.queue = [] ∧
      s.composer.current ≠ none ∧ (s.port 1).sale ≠ .item ∧ (s.port 1).snapshot ≠ none) ∧
    (let s := closing 1 false (withPort parked 1 fun _ => inItem 42)
     ServiceSound s ∧ Quiet s ∧ s.commit = .editing ∧ s.dayState = .closing 1 false ∧
      s.composer.queue = [] ∧ s.composer.current = none ∧ (s.port 1).snapshot ≠ none ∧
      (∀ p : CounterPort, (s.port p).snapshot ≠ none → (s.port p).sale = .item)) := by
  refine ⟨?_, ?_, service_sound_at_rest _ (by decide +kernel) (by decide +kernel) (by decide +kernel)
    (by decide +kernel), ?_⟩
  all_goals (unfold Quiet; decide +kernel)

/-- Every count at its last value but one: supervision 2, call timer 60, order 57 parked 40 seconds, the
close drain at 2. -/
theorem meets_TickTakesOneStepOfEveryCount :
    (Quiet (closing 2 false counter) ∧ (closing 2 false counter).clock.second < 86399) ∧
    (∀ p : CounterPort, ((closing 2 false counter).port p).online = true →
      2 ≤ ((closing 2 false counter).port p).supervision) ∧
    (∀ k : TicketNo, ((closing 2 false counter).ticket k).state ∈
      [TicketState.free, .waiting, .called 2 60, .skipped, .inService]) ∧
    (∀ o ∈ (closing 2 false counter).orders, o.idle + 1 <
      (closing 2 false counter).ret.config.parkTimeout * 60) ∧
    (closing 2 false counter).commit = .editing ∧
    (closing 2 false counter).dayState = .closing 2 false := by
  unfold Quiet; decide +kernel

/-- A scheduled commit's minute, a call timer and a park timeout fall due at one tick. -/
theorem meets_TickTakesOneStepOfEveryCount_due :
    let s : State := { scheduled (late forgotten) 600 with
      clock := { counter.clock with second := 35999 } }
    Quiet s ∧ ConfigSound s.ret.config ∧ (s.orders.map (·.number)).Nodup ∧
      dueCommands (ticked s) = [.commitActivation, .callTimeout 17, .orderAbandoned 57] := by
  refine ⟨?_, ⟨?_, ?_, ?_, ?_, ?_, ?_⟩, ?_, ?_⟩
  all_goals (try unfold Quiet); decide +kernel

/-- The clock's last second of 2099, of a leap day, and of a day while it is not valid. -/
theorem meets_TickMovesClock :
    dateBefore ⟨2099, 12, 31⟩ ⟨2099, 12, 31⟩ = false ∧
      dateBefore ⟨2096, 2, 29⟩ ⟨2099, 12, 31⟩ = true ∧ dateValid ⟨2096, 2, 29⟩ = true ∧
      State.reset.clock.valid = false ∧ (noisy counter).notices.enables.master = true ∧
      (noisy counter).notices.enables.clock = true ∧ (noisy counter).notices.queue.length < 64 := by
  decide +kernel

/-- An uplink that is UP with a list of replies. -/
def sending (replies : List Reply) (parts : Nat) (waiting : Option Instr) : State :=
  { counter with uplink := { counter.uplink with
      up := true, replies := replies, sentParts := parts, waiting := waiting } }

def short : Reply := { tag := 3, result := .ok, data := .none }

def long : Reply := { tag := 3, result := .ok, data := .items 4 many.ret.items none }

theorem meets_UplinkSendsRepliesBeforeNotices :
    counter.uplink.up = false ∧ 1 + 1 < (replyParts long).length ∧ (replyParts short).length = 1 ∧
    (let s := sending [short, long, long, long] 0 (some (.noticeEnable 4 Enables.off))
     Quiet s ∧ s.uplink.up = true ∧ s.uplink.resetPending = false ∧ s.uplink.replies.length = 4 ∧
      s.uplink.waiting = some (.noticeEnable 4 Enables.off)) ∧
    (sending [long, short] 1 none).uplink.waiting = none ∧
    (sending [] 0 none).uplink.replies = [] ∧ (sending [] 0 none).notices.queue = [] ∧
    ({ sending [] 0 none with notices := { NoticeQueue.fresh with
        queue := [{ stamp := { date := none, second := 0 }, body := .calChanged 0 1 }] } } :
      State).notices.queue ≠ [] := by
  unfold Quiet; decide +kernel

theorem meets_LineDropsWithoutOfflineEvent :
    (counter.uplink.resetPending = false ∧ counter.uplink.up = false) ∧
    (let s : State := { sending [] 0 none with notices := { NoticeQueue.fresh with
        queue := [{ stamp := { date := none, second := 0 }, body := .calChanged 0 1 }] } }
     s.uplink.resetPending = false ∧ s.uplink.up = true ∧ s.uplink.sentParts = 0 ∧
      s.notices.queue.length = 1) ∧
    (sending [long] 1 none).uplink.sentParts ≠ 0 ∧ restarting.uplink.resetPending = true ∧
      (counter.port 9).state = .down ∧
      ((withPort counter 2 ({ · with state := .refused })).port 2).state = .refused ∧
      ((withPort counter 2 ({ · with online := false })).port 2).state = .up := by decide +kernel

/-- Port 10 is DOWN; four scales, one dispenser and one call display have a place; with a second dispenser
that kind is at its limit. Port 6 has mask 1 and its call display ONLINE or OFFLINE, port 1 is a scale, port 3
REFUSED. -/
theorem meets_HelloAttachesOrIsRefused :
    (Quiet counter ∧ (counter.port 9).state = .down ∧ (counter.port 9).mask = none) ∧
    ((List.finRange 14).filter fun q : CounterPort => decide (q ≠ 9 ∧ (counter.port q).state = .up ∧
      (counter.port q).kind = some .callDisplay)).length < 4 ∧
    (let s := withPort counter 12 fun _ => counter.port 4
     Quiet s ∧ (s.port 9).state = .down ∧ ((List.finRange 14).filter fun q : CounterPort =>
      decide (q ≠ 9 ∧ (s.port q).state = .up ∧ (s.port q).kind = some .dispenser)).length = 2) ∧
    (let s := withPort counter 5 ({ · with online := false })
     Quiet s ∧ (s.port 5).state = .up ∧ (s.port 5).online = false ∧ (s.port 5).mask = some 0) ∧
    (counter.dayState = .trading ∧ (counter.port 5).state = .up ∧ (counter.port 5).online = true ∧
      (counter.port 5).kind ≠ some .scale) ∧
    ((counter.port 0).state = .up ∧ (counter.port 0).online = true ∧ (counter.port 0).kind = some .scale ∧
      (counter.orders.map (·.number)).Nodup ∧ counter.commit = .editing) ∧
    Quiet (withPort counter 2 ({ · with state := .refused })) := by
  unfold Quiet; decide +kernel

theorem meets_FramesFollowPortState :
    (∀ p : CounterPort, DeviceFrame p (.plu p 417) ∧ ScaleFrame p (.sample p 1 2 3 4) ∧
      DeviceFrame p (.takeRequest p) ∧ DeviceFrame p (.statusFrame p .on .jam)) ∧
    (Quiet (withPort counter 0 ({ · with state := .refused })) ∧
      ((withPort counter 0 ({ · with state := .refused })).port 0).state = .refused) ∧
    (Quiet counter ∧ (counter.port 9).state = .down ∧ (counter.port 4).state = .up ∧
      (counter.port 4).online = true ∧ (counter.port 4).kind ≠ some .scale ∧
      (counter.port 0).kind ≠ some .dispenser) ∧
    ((withPort counter 0 ({ · with online := false })).port 0).state = .up := by
  refine ⟨fun p => ⟨.inl (.inl (.inr ⟨417, by simp⟩)), .inr (.inr (.inr (.inl ⟨1, 2, 3, 4, rfl⟩))),
    .inr (.inl rfl), .inr (.inr ⟨.on, .jam, rfl⟩)⟩, ?_⟩
  unfold Quiet; decide +kernel

/-- Station 1 with a copy at its printer and the printer in FAULT. -/
def jammed : State :=
  withPort counter 0 fun c => { c with
    printer := .fault
    slots := { labels := #v[some (labelOf .reprint 214), none, none, none], free := [1, 2, 3]
               post := [0], outstanding := none } }

theorem meets_StatusFrameReportsSwitchAndPrinter :
    (Quiet counter ∧ (counter.port 4).state = .up ∧ (counter.port 4).online = true ∧
      (counter.port 4).kind ≠ some .scale) ∧
    (ScaleOnline counter 0 ∧ (counter.port 0).calSwitch = .off ∧ (counter.port 0).printer = .ready ∧
      (counter.port 0).sale = .idle ∧ (counter.port 0).service ≠ .asking) ∧
    (Quiet jammed ∧ ScaleOnline jammed 0 ∧ (jammed.port 0).printer = .fault ∧
      (jammed.port 0).slots.post = [0] ∧
      (jammed.port 0).slots.labels[(0 : SlotNo)] = some (labelOf .reprint 214) ∧
      (jammed.port 0).slots.outstanding = none) ∧
    (Quiet sealed ∧ ScaleOnline sealed 0 ∧ (sealed.port 0).calSwitch = .on ∧
      (sealed.port 0).sale = .calibrating) := by
  unfold Quiet ScaleOnline; decide +kernel

/-- Two labels posted at station 1; station 2 in ITEM with and without a commit that awaits it; station 3 with
ticket 17 called, alone and while station 1 asks; station 4 with its order; a dispenser. -/
theorem meets_OfflineEventEmptiesScale :
    (Quiet (printing .ready) ∧ (printing .ready).dayState = .trading ∧
      ((printing .ready).orders.map (·.number)).Nodup ∧
      ScaleOnline (printing .ready) 0 ∧ 2 ≤ ((printing .ready).port 0).supervision ∧
      ((printing .ready).port 0).slots.post = [0, 1] ∧
      ((printing .ready).port 0).slots.labels[(0 : SlotNo)] = some (labelOf .item 214)) ∧
    (∀ n ∈ [1, 2], let s := withPort (draining 9 n) 1 ({ · with supervision := 1 })
     Quiet s ∧ ScaleOnline s 1 ∧ (s.port 1).supervision ≤ 1 ∧
      (s.port 1).snapshot = some (rollSnapshot 41) ∧ (s.orders.map (·.number)).Nodup) ∧
    (ScaleOnline asking 2 ∧ (asking.ticket 17).state = .called 2 60 ∧ (asking.port 2).service = .called ∧
      asking.tickets.calling = 0 :: [] ∧ counter.tickets.calling = [] ∧ counter.commit = .editing) ∧
    (ScaleOnline counter 3 ∧ (counter.orders.map (·.state)) = [.openAt 3, .parked]) ∧
    ((counter.port 4).state = .up ∧ (counter.port 4).online = true ∧ (counter.port 4).kind ≠ some .scale) ∧
    (counter.port 13).online = false := by
  unfold Quiet ScaleOnline; decide +kernel

theorem meets_SamplesMakeWeightResults :
    Quiet counter ∧ ScaleOnline counter 1 ∧ (counter.port 1).weigh.gapRunning = true ∧
      (counter.port 9).weigh.gapRunning = false := by
  unfold Quiet ScaleOnline; decide +kernel

/-- A full window of one count, and a weighing context with a full band of a gross. -/
def weighed (count gross : Int) : WeighCtx :=
  { WeighCtx.fresh (some cal) true with
    window := List.replicate 8 count, pendingZero := false, band := List.replicate 5 gross }

/-- Beyond each limit, in motion, stable; and the priceable 488 g and 6,005 g. -/
theorem meets_WeighingStagesMakeLegalWeights :
    (∀ x ∈ [140000, 151020, 168274, 700000], (weighed x 4992).window.length = cal.window ∧
      Config.clipHigh ∉ (weighed x 4992).window ∧ Config.clipLow ∉ (weighed x 4992).window ∧
      (weighed x 4992).pendingZero = false) ∧ 0 < cal.stability ∧
    [140000, 151020, 168274, 700000].map (fun x => (weighWindow cal (weighed x 4992)).state) =
      [.underload, .motion, .stable, .overload] ∧
    ((resultOf cal.toCalFields .stable noTare 4880 true).message = none ∧
      (resultOf cal.toCalFields .stable noTare 4880 true).weights ≠ none) ∧
    ((resultOf cal.toCalFields .stable noTare 60030 true).message = none ∧
      cal.max1 ≠ 0 ∧ 10 * cal.max1 < 60030) := by decide +kernel

/-- A window with either clip; a pending initial zero at the two sides of a tenth of Max, 15,000 and 15,003
tenths; a stable gross of 5 tenths and an unstable one, tracked and not. -/
theorem meets_WeighingStagesMakeLegalWeights_zero :
    (Config.clipHigh ∈ (weighed 8388607 0).window ∧ Config.clipHigh ∉ (weighed (-8388608) 0).window ∧
      Config.clipLow ∈ (weighed (-8388608) 0).window) ∧
    (∀ x ∈ [152316, 200300, 200310], (weighed x 5).window.length = cal.window ∧
      Config.clipHigh ∉ (weighed x 5).window ∧ Config.clipLow ∉ (weighed x 5).window) ∧
    2 ≤ cal.stability ∧
    ([(152316, 5), (200300, 15000), (200310, 15003)].map fun x =>
      let v := weighWindow cal { weighed x.1 x.2 with pendingZero := true }
      (v.pendingZero, v.zo, v.state)) =
        [(false, 16, .motion), (false, 48000, .motion), (true, 0, .initialZero)] ∧
    ([5, 4992].map fun g => (weighWindow { cal with tracking := true } (weighed 152316 g)).zo) =
      [16, 0] := by decide +kernel

/-- Station 2's window at a count, under a tare and an initial zero. -/
def zeroed (count : Int) (tare : Tare) (zi : Int) : State :=
  withPort counter 1 fun c => { c with weigh := { c.weigh with
    window := List.replicate 8 count, tare := tare, zi := zi } }

theorem meets_ZeroKeySetsZeroOffset :
    (let s := zeroed 152400 noTare 0
     Quiet s ∧ ScaleOnline s 1 ∧ (s.port 1).sale = .item ∧ s.ret.cal[(1 : CounterPort)] = some cal ∧
      (s.port 1).weigh.state = .stable ∧ (s.port 1).weigh.tare.kind = .none ∧
      roundHalfAway (s.port 1).weigh.window.sum cal.window - cal.zero = 100 ∧
      (100 : Int).natAbs * cal.mult * 100 ≤ 10 * cal.max * 2 * 65536) ∧
    (zeroed 152400 ⟨.keyed, 12⟩ 0 |>.port 1).weigh.tare.kind ≠ .none ∧
    ¬ (100 - 1000000 : Int).natAbs * cal.mult * 100 ≤ 10 * cal.max * 2 * 65536 := by
  unfold Quiet ScaleOnline; decide +kernel

/-- Station 1 with a stable gross. -/
def holding (gross : Int) : State :=
  withPort counter 0 fun c => { c with weigh := { c.weigh with
    latest := some { stable488 with weights := some (weightsOf cal.toCalFields noTare gross true) } } }

/-- Gross at the edge of near zero on both sides, and at the two sides of half of Max. -/
theorem meets_TareKeysSetTare :
    (∀ g ∈ [10, -11, 11, 75010], Quiet (holding g) ∧ ScaleOnline (holding g) 0 ∧
      ((holding g).port 0).sale = .idle ∧ (holding g).ret.cal[(0 : CounterPort)] = some cal ∧
      ((holding g).port 0).weigh.state = .stable ∧
      (((holding g).port 0).weigh.latest.bind (·.weights)).map (·.gross) = some g) ∧
    ((10 : Int).natAbs ≤ 5 * cal.e1 ∧ ¬ (-11 : Int).natAbs ≤ 5 * cal.e1 ∧
      2 * (cal.e1 * (roundHalfAway 74990 (10 * cal.e1)).toNat) ≤ cal.max ∧
      cal.max < 2 * (cal.e1 * (roundHalfAway 75010 (10 * cal.e1)).toNat)) ∧
    (7500 % cal.e1 = 0 ∧ 2 * 7500 ≤ cal.max ∧ 7501 % cal.e1 ≠ 0 ∧ cal.max < 2 * 7502) ∧
    State.reset.ret.cal[(0 : CounterPort)] = none := by
  unfold Quiet ScaleOnline; decide +kernel

/-- Station 1 in a sale state, with another operator. -/
def gated (st : SaleState) (op : Option OperatorNo) : State :=
  withPort counter 0 ({ · with sale := st, operator := op })

theorem meets_GateAndLoginMoveOperator :
    (∀ n : Nat, SalesKey 0 (.plu 0 n) ∧ SalesKey 0 (.closeOrder 0)) ∧ (∀ st ∈ [SaleState.noOperator, .printing, .calibrating, .item],
      Quiet (gated st (some 6)) ∧ ScaleOnline (gated st (some 6)) 0 ∧
        ((gated st (some 6)).port 0).sale = st) ∧
    (let s := gated .noOperator none
     Quiet s ∧ ScaleOnline s 0 ∧ s.ret.operators[(6 : OperatorNo)] =
        some { name := [65], enabled := true, voidPermission := true } ∧
      (∀ q : CounterPort, (s.port q).operator ≠ some 6) ∧ (s.port 0).calSwitch = .off) ∧
    (let s := withPort (gated .idle (some 20)) 1 ({ · with operator := some 6 })
     (s.port 1).sale = .item ∧ (∀ x : CounterPort, x ≠ 1 → (s.port x).operator ≠ some 6)) ∧
    (let s := withPort (gated .idle (some 20)) 2 ({ · with operator := some 6 })
     ScaleOnline s 2 ∧ (s.port 2).sale = .idle ∧ (s.port 2).service ≠ .asking ∧
      (∀ x : CounterPort, x ≠ 2 → (s.port x).operator ≠ some 6)) ∧
    counter.ret.operators[(8 : OperatorNo)] = none ∧
    (KeyReady asking 0 ∧ (asking.port 0).service = .asking) ∧
    (KeyReady counter 2 ∧ (counter.port 2).service ≠ .asking) := by
  refine ⟨fun n => ⟨.inr ⟨n, by simp⟩, .inl (by simp)⟩, ?_⟩
  unfold KeyReady Quiet ScaleOnline; decide +kernel

/-- 488 g of a BY_WEIGHT item; no result, and one with a message. -/
theorem meets_BaseNeedsNoWeightInCountAndFixed :
    (roll.mode = .byCount ∧ ({ roll with mode := .fixed } : ItemFields).mode = .fixed ∧
      (priced 999 50).amounts = some ⟨999, 500, 499⟩ ∧ (priced 1000000 0).message = some .overPrice ∧
      (priced 999999 0).message = none ∧ (priced 100 100).message = some .zeroPrice) ∧
    (salad.mode = .byWeight ∧ stable488.message = none ∧ (stable488.weights.map (·.d)) = some 488 ∧
      ({ stable488 with message := some .notStable } : WeightResult).message = some .notStable) := by
  decide +kernel

/-- A table of one item. -/
def stocked (tare : Nat) (status : ItemStatus) : State :=
  { counter with ret := { counter.ret with
      items := [{ recordOf { salad with presetTare := tare } {} with
        status := status, markdown := some ⟨30, 600, 601⟩ }] } }

theorem meets_PluOpensSnapshot :
    (∀ t ∈ [0, 12, 13], KeyReady (stocked t .live) 0 ∧ ((stocked t .live).port 0).snapshot = none ∧
      (stocked t .live).dayState = .trading ∧
      ((itemOf (stocked t .live).ret.items 417).map (·.status)) = some .live ∧
      itemTemplate (stocked t .live).ret 3 = some priceTemplate ∧
      hasDateField priceTemplate = false) ∧
    (counter.ret.cal[(0 : CounterPort)] = some cal ∧ (counter.port 0).weigh.tare.kind = .none ∧
      12 % cal.e1 = 0 ∧ 2 * 12 ≤ cal.max ∧ 13 % cal.e1 ≠ 0) ∧
    itemOf counter.ret.items 418 = none ∧
    (KeyReady (stocked 0 .retired) 0 ∧
      ((itemOf (stocked 0 .retired).ret.items 417).map (·.status)) = some .retired) := by
  unfold KeyReady Quiet ScaleOnline; decide +kernel

/-- PLU in ITEM: each refusal, a reselection under no commit, under one that awaits two and one that awaits the
last, with the keyed number on its list. -/
theorem meets_PluOpensSnapshot_item :
    (Quiet counter ∧ ScaleOnline counter 1 ∧ (counter.port 1).sale = .item ∧
      counter.dayState = .trading ∧ (closing 9 false counter).dayState = .closing 9 false) ∧
    (let s : State := { stocked 0 .live with ret := { (stocked 0 .live).ret with
        templates := Vector.replicate 16 none } }
     Quiet s ∧ ScaleOnline s 1 ∧ ((itemOf s.ret.items 417).map (·.status)) = some .live ∧
      itemTemplate s.ret salad.template = none) ∧
    (hasDateField { kind := .item, fields := [{ totalField 8 with kind := .packDate }] } = true ∧
      State.reset.clock.valid = false) ∧
    (∀ s ∈ [counter, draining 9 1, draining 9 2], s.dayState = .trading ∧
      itemOf s.ret.items 417 = some (recordOf salad {}) ∧ (recordOf salad {}).status = .live ∧
      itemTemplate s.ret salad.template = some priceTemplate ∧ hasDateField priceTemplate = false) ∧
    ItemReady counter 1 (rollSnapshot 42) ∧ ItemReady (draining 9 1) 1 (rollSnapshot 41) ∧
      ItemReady (draining 9 2) 1 (rollSnapshot 41) ∧
      (rollSnapshot 41).generation = ((draining 9 2).ret.generation + 65535) % 65536 ∧
    (let s := draining 9 1
     let done := appliedFor [417] 3 (s.setPort 1 (closedPort s.ret.cal[(1 : CounterPort)] (s.port 1)))
     (itemOf done.ret.items 417).map (·.status) = some .retired) := by
  unfold ItemReady Quiet ScaleOnline; decide +kernel

theorem meets_QtyAndCancelChangeSnapshot :
    (ItemReady counter 1 (rollSnapshot 42) ∧ (rollSnapshot 42).item.mode = .byCount ∧
      counter.dayState = .trading ∧ counter.commit = .editing ∧ (counter.port 1).calSwitch = .off) ∧
    (let s := withPort counter 1 ({ · with calSwitch := .on })
     ItemReady s 1 (rollSnapshot 42) ∧ (s.port 1).calSwitch = .on ∧ (s.port 1).service ≠ .asking) ∧
    (let s := withPort counter 1 ({ · with snapshot := some { rollSnapshot 42 with item := salad } })
     ItemReady s 1 { rollSnapshot 42 with item := salad }) ∧ salad.mode ≠ .byCount ∧
    KeyReady counter 0 := by
  unfold ItemReady KeyReady Quiet ScaleOnline; decide +kernel

/-- Station 2 serving an order of a number of lines and a total. -/
def serving (lines total : Nat) : State :=
  { withPort (withPort counter 1 fun c =>
      { c with service := .serving, slots := { c.slots with free := [] } }) 3
        ({ · with service := .free }) with
    orders := [{ number := 42, ticket := 18, state := .openAt 1, total := total, idle := 12
                 summaryInFlight := false
                 lines := List.replicate lines { serial := 213, plu := 530, quantity := 2, final := 170
                                                 generation := 42, voided := false } }] }

/-- Station 2 with 488 g of salad selected. -/
def weighedSale : Snapshot :=
  { item := salad, generation := 42, percent := 30, quantity := 1, live := some (priced 1215 30) }

theorem meets_PrintFreezesSale :
    (ItemReady counter 1 (rollSnapshot 42) ∧ (rollSnapshot 42).live = some (priced 170 0) ∧
      (priced 170 0).amounts = some (amountsOf 170 0) ∧ (priced 170 0).message = none ∧
      (rollSnapshot 42).item.mode = .byCount ∧
      entryAt counter.ret.templates 3 = some priceTemplate ∧ counter.composer.queue = [] ∧
      counter.composer.current = none ∧ counter.ret.day.nextSerial + serialJobs counter ≤ 999999 ∧
      (counter.port 1).service ≠ .serving) ∧
    (∀ x ∈ [(23, 9999829), (23, 9999830), (24, 9999830)],
      ItemReady (serving x.1 x.2) 1 (rollSnapshot 42) ∧
        ((serving x.1 x.2).port 1).service = .serving ∧
        (orderOpenAt (serving x.1 x.2).orders 1).map
          (fun o => (o.lines.length, o.total + (amountsOf 170 0).final)) =
            some (x.1, x.2 + 170)) ∧
    (let s := withPort counter 1 ({ · with snapshot := some weighedSale })
     ItemReady s 1 weighedSale ∧ (s.port 1).weigh.latest = some stable488 ∧
      stable488.message = none ∧ (stable488.weights.map (·.d)) = some 488) ∧
    (priced 0 0).message = some .zeroPrice := by
  unfold ItemReady Quiet ScaleOnline; decide +kernel

/-- Label 213 of order 42, printed at station 4 where the order is OPEN, with an operator who may void. -/
def ordered : State :=
  { withPort counter 3 ({ · with operator := some 6 }) with
    log := counter.log ++ [{ serial := 213, sale := some (saleOf 3 (some (42, 18))), state := .printed
                             reprints := 0, station := 3, order := some 42, day := 0 }] }

/-- A printed label with no order; one of an order OPEN at its station; one of another station; an operator
who may not void. -/
theorem meets_VoidReversesAndReprintQueues :
    (KeyReady counter 0 ∧ counter.log.find? (fun x => x.serial == 214) = counter.log[0]? ∧
      counter.log.map (fun e => (e.sale, e.order, e.state, e.station, e.reprints)) =
        [(some (saleOf 0 none), none, .printed, 0, 0)] ∧
      (counter.port 0).operator = some 6 ∧
      (counter.ret.operators[(6 : OperatorNo)].map (·.voidPermission)) = some true ∧
      counter.composer.queue = [] ∧ counter.composer.current = none) ∧
    (let s := withPort counter 0 ({ · with operator := some 20 })
     KeyReady s 0 ∧ s.ret.operators[(20 : OperatorNo)] = none) := by
  unfold KeyReady Quiet ScaleOnline; decide +kernel

theorem meets_VoidReversesAndReprintQueues_order :
    KeyReady ordered 3 ∧ ordered.log.find? (fun x => x.serial == 213) = ordered.log[1]? ∧
      ((ordered.port 3).service = .serving ∧ orderOpenAt ordered.orders 3 = ordered.orders[0]?) ∧
      ordered.orders.find? (fun x => x.number == 42) = ordered.orders[0]? ∧
      (ordered.orders.map fun o => o.lines.map fun l => (l.serial, l.voided)) = [[(213, false)], []] ∧
      (ordered.port 3).operator = some 6 ∧
      KeyReady ordered 0 ∧ (ordered.port 0).service ≠ .serving ∧ ordered.log.map (·.station) = [0, 3] := by
  unfold KeyReady Quiet ScaleOnline; decide +kernel

/-- The refusals of both keys: entry states, a summary, three copies, a job in the way, no entry. -/
theorem meets_VoidReversesAndReprintQueues_refused :
    (∀ e ∈ [EntryState.voided, .unprinted, .posted],
      KeyReady { counter with log := counter.log.map ({ · with state := e }) } 0) ∧
    KeyReady { counter with log := counter.log.map ({ · with sale := none }) } 0 ∧
    KeyReady { counter with log := counter.log.map ({ · with reprints := 3 }) } 0 ∧
    (let s : State := { counter with composer := { Composer.fresh with
        queue := [{ station := 0, source := .reprint 214 }] } }
     KeyReady s 0 ∧ (∃ j ∈ s.composer.queue, j.station = 0)) ∧
    (∀ x ∈ counter.log, x.serial ≠ 215) := by
  unfold KeyReady Quiet ScaleOnline; decide +kernel

theorem meets_PrintDoneFreesSlot :
    (∀ pr ∈ [PrinterState.ready, .fault], Quiet (printing pr) ∧ ScaleOnline (printing pr) 0 ∧
      ((printing pr).port 0).slots.outstanding = some 0 ∧
      ((printing pr).port 0).slots.labels[(0 : SlotNo)] = some (labelOf .item 214) ∧
      ((printing pr).port 0).slots.post.filter (fun i => decide (i ≠ 0)) = [1] ∧
      ((printing pr).port 0).slots.labels[(1 : SlotNo)] = some (labelOf .item 215)) ∧
    (Quiet counter ∧ ScaleOnline counter 0 ∧ (counter.port 0).slots.outstanding = none) ∧
    (let s := withPort counter 0 ({ · with online := false })
     Quiet s ∧ (s.port 0).state = .up ∧ (s.port 0).online = false) := by
  unfold Quiet ScaleOnline; decide +kernel

/-- A composer queue before a station whose slots are full. -/
def queued (jobs : List Job) (count : Nat) (full : List CounterPort) : State :=
  { counter with
    ret := { counter.ret with
      templates := counter.ret.templates.set 9 (some { priceTemplate with kind := .summary }) }
    composer := { queue := jobs, current := none, serviceCount := count }
    ports := Vector.ofFn fun p =>
      if p ∈ full then { counter.port p with slots := { SlotCtx.fresh with free := [] } }
      else counter.port p }

def itemJob (p : CounterPort) : Job := { station := p, source := .item (saleOf p none) }

def summaryJob (p : CounterPort) : Job :=
  { station := p, source := .summary 42 none { date := none, second := 0 } }

/-- No eligible job; a summary at the ratio and behind no eligible item; an item behind none and before an
eligible summary below the ratio; an item job whose template is absent. -/
theorem meets_TakeDecisionFollowsRatio :
    (Quiet (queued [itemJob 0] 1 [0]) ∧
      (∀ j ∈ [itemJob 0], ((queued [itemJob 0] 1 [0]).port j.station).slots.free = [])) ∧
    (let s := queued [itemJob 0, itemJob 1, summaryJob 2] 2 [0]
     Quiet s ∧ s.composer.current = none ∧ s.composer.queue = [itemJob 0, itemJob 1] ++ [summaryJob 2] ∧
      (s.port 2).slots.free ≠ [] ∧ (∀ x ∈ [itemJob 0, itemJob 1], x.station ≠ 2) ∧
      (s.port 2).held ≠ some .printerBusy ∧ (summaryTemplate s.ret).isSome ∧
      s.ret.config.serviceRatio ≤ s.composer.serviceCount) ∧
    (let s := queued [itemJob 0, itemJob 1, summaryJob 2] 1 [0]
     Quiet s ∧ (s.port 1).slots.free ≠ [] ∧ (s.port 2).slots.free ≠ [] ∧
      itemTemplate s.ret roll.template = some priceTemplate ∧
      s.composer.serviceCount < s.ret.config.serviceRatio) ∧
    (let s := queued [itemJob 0, itemJob 1, summaryJob 2] 1 [0, 2]
     Quiet s ∧ (s.port 1).slots.free ≠ [] ∧ (s.port 2).slots.free = []) ∧
    (let s : State := { queued [itemJob 1] 0 [] with ret := { counter.ret with
        templates := Vector.replicate 16 none } }
     Quiet s ∧ ScaleOnline s 1 ∧ s.commit = .editing ∧ s.dayState = .trading ∧
      itemTemplate s.ret roll.template = none ∧ (s.port 1).snapshot = some (rollSnapshot 42) ∧
      summaryTemplate s.ret = none ∧ (s.port 1).calSwitch = .off) := by
  unfold Quiet ScaleOnline; decide +kernel

/-- A REPRINT job whose entry and template stand; a job before a station that shows PRINTER_BUSY. -/
theorem meets_TakeDecisionFollowsRatio_reprint :
    (let s := queued [{ station := 0, source := .reprint 214 }] 0 []
     Quiet s ∧ ScaleOnline s 0 ∧ s.log.find? (fun x => x.serial == 214) = s.log[0]? ∧
      s.log.map (fun e => (e.state, e.reprints, e.sale)) = [(.printed, 0, some (saleOf 0 none))] ∧
      itemTemplate s.ret (saleOf 0 none).item.template = some priceTemplate ∧
      (∀ x ∈ s.log, x.serial ≠ 215)) ∧
    (let s := withPort (queued [itemJob 1] 0 []) 1 ({ · with held := some .printerBusy })
     Quiet s ∧ ScaleOnline s 1 ∧ (s.port 1).held = some .printerBusy ∧ (s.port 1).slots.free ≠ []) := by
  unfold Quiet ScaleOnline; decide +kernel

/-- A job in composition on a field of a width, at a scale in a sale state. -/
def composed (kind : FieldKind) (width : Nat) (source : JobSource) (sale : SaleState) : State :=
  { withPort counter 3 ({ · with sale := sale }) with
    composer := { Composer.fresh with
      current := some { job := { station := 3, source := source }
                        template := { kind := .item, fields := [{ totalField width with kind := kind }] }
                        table0 := identityTable, table1 := identityTable, dropped := false } } }

def summarySource : JobSource := .summary 42 none { date := none, second := 0 }

theorem meets_CompositionIssuesOrRefuses :
    (Quiet (composing 4 true) ∧ ((composing 4 true).composer.current.map (·.dropped)) = some true ∧
      (composing 4 true).dayState = .trading) ∧
    (∀ w ∈ [3, 4], Quiet (composing w false) ∧
      ((composing w false).composer.current.map fun c => (c.dropped, c.job)) =
        some (false, { station := 1, source := .item (saleOf 1 none) }) ∧
      ScaleOnline (composing w false) 1 ∧ (composing w false).commit = .editing ∧
      ((composing w false).port 1).sale = .printing ∧
      ((composing w false).port 1).snapshot = some (rollSnapshot 42) ∧
      ((composing w false).port 1).calSwitch = .off ∧
      ((composing w false).port 1).slots.free = 0 :: [1, 2, 3] ∧
      ((composing w false).port 1).printer = .ready ∧
      ((composing w false).port 1).slots.outstanding = none ∧
      ((composing w false).port 1).slots.post = []) ∧
    ([3, 4].map fun w => (composing w false).composer.current.map fun c =>
      (imageOf c (itemFieldText counter.ret.operators (saleOf 1 none) 1 false)
        (itemBarcode 530 170)).2) = [some true, some false] := by
  unfold Quiet ScaleOnline; decide +kernel

/-- The sale of station 2 under G - 1, with its switch ON, while a commit waits and after its drain has expired,
awaiting it alone or with another; and in a CLOSING day, with and without another snapshot open. -/
theorem meets_CompositionIssuesOrRefuses_drained :
    (∀ w ∈ [3, 4], ∀ n ∈ [1, 2], ∀ b ∈ [true, false],
      let s : State := { withPort (composing w false) 1 ({ · with
          snapshot := some (rollSnapshot 41), calSwitch := .on }) with
        commit := .waiting { timer := 0, expired := b, awaited := n, forced := 2 } }
      Quiet s ∧ ScaleOnline s 1 ∧ (s.port 1).sale = .printing ∧
        (s.port 1).snapshot = some (rollSnapshot 41) ∧ s.dayState = .trading ∧
        (rollSnapshot 41).generation = (s.ret.generation + 65535) % 65536) ∧
    (∀ s ∈ [closing 0 true (composing 4 false),
        closing 0 true (withPort (composing 3 false) 0 fun _ => inItem 42)],
      Quiet s ∧ ScaleOnline s 1 ∧ (s.port 1).sale = .printing ∧ s.dayState = .closing 0 true ∧
        s.commit = .editing ∧ s.composer.queue = []) ∧
    (∀ q : CounterPort, q ≠ 1 → ((composing 4 false).port q).snapshot = none) := by
  unfold Quiet ScaleOnline; decide +kernel

/-- The parked counter with station 2's sale in composition, for a day that completes with it. -/
theorem meets_CompositionIssuesOrRefuses_closes :
    let s : State := { closing 9 false (withPort parked 1 fun _ =>
        { inItem 42 with sale := .printing, record := some (saleOf 1 none) }) with
      composer := (composing 4 false).composer }
    ServiceSound s ∧ Quiet s ∧ ScaleOnline s 1 ∧ s.composer.queue = [] ∧
      (∀ q : CounterPort, q ≠ 1 → (s.port q).snapshot = none) ∧
      (s.composer.current.map (·.job)) =
        some { station := 1, source := .item (saleOf 1 none) } := by
  refine ⟨service_sound_at_rest _ (by decide +kernel) (by decide +kernel) (by decide +kernel)
    (by decide +kernel), ?_⟩
  unfold Quiet ScaleOnline; decide +kernel

/-- Order 42's summary of 1.70 and a copy of label 214, in a field of three and of four. -/
theorem meets_CompositionIssuesOrRefuses_others :
    (let s := composed .orderTotal 4 summarySource .printing
     Quiet s ∧ ScaleOnline s 3 ∧ (s.port 3).sale = .printing ∧ (s.port 3).calSwitch = .off ∧
      s.orders.find? (fun x => x.number == 42) = s.orders[0]? ∧ s.dayState = .trading) ∧
    ([3, 4].map fun w =>
      (composed .orderTotal w summarySource .printing).composer.current.bind fun c =>
        counter.orders[0]?.map fun o => (imageOf c (summaryFieldText counter.ret.operators o 3 none
          { date := none, second := 0 } 1) (summaryBarcode 42 170)).2) = [some true, some false] ∧
    (let s := composed .totalPrice 4 (.reprint 214) .idle
     Quiet s ∧ ScaleOnline s 3 ∧ s.log.find? (fun x => x.serial == 214) = s.log[0]? ∧
      s.log.map (fun e => (e.state, e.sale)) = [(.printed, some (saleOf 0 none))] ∧
      (s.port 3).held = none ∧ (s.port 3).slots.free = 0 :: [1, 2, 3]) ∧
    ([3, 4].map fun w => (composed .totalPrice w (.reprint 214) .idle).composer.current.map fun c =>
      (imageOf c (itemFieldText counter.ret.operators (saleOf 0 none) 214 true)
        (itemBarcode 530 170)).2) = [some true, some false] := by
  unfold Quiet ScaleOnline; decide +kernel

/-- Station 2 in ITEM, where VOID, REPRINT, the service keys and the order keys are BUSY. -/
theorem meets_busy_in_item : Quiet counter ∧ ScaleOnline counter 1 ∧ (counter.port 1).sale = .item := by
  unfold Quiet ScaleOnline; decide +kernel

theorem meets_AskingStationsJoinAndLeave :
    (KeyReady unasked 0 ∧ (unasked.port 0).service = .free ∧ unasked.dayState = .trading ∧
      unasked.tickets.waiting = []) ∧
    (KeyReady asking 0 ∧ (asking.port 0).service = .asking) ∧
    (KeyReady (closing 20 false counter) 0 ∧
      (closing 20 false counter).dayState = .closing 20 false) ∧
    (KeyReady counter 2 ∧ (counter.port 2).service = .called ∧
      KeyReady counter 3 ∧ (counter.port 3).service = .serving) := by
  unfold KeyReady Quiet ScaleOnline; decide +kernel

/-- The called ticket of station 3 stands at one call; with three it can be called no more. -/
theorem meets_CallsShowTicket :
    (KeyReady counter 0 ∧ (counter.port 0).service = .free ∧ counter.dayState = .trading ∧
      counter.tickets.waiting = 20 :: [] ∧ 7 ∈ counter.tickets.skipped ∧
      (∀ k ∈ counter.tickets.skipped, k.val ≠ 8)) ∧
    (KeyReady counter 2 ∧ (counter.port 2).service = .called ∧
      (counter.ticket 17).state = .called 2 60 ∧ (counter.ticket 17).count < 3) ∧
    (let s : State := { counter with tickets := { counter.tickets with
        recs := counter.tickets.recs.set 17 { state := .called 2 60, count := 3, age := 30 } } }
     KeyReady s 2 ∧ 3 ≤ (s.ticket 17).count) := by
  unfold KeyReady Quiet ScaleOnline; decide +kernel

theorem counter_called_once : ∀ j n, (counter.ticket j).state = .called 2 n → j = 17 :=
  called_only counter 2 17 (by decide +kernel)

/-- Order number 1 before 42 and 57; and thirty-two live orders. -/
theorem meets_ServeOpensOrder :
    (KeyReady counter 2 ∧ counter.dayState = .trading ∧ (counter.port 2).service = .called ∧
      (counter.ticket 17).state = .called 2 60 ∧ (∀ o ∈ counter.orders, 1 < o.number) ∧
      counter.ret.day.nextOrder = 1) ∧
    (let s : State := { counter with orders := (List.range 32).map fun n =>
        { number := n + 2, ticket := 18, state := .parked, lines := [], total := 0, idle := 0
          summaryInFlight := false } }
     KeyReady s 2 ∧ 32 ≤ s.orders.length) ∧
    (∀ j, calledAt 2 (counter.ticket j).state = true → j = 17) := by
  unfold KeyReady Quiet ScaleOnline; decide +kernel

/-- A skipped list of one ticket and of eight; a timer of 60, of 2 and of 1. -/
theorem meets_SkipMovesTicketToSkippedList :
    (KeyReady counter 2 ∧ (counter.port 2).service = .called ∧
      (counter.ticket 17).state = .called 2 60 ∧ counter.tickets.skipped.length < 8) ∧
    ((late counter).ticket 17).state = .called 2 1 ∧
    (let s : State := { counter with tickets := { counter.tickets with
        skipped := [30, 31, 32, 33, 34, 35, 36, 37] } }
     KeyReady s 2 ∧ s.tickets.skipped = 30 :: [31, 32, 33, 34, 35, 36, 37] ∧
      (∀ j, calledAt 2 (s.ticket j).state = true → j = 17)) := by
  unfold KeyReady Quiet ScaleOnline; decide +kernel

theorem meets_TakeRequestIssuesTicket :
    (Quiet counter ∧ (counter.port 4).state = .up ∧ (counter.port 4).online = true ∧
      (counter.port 4).kind = some .dispenser ∧ counter.dayState = .trading ∧
      (counter.ticket counter.tickets.next).state = .free ∧ counter.tickets.calling = []) ∧
    (counter.ticket 20).state ≠ .free ∧
    (Quiet asking ∧ (asking.port 4).state = .up ∧ (asking.port 4).kind = some .dispenser ∧
      (asking.ticket asking.tickets.next).state = .free ∧ asking.tickets.calling = 0 :: [] ∧
      ScaleOnline asking 0) ∧
    (closing 20 false counter).dayState = .closing 20 false := by
  unfold Quiet ScaleOnline; decide +kernel

/-- Order 42 OPEN at station 4, order 57 parked; its idle count one second before thirty minutes. -/
theorem meets_OrdersAreParkedPickedUpAbandoned :
    (KeyReady counter 3 ∧ (counter.port 3).service = .serving ∧
      orderOpenAt counter.orders 3 = counter.orders[0]?) ∧
    (KeyReady counter 0 ∧ (counter.port 0).service = .free ∧
      counter.orders.find? (fun x => decide (x.state = .parked) && x.ticket == 9) =
        counter.orders[1]? ∧
      (∀ x ∈ counter.orders, x.state = .parked → x.ticket.val ≠ 99)) ∧
    (forgotten.orders.map (fun o => (o.number, o.state, o.idle + 1)) =
        [(42, .openAt 3, 1800), (57, .parked, 1800)] ∧
      forgotten.ret.config.parkTimeout * 60 = 1800) := by
  unfold KeyReady Quiet ScaleOnline; decide +kernel

/-- Station 4's order with a live line, with none, with the serials used up, behind a job. -/
theorem meets_CloseOrderEndsOrQueuesSummary :
    (KeyReady counter 3 ∧ (counter.port 3).service = .serving ∧
      (orderOpenAt counter.orders 3).map (fun o => o.lines.map (·.voided)) = some [false] ∧
      counter.composer.queue = [] ∧ counter.composer.current = none ∧
      counter.ret.day.nextSerial + serialJobs counter ≤ 999999) ∧
    (let s : State := { counter with orders := counter.orders.map ({ · with lines := [] }) }
     KeyReady s 3 ∧ (orderOpenAt s.orders 3).map (·.lines) = some []) ∧
    (let s : State := { counter with ret := { counter.ret with
        day := { counter.ret.day with nextSerial := 1000000 } } }
     KeyReady s 3 ∧ 999999 < s.ret.day.nextSerial + serialJobs s) ∧
    (let s := queued [summaryJob 3] 0 []
     KeyReady s 3 ∧ (∃ j ∈ s.composer.queue, j.station = 3)) ∧
    (counter.port 0).service ≠ .serving := by
  unfold KeyReady Quiet ScaleOnline; decide +kernel

end Sys2Proof.Tests
end

section
/-! PROOFS. Pricing (chapter 3): the base of each pricing mode, the markdown, the final and its limits. -/

namespace Sys2Proof.Machine

/-! ### The base (R49, R50) -/

theorem livePrice_byCount {sn : Snapshot} (h : sn.item.mode = .byCount) (latest : Option WeightResult) :
    livePrice sn latest = priced (sn.quantity * sn.item.price) sn.percent := by
  simp only [livePrice, h]

theorem livePrice_fixed {sn : Snapshot} (h : sn.item.mode = .fixed) (latest : Option WeightResult) :
    livePrice sn latest = priced sn.item.price sn.percent := by
  simp only [livePrice, h]

theorem livePrice_byWeight_error {sn : Snapshot} {latest : Option WeightResult} {m : MsgCode}
    (h : sn.item.mode = .byWeight) (hnet : priceableNet latest = .error m) :
    livePrice sn latest = unpriced m := by
  simp only [livePrice, h, hnet]

theorem livePrice_byWeight_ok {sn : Snapshot} {latest : Option WeightResult} {d : Nat}
    (h : sn.item.mode = .byWeight) (hnet : priceableNet latest = .ok d) :
    livePrice sn latest =
      priced (roundHalfUp (d * sn.item.price) (basisGrams sn.item.basis)) sn.percent := by
  simp only [livePrice, h, hnet]

theorem priceableNet_of_message {r : WeightResult} {m : MsgCode} (h : r.message = some m) :
    priceableNet (some r) = .error m := by
  simp only [priceableNet, h]

theorem priceableNet_of_weights {r : WeightResult} {x : Weights} {d : Nat} (hm : r.message = none)
    (hx : r.weights = some x) (hd : x.d = d) : priceableNet (some r) = .ok d := by
  simp only [priceableNet, hm, hx, hd, Int.toNat_natCast]

theorem basisGrams_eq (b : Option PriceBasis) :
    basisGrams b = if b = some .per100g then 100 else 1000 := by
  rcases b with _ | _ | _ <;> rfl

theorem basisGrams_pos (b : Option PriceBasis) : 0 < basisGrams b := by
  rw [basisGrams_eq]; split <;> decide

/-! ### The markdown and the final (R51) -/

theorem roundHalfUp_zero {den : Nat} (h : 0 < den) : roundHalfUp 0 den = 0 := by
  unfold roundHalfUp
  exact Nat.div_eq_of_lt (by omega)

/-- A percentage up to 100, rounded half up, is no more than the whole: the final does not wrap at 0. -/
theorem roundHalfUp_percent_le (base : Nat) {pct : Nat} (h : pct ≤ 100) :
    roundHalfUp (base * pct) 100 ≤ base := by
  have hround := (roundHalfUp_bounds (base * pct) 100 (by decide)).2
  have hwhole : base * pct ≤ base * 100 := Nat.mul_le_mul_left base h
  omega

theorem amountsOf_final_add_markdown (base : Nat) {pct : Nat} (h : pct ≤ 100) :
    (amountsOf base pct).final + (amountsOf base pct).markdown = base :=
  Nat.sub_add_cancel (roundHalfUp_percent_le base h)

theorem amountsOf_final_zero_percent (base : Nat) : (amountsOf base 0).final = base := by
  simp only [amountsOf, Nat.mul_zero, roundHalfUp_zero (den := 100) (by decide), Nat.sub_zero]

theorem amountsOf_markdown_bounds (base pct : Nat) :
    200 * (amountsOf base pct).markdown ≤ 2 * (base * pct) + 100 ∧
      2 * (base * pct) < 200 * (amountsOf base pct).markdown + 100 :=
  (roundHalfUp_bounds (base * pct) 100 (by decide)).symm

/-! ### O46 -/

/-- Settles O46: each mode's base by its equation, the rest by the bounds of rounding half up. -/
theorem baseNeedsNoWeightInCountAndFixed : Obligations.BaseNeedsNoWeightInCountAndFixed := by
  intro sn latest
  refine ⟨fun h => livePrice_byCount h latest, fun h => livePrice_fixed h latest,
    fun h => ⟨?noResult, ?refused, ?weighed⟩, fun base pct hpct => ?amounts⟩
  case noResult =>
    rintro rfl
    exact livePrice_byWeight_error h rfl
  case refused =>
    rintro r m rfl hm
    exact livePrice_byWeight_error h (priceableNet_of_message hm)
  case weighed =>
    rintro r x d rfl hm hx hd
    rw [← basisGrams_eq]
    obtain ⟨hlow, hhigh⟩ :=
      roundHalfUp_bounds (d * sn.item.price) (basisGrams sn.item.basis) (basisGrams_pos _)
    refine ⟨_, livePrice_byWeight_ok h (priceableNet_of_weights hm hx hd), hhigh, ?_⟩
    rw [Nat.mul_succ]
    omega
  case amounts =>
    refine ⟨amountsOf base pct, rfl, rfl, amountsOf_final_add_markdown base hpct,
      amountsOf_markdown_bounds base pct, ?_, rfl⟩
    rintro rfl
    exact amountsOf_final_zero_percent base

end Sys2Proof.Machine
end

section
/-! PROOFS. The item table from the uplink (chapter 4): the end of an event that every station is shown, a
request on an open uplink, the pending list, the commit and its abort. -/

namespace Sys2Proof.Machine

/-! ### The end of an event that every station is shown (R17) -/

theorem flushPort_of_scaleOnline {s : State} {p : CounterPort} (hs : ScaleOnline s p)
    (hdue : (s.port p).displayDue = true) :
    flushPort s p = { s.port p with
      displayDue := false, tx := (s.port p).tx ++ [.display (displayOf s p)] } := by
  obtain ⟨hup, honline, hkind⟩ := hs
  simp [flushPort, reachable, hdue, hup, honline, hkind]

theorem flushPort_of_not_scaleOnline {s : State} {p : CounterPort} (hs : ¬ ScaleOnline s p)
    (hdue : (s.port p).displayDue = true) :
    flushPort s p = { s.port p with displayDue := false } := by
  have hcond : ¬ (reachable (s.port p) = true ∧ (s.port p).kind = some .scale) := by
    simpa [reachable, ScaleOnline, and_assoc] using hs
  simp only [flushPort, hdue, if_true, if_neg hcond]

theorem Port.displayDue_false_self {c : Port} (h : c.displayDue = false) :
    { c with displayDue := false } = c := by rw [← h]

/-- With a display owed to every station, and none owed before, each ONLINE scale is sent its display. -/
theorem flush_markAllDisplays {base : State} (hq : Quiet base) :
    EveryStationShown base (flush (markAllDisplays base)) := by
  refine ⟨rfl, fun q => ⟨fun hs => ?_, fun hs => ?_⟩⟩
  · have hs' : ScaleOnline (markAllDisplays base) q := by simpa [ScaleOnline] using hs
    have hport := (flush_port _ q).trans (flushPort_of_scaleOnline hs' (by simp))
    rw [displayOf_congr _ (flush (markAllDisplays base)) q rfl ⟨false, _, _, hport⟩, hport,
      markAllDisplays_port]
    exact Port.displayDue_false_self (c := { base.port q with tx := _ }) (hq q)
  · have hs' : ¬ ScaleOnline (markAllDisplays base) q := by simpa [ScaleOnline] using hs
    rw [flush_port, flushPort_of_not_scaleOnline hs' (by simp), markAllDisplays_port]
    exact Port.displayDue_false_self (hq q)

/-! ### A request on an open uplink (R5, R188) -/

/-- The state that the owner of a request taken at once is given: the uplink is UP. -/
def uplinkRaised (s : State) : State := { s with uplink := { s.uplink with up := true } }

/-- A request whose owner answers and owes no display. -/
theorem exec_replied {i : Instr} {own : State → State} {s base : State} {tag : Nat} {code : ResultCode}
    {data : ReplyData} (h : UplinkOpen s) (hexec : exec i s = .next (arrive i own s)) (hq : Quiet base)
    (hown : own (uplinkRaised s) = reply tag code data (uplinkRaised base)) :
    exec i s = .next (replied tag code data base) :=
  hexec.trans (congrArg _ (arrive_replied h i own hq hown))

/-- A request whose owner answers and owes every station a display. -/
theorem exec_replied_shown {i : Instr} {own : State → State} {s base : State} {tag : Nat}
    {code : ResultCode} {data : ReplyData} (h : UplinkOpen s) (hexec : exec i s = .next (arrive i own s))
    (hq : Quiet base)
    (hown : own (uplinkRaised s) = reply tag code data (markAllDisplays (uplinkRaised base))) :
    ∃ t, exec i s = .next t ∧ EveryStationShown (replied tag code data base) t := by
  refine ⟨_, hexec, ?_⟩
  have harrive : arrive i own s = flush (markAllDisplays (replied tag code data base)) :=
    (arrive_open h i own).trans (congrArg flush hown)
  rw [harrive]
  exact flush_markAllDisplays hq

/-! ### The pending list (R69, R70) -/

theorem stageFrozen_iff (s : State) : stageFrozen s = true ↔ s.commit ≠ .editing := decide_eq_true_iff

theorem firstInvalid_eq_none {block : List StageEntry} (h : ∀ e ∈ block, entryValid e = true) :
    firstInvalid block = none := by
  simpa [firstInvalid, List.findIdx?_eq_none_iff] using h

theorem stageCheck_frozen {s : State} (h : s.commit ≠ .editing) (block : List StageEntry) :
    stageCheck s block = .error (.stageFrozen, .none) := by
  rw [stageCheck, if_pos ((stageFrozen_iff s).mpr h)]

theorem stageCheck_editing {s : State} {block : List StageEntry} (hc : s.commit = .editing)
    (hd : s.dayState = .trading) (hvalid : ∀ e ∈ block, entryValid e = true)
    (hroom : (stageAll block s.staged).length ≤ Config.maxStaged) :
    stageCheck s block = .ok (stageAll block s.staged) := by
  simp [stageCheck, stageFrozen, hc, hd, DayState.isClosing, firstInvalid_eq_none hvalid,
    Nat.not_lt.mpr hroom]

/-- A block of an allowed length is judged by `stageCheck`. -/
theorem pluStageOp_error {s : State} {block : List StageEntry} {code : ResultCode} {data : ReplyData}
    (hlow : 1 ≤ block.length) (hhigh : block.length ≤ Config.blockSize)
    (h : stageCheck s block = .error (code, data)) (tag : Nat) :
    pluStageOp tag block s = reply tag code data s := by
  have hblock : block ≠ [] := List.ne_nil_of_length_pos hlow
  simp [pluStageOp, hblock, Nat.not_lt.mpr hhigh, h]

theorem pluStageOp_ok {s : State} {block list : List StageEntry}
    (hlow : 1 ≤ block.length) (hhigh : block.length ≤ Config.blockSize)
    (h : stageCheck s block = .ok list) (tag : Nat) :
    pluStageOp tag block s = reply tag .ok (.count list.length) { s with staged := list } := by
  have hblock : block ≠ [] := List.ne_nil_of_length_pos hlow
  simp [pluStageOp, hblock, Nat.not_lt.mpr hhigh, h]

theorem stageDiscardOp_editing {s : State} (h : s.commit = .editing) (tag : Nat) :
    stageDiscardOp tag s = reply tag .ok (.count s.staged.length) { s with staged := [] } := by
  simp [stageDiscardOp, stageFrozen, h]

theorem stageDiscardOp_frozen {s : State} (h : s.commit ≠ .editing) (tag : Nat) :
    stageDiscardOp tag s = reply tag .stageFrozen .none s := by
  rw [stageDiscardOp, if_pos ((stageFrozen_iff s).mpr h), refuseRequest]

/-! ### O18 -/

/-- Settles O18: the checks of R69 decide the block, the state of the commit decides the discard. -/
theorem stagingChangesPendingList : Obligations.StagingChangesPendingList := by
  intro s tag block hopen
  have hquiet : Quiet s := hopen.1
  refine ⟨fun hc hd hlow hhigh hvalid hroom => ?staged, fun hc => ?discarded,
    fun hc hlow hhigh => ⟨?stageFrozen, ?discardFrozen⟩⟩
  case staged =>
    exact exec_replied (base := { s with staged := stageAll block s.staged }) hopen rfl hquiet
      (pluStageOp_ok hlow hhigh (stageCheck_editing (s := uplinkRaised s) hc hd hvalid hroom) tag)
  case discarded =>
    exact exec_replied (base := { s with staged := [] }) hopen rfl hquiet
      (stageDiscardOp_editing (s := uplinkRaised s) hc tag)
  case stageFrozen =>
    exact exec_replied hopen rfl hquiet
      (pluStageOp_error hlow hhigh (stageCheck_frozen (s := uplinkRaised s) hc block) tag)
  case discardFrozen =>
    exact exec_replied hopen rfl hquiet (stageDiscardOp_frozen (s := uplinkRaised s) hc tag)

/-! ### An applied commit (R82 to R85) -/

theorem notify_uplinkRaised (b : NoticeBody) (s : State) :
    notify b (uplinkRaised s) = uplinkRaised (notify b s) := by
  unfold notify
  rw [apply_ite uplinkRaised]
  rfl

theorem applied_uplinkRaised (forced : Nat) (s : State) :
    applied forced (uplinkRaised s) = uplinkRaised (applied forced s) := by
  simp only [applied, appliedFor]
  rw [← notify_uplinkRaised]
  rfl

@[simp] theorem applied_commit (forced : Nat) (s : State) : (applied forced s).commit = .editing :=
  notify_commit _ _

@[simp] theorem applied_generation (forced : Nat) (s : State) :
    (applied forced s).ret.generation = (s.ret.generation + 1) % 65536 :=
  congrArg Retained.generation (notify_ret _ _)

@[simp] theorem applied_port (forced : Nat) (s : State) (p : CounterPort) :
    (applied forced s).port p = s.port p := notify_port _ _ p

theorem applied_quiet {s : State} (h : Quiet s) (forced : Nat) : Quiet (applied forced s) := by
  intro p
  rw [applied_port]
  exact h p

/-! ### A commit enters WAITING (R78) -/

theorem enterWaiting_none_stale {s : State} (h : staleOpen s = 0) :
    enterWaiting s = markAllDisplays (applied 0 s) := by
  unfold enterWaiting
  dsimp only
  rw [if_pos h]
  exact completeCommit_waiting (s := { s with commit := .waiting _ }) [] rfl

theorem enterWaiting_stale {s : State} (h : staleOpen s ≠ 0) :
    enterWaiting s =
      { s with commit := .waiting { timer := s.ret.config.commitDrain, expired := false,
                                    awaited := staleOpen s, forced := 0 } } := by
  unfold enterWaiting
  dsimp only
  rw [if_neg h, if_neg h]

/-! ### COMMIT (R73) -/

theorem tableFits_iff (s : State) :
    tableFits s = true ↔ capacityCount s.ret.items s.staged ≤ Config.maxItems := decide_eq_true_iff

theorem activationValid_iff (d : Date) (m : Nat) :
    activationValid (d, m) = true ↔ dateValid d = true ∧ m ≤ 1439 := by simp [activationValid]

section
variable {s : State} (hc : s.commit = .editing) (hd : s.dayState = .trading)
include hc hd

theorem commitRefusal_empty (h : s.staged = []) (activation : Option (Date × Nat)) :
    commitRefusal s activation = some .nothingStaged := by
  simp [commitRefusal, hc, hd, DayState.isClosing, h]

theorem commitRefusal_full (hne : s.staged ≠ []) (h : Config.maxItems < capacityCount s.ret.items s.staged) :
    commitRefusal s none = some .tableFull := by
  have hfull : tableFits s = false := by simpa [tableFits] using h
  simp [commitRefusal, hc, hd, DayState.isClosing, hne, hfull]

/-- A list that fits is committed, at a date only where the date, the minute and the clock are valid. -/
theorem commitRefusal_none (hne : s.staged ≠ [])
    (hfits : capacityCount s.ret.items s.staged ≤ Config.maxItems) {activation : Option (Date × Nat)}
    (hact : ∀ a ∈ activation, activationValid a = true ∧ s.clock.valid = true) :
    commitRefusal s activation = none := by
  have hroom := (tableFits_iff s).mpr hfits
  cases activation with
  | none => simp [commitRefusal, hc, hd, DayState.isClosing, hne, hroom]
  | some a =>
    obtain ⟨hvalid, hclock⟩ := hact a rfl
    simp [commitRefusal, hc, hd, DayState.isClosing, hne, hroom, hvalid, hclock]

end

theorem commitOp_refused {s : State} {activation : Option (Date × Nat)} {code : ResultCode}
    (h : commitRefusal s activation = some code) (tag : Nat) :
    commitOp tag activation s = reply tag code .none s := by
  simp only [commitOp, h, refuseRequest]

theorem commitOp_accepted {s t : State} {activation : Option (Date × Nat)}
    (h : commitRefusal s activation = none) (haccept : acceptCommit activation s = t) (tag : Nat) :
    commitOp tag activation s = reply tag .ok (.commit t.commit.phase t.ret.generation) t := by
  simp only [commitOp, h, haccept]

/-- The commit of a list that no open snapshot has to be drained for. -/
theorem commitOp_applied {s : State} (h : commitRefusal s none = none) (hstale : staleOpen s = 0)
    (tag : Nat) :
    commitOp tag none s = reply tag .ok (.commit .editing ((s.ret.generation + 1) % 65536))
      (markAllDisplays (applied 0 s)) := by
  rw [commitOp_accepted h (enterWaiting_none_stale hstale), markAllDisplays_commit, markAllDisplays_ret,
    applied_commit, applied_generation]
  rfl

/-! ### COMMIT_ABORT (R86) -/

theorem commitAbortOp_editing {s : State} (h : s.commit = .editing) (tag : Nat) :
    commitAbortOp tag s = reply tag .noCommit .none s := by
  rw [commitAbortOp, if_pos h, refuseRequest]

theorem commitAbortOp_inFlight {s : State} {c : CommitState} (h : s.commit = c) (hc : c ≠ .editing)
    (tag : Nat) :
    commitAbortOp tag s =
      reply tag .ok (.aborted c.forced s.staged.length) { s with commit := .editing } := by
  subst h
  rw [commitAbortOp, if_neg hc]

/-! ### O19 -/

/-- Settles O19: the checks of R73 decide acceptance, the stale snapshots what an accepted list waits for, and
the commit in flight what an abort answers. -/
theorem commitIsTakenAndAborted : Obligations.CommitIsTakenAndAborted := by
  refine ⟨fun s tag hopen hc hd => ⟨fun hempty => ?empty, fun hne hfits => ?fits, fun hne hfull => ?full⟩,
    fun s tag hopen => ⟨fun hc => ?noCommit, fun d m hc => ?scheduledAborted, fun d hc => ?waitingAborted⟩⟩
  case empty =>
    exact exec_replied hopen rfl hopen.1
      (commitOp_refused (commitRefusal_empty (s := uplinkRaised s) hc hd hempty none) tag)
  case full =>
    exact exec_replied hopen rfl hopen.1
      (commitOp_refused (commitRefusal_full (s := uplinkRaised s) hc hd hne hfull) tag)
  case fits =>
    have hnow : commitRefusal (uplinkRaised s) none = none :=
      commitRefusal_none (s := uplinkRaised s) hc hd hne hfits (by simp)
    refine ⟨fun hstale => ?applied, fun hstale => ?waiting, fun d m hdate hminute hclock => ?scheduled⟩
    case applied =>
      refine exec_replied_shown hopen rfl (applied_quiet hopen.1 0) ?_
      rw [← applied_uplinkRaised]
      exact commitOp_applied (s := uplinkRaised s) hnow hstale tag
    case waiting =>
      exact exec_replied (base := { s with commit := .waiting _ }) hopen rfl hopen.1
        (commitOp_accepted hnow (enterWaiting_stale (s := uplinkRaised s) hstale) tag)
    case scheduled =>
      have hact : ∀ a ∈ some (d, m), activationValid a = true ∧ s.clock.valid = true := by
        rintro _ ⟨⟩
        exact ⟨(activationValid_iff d m).mpr ⟨hdate, hminute⟩, hclock⟩
      exact exec_replied (base := { s with commit := .scheduled d m }) hopen rfl hopen.1
        (commitOp_accepted (commitRefusal_none (s := uplinkRaised s) hc hd hne hfits hact) rfl tag)
  case noCommit =>
    exact exec_replied hopen rfl hopen.1 (commitAbortOp_editing (s := uplinkRaised s) hc tag)
  case scheduledAborted =>
    exact exec_replied (base := { s with commit := .editing }) hopen rfl hopen.1
      (commitAbortOp_inFlight (s := uplinkRaised s) hc (by simp) tag)
  case waitingAborted =>
    exact exec_replied (base := { s with commit := .editing }) hopen rfl hopen.1
      (commitAbortOp_inFlight (s := uplinkRaised s) hc (by simp) tag)

end Sys2Proof.Machine
end

section
/-! PROOFS. Label printing (chapter 6): the end of an event that owes no display, the printer feed and the
completion that a printer reports. -/

namespace Sys2Proof.Machine

/-! ### A port written twice, and no display owed after -/

@[simp] theorem State.setPort_setPort (s : State) (p : CounterPort) (a b : Port) :
    (s.setPort p a).setPort p b = s.setPort p b := by simp [State.setPort]

theorem modPort_setPort (p : CounterPort) (f : Port → Port) (s : State) (c : Port) :
    modPort p f (s.setPort p c) = s.setPort p (f c) := by
  simp only [modPort, State.port_setPort_self, State.setPort_setPort]

/-- No display falls due by a write that leaves the port's mark clear. -/
theorem Quiet.setPort {s : State} (h : Quiet s) {p : CounterPort} {c : Port} (hc : c.displayDue = false) :
    Quiet (s.setPort p c) := by
  intro q
  rw [State.port_setPort]
  split
  · exact hc
  · exact h q

/-! ### The printer feed (R112) -/

/-- Nothing posted, or a printer in FAULT: no label is sent. -/
theorem feedPrinter_setPort_idle {c : Port} (h : c.slots.post = [] ∨ c.printer = .fault) (p : CounterPort)
    (s : State) : feedPrinter p (s.setPort p c) = s.setPort p c := by
  obtain hsame | ⟨k, rest, l, hpost, -, -, hready, -⟩ := feedPrinter_cases p (s.setPort p c)
  · exact hsame
  · rw [State.port_setPort_self] at hpost hready
    simp [hpost, hready] at h

/-- A READY printer of an ONLINE station with nothing outstanding is sent the head of the post list. -/
theorem feedPrinter_setPort_sends {c : Port} {k : SlotNo} {rest : List SlotNo} {l : SlotLabel}
    (hpost : c.slots.post = k :: rest) (hl : c.slots.labels[k] = some l) (hr : reachable c = true)
    (hready : c.printer = .ready) (hout : c.slots.outstanding = none) (p : CounterPort) (s : State) :
    feedPrinter p (s.setPort p c) = s.setPort p { c with
      tx := c.tx ++ labelFrames k l, slots := { c.slots with outstanding := some k } } := by
  have hcond : reachable c = true ∧ c.printer = .ready ∧ c.slots.outstanding = none :=
    ⟨hr, hready, hout⟩
  simp only [feedPrinter, State.port_setPort_self, hpost, hl, if_pos hcond, modPort_setPort]

/-! ### The effects of a print completion (R113 to R115) -/

/-- The slots of a station whose outstanding label `k` was printed: `k` ends the free list. -/
def printedSlots (k : SlotNo) (c : SlotCtx) : SlotCtx :=
  { labels := c.labels.set k none, free := c.free ++ [k], post := c.post.filter fun i => i ≠ k,
    outstanding := none }

/-- The label log and the totals after a print completion of the label `l`. -/
def printedCounts (p : CounterPort) (l : SlotLabel) (s : State) : State :=
  { s with
    log := if l.cls = .reprint then s.log else s.log.map fun e =>
      if e.serial = l.serial ∧ e.state = .posted ∧ e.day = l.day then { e with state := .printed } else e
    ret := countStation p { labelsPrinted := 1 } s.ret }

/-- A change that asks more of the entry than its serial. -/
theorem modLog_ite (n : Nat) (cond : LogEntry → Prop) [DecidablePred cond] (f : LogEntry → LogEntry)
    (s : State) :
    modLog n (fun e => if cond e then f e else e) s =
      { s with log := s.log.map fun e => if e.serial = n ∧ cond e then f e else e } := by
  simp only [modLog, ite_and]

theorem modRet_markPrinted (p : CounterPort) (l : SlotLabel) (s : State) :
    modRet (countStation p { labelsPrinted := 1 }) (markPrinted l s) = printedCounts p l s := by
  unfold markPrinted printedCounts
  split
  · rfl
  · rw [modLog_ite]
    rfl

theorem labelPrinted_setPort {c : Port} {k : SlotNo} {l : SlotLabel} (hl : c.slots.labels[k] = some l)
    (p : CounterPort) (s : State) :
    labelPrinted p k (s.setPort p c) =
      feedPrinter p ((printedCounts p l s).setPort p { c with slots := printedSlots k c.slots }) := by
  have hmark : withLabel p k markPrinted (s.setPort p c) = markPrinted l (s.setPort p c) := by
    simp only [withLabel, State.port_setPort_self, hl]
  calc labelPrinted p k (s.setPort p c)
      = feedPrinter p (modPort p (fun c => { c with slots := printedSlots k c.slots })
          (modRet (countStation p { labelsPrinted := 1 }) (markPrinted l (s.setPort p c)))) := by
        rw [← hmark]; rfl
    _ = feedPrinter p (modPort p (fun c => { c with slots := printedSlots k c.slots })
          ((printedCounts p l s).setPort p c)) := by rw [modRet_markPrinted]; rfl
    _ = _ := by rw [modPort_setPort]

/-! ### Which effect a print completion has -/

section
variable {c : Port} {k : SlotNo}

theorem printDoneOp_ok {l : SlotLabel} (hout : c.slots.outstanding = some k)
    (hl : c.slots.labels[k] = some l) (p : CounterPort) (s : State) :
    printDoneOp p k.val .ok (s.setPort p c) =
      feedPrinter p ((printedCounts p l s).setPort p { c with slots := printedSlots k c.slots }) := by
  simp only [printDoneOp, State.port_setPort_self, hout, if_true, labelPrinted_setPort hl]

theorem printDoneOp_failed (hout : c.slots.outstanding = some k) {o : PrintOutcome} (ho : o ≠ .ok)
    (p : CounterPort) (s : State) :
    printDoneOp p k.val o (s.setPort p c) = s.setPort p { c with
      printer := .fault, slots := { c.slots with outstanding := none } } := by
  have hfailed : printDoneOp p k.val o (s.setPort p c) = labelFailed p (s.setPort p c) := by
    cases o with
    | ok => exact absurd rfl ho
    | paperOut | jam => simp only [printDoneOp, State.port_setPort_self, hout, if_true]
  rw [hfailed, labelFailed, modPort_setPort]

theorem printDoneOp_notOutstanding {n : Nat} (h : ∀ k, c.slots.outstanding = some k → k.val ≠ n)
    (p : CounterPort) (o : PrintOutcome) (s : State) :
    printDoneOp p n o (s.setPort p c) = s.setPort p { c with errors := c.errors.addProtocol } := by
  have herror : printDoneOp p n o (s.setPort p c) = protocolError p (s.setPort p c) := by
    unfold printDoneOp
    rw [State.port_setPort_self]
    split
    · rfl
    · next k hk => rw [if_neg (h k hk)]
  rw [herror, protocolError, modPort_setPort]

end

/-! ### PRINT_DONE at a station -/

theorem exec_printDone (p : CounterPort) (n : Nat) (o : PrintOutcome) (s : State) :
    exec (.printDone p n o) s = .next (flush (handOn p scaleOnly (printDoneOp p n o) s)) := rfl

/-- A port whose frame is handed on (R8). -/
def reloadedPort (s : State) (p : CounterPort) : Port :=
  { s.port p with supervision := s.ret.config.supervisionReload }

/-- PRINT_DONE at an ONLINE scale: its rule is given the port with supervision reloaded, and owes no
display. -/
theorem exec_printDone_online {s base : State} {p : CounterPort} {n : Nat} {o : PrintOutcome} {c : Port}
    (hs : ScaleOnline s p) (hq : Quiet base) (hc : c.displayDue = false)
    (h : printDoneOp p n o (s.setPort p (reloadedPort s p)) = base.setPort p c) :
    exec (.printDone p n o) s = .next (base.setPort p c) := by
  obtain ⟨hup, honline, hkind⟩ := hs
  have hgiven : handOn p scaleOnly (printDoneOp p n o) s = base.setPort p c :=
    (handOn_up hup honline (by simp [scaleOnly, hkind])).trans h
  rw [exec_printDone, hgiven, flush_of_quiet (hq.setPort hc)]

theorem exec_printDone_offline {s : State} {p : CounterPort} (hq : Quiet s) (hup : (s.port p).state = .up)
    (hoff : (s.port p).online = false) (n : Nat) (o : PrintOutcome) :
    exec (.printDone p n o) s = .next s := by
  have hlost : handOn p scaleOnly (printDoneOp p n o) s = s := by simp [handOn, hup, hoff]
  rw [exec_printDone, hlost, flush_of_quiet hq]

/-! ### O51 -/

/-- Settles O51: the slot and the outcome choose the effect, and the feed then sends the next label where the
freed list has one and the printer is READY. -/
theorem printDoneFreesSlot : Obligations.PrintDoneFreesSlot := by
  refine ⟨fun s p hq hs => ⟨fun k l hout hl => ⟨⟨fun hidle => ?nothingSent,
    fun i rest m hpost hready hm => ?nextSent⟩, fun o ho => ?failed⟩, fun n o hn => ?ignored⟩,
    fun s p n o hq hup hoff => exec_printDone_offline hq hup hoff n o⟩
  case nothingSent =>
    refine exec_printDone_online hs (base := printedCounts p l s) hq (hq p) ?_
    rw [printDoneOp_ok (c := reloadedPort s p) hout hl]
    exact feedPrinter_setPort_idle hidle p _
  case nextSent =>
    have hreach : reachable (s.port p) = true := by
      obtain ⟨hup, honline, -⟩ := hs
      simp [reachable, hup, honline]
    refine exec_printDone_online hs (base := printedCounts p l s) hq (hq p) ?_
    rw [printDoneOp_ok (c := reloadedPort s p) hout hl]
    exact feedPrinter_setPort_sends
      (c := { reloadedPort s p with slots := printedSlots k (s.port p).slots }) hpost hm hreach hready rfl p _
  case failed =>
    exact exec_printDone_online hs hq (hq p) (printDoneOp_failed (c := reloadedPort s p) hout ho p s)
  case ignored =>
    exact exec_printDone_online hs hq (hq p) (printDoneOp_notOutstanding (c := reloadedPort s p) hn p o s)

end Sys2Proof.Machine
end

section
/-! PROOFS. The counter link (chapter 10): error counts cleared by STATUS_CLEAR, and the enables that decide
which notices are queued. -/

namespace Sys2Proof.Machine

/-! ### Port numbers of a request -/

@[simp] theorem portOfNumber_number (p : CounterPort) : portOfNumber p.number = some p := by
  simp [portOfNumber, CounterPort.number]

theorem portOfNumber_above {n : Nat} (h : 14 < n) : portOfNumber n = none := by
  have hout : ¬ n - 1 < 14 := by omega
  rw [portOfNumber, dif_neg hout]

/-! ### Cleared error counts (R192) -/

theorem clearUplinkErrors_uplinkRaised (s : State) :
    clearUplinkErrors (uplinkRaised s) = uplinkRaised (clearUplinkErrors s) := rfl

theorem clearPortErrors_uplinkRaised (p : CounterPort) (s : State) :
    clearPortErrors p (uplinkRaised s) = uplinkRaised (clearPortErrors p s) := rfl

theorem clearAllErrors_uplinkRaised (s : State) :
    clearAllErrors (uplinkRaised s) = uplinkRaised (clearAllErrors s) := rfl

@[simp] theorem clearAllErrors_port (s : State) (p : CounterPort) :
    (clearAllErrors s).port p = { s.port p with errors := {} } := by
  simp [clearAllErrors, clearUplinkErrors, State.port]

theorem clearPortErrors_quiet {s : State} (h : Quiet s) (p : CounterPort) : Quiet (clearPortErrors p s) :=
  h.setPort (h p)

theorem clearAllErrors_quiet {s : State} (h : Quiet s) : Quiet (clearAllErrors s) := by
  intro p
  rw [clearAllErrors_port]
  exact h p

/-! ### STATUS_CLEAR (R192) -/

theorem statusClearOp_all (tag : Nat) (s : State) :
    statusClearOp tag none s = reply tag .ok .none (clearAllErrors s) := rfl

theorem statusClearOp_uplink (tag : Nat) (s : State) :
    statusClearOp tag (some 0) s = reply tag .ok .none (clearUplinkErrors s) := rfl

theorem statusClearOp_number (tag : Nat) (p : CounterPort) (s : State) :
    statusClearOp tag (some p.number) s = reply tag .ok .none (clearPortErrors p s) := by
  have hcounter : p.number ≠ 0 := Nat.succ_ne_zero p.val
  simp only [statusClearOp, if_neg hcounter, portOfNumber_number]

theorem statusClearOp_above (tag : Nat) {n : Nat} (h : 14 < n) (s : State) :
    statusClearOp tag (some n) s = reply tag .badRecord .none s := by
  have hcounter : n ≠ 0 := by omega
  simp only [statusClearOp, if_neg hcounter, portOfNumber_above h, refuseRequest]

/-! ### O13 -/

/-- Settles O13: the port number chooses which counts are cleared, and a clear owes no display. -/
theorem statusClearClearsCounts : Obligations.StatusClearClearsCounts := by
  intro s tag hopen
  have hquiet : Quiet s := hopen.1
  refine ⟨fun p => ?port, ?uplink, ?all, fun n hn => ?above, rfl⟩
  case port =>
    refine exec_replied (base := clearPortErrors p s) hopen rfl (clearPortErrors_quiet hquiet p) ?_
    rw [statusClearOp_number, clearPortErrors_uplinkRaised]
  case uplink =>
    refine exec_replied (base := clearUplinkErrors s) hopen rfl hquiet ?_
    rw [statusClearOp_uplink, clearUplinkErrors_uplinkRaised]
  case all =>
    refine exec_replied (base := clearAllErrors s) hopen rfl (clearAllErrors_quiet hquiet) ?_
    rw [statusClearOp_all, clearAllErrors_uplinkRaised]
  case above =>
    exact exec_replied hopen rfl hquiet (statusClearOp_above tag hn (uplinkRaised s))

/-! ### The enables (R194, R196) -/

theorem noticeEnableOp_uplinkRaised (tag : Nat) (e : Enables) (s : State) :
    noticeEnableOp tag e (uplinkRaised s) = reply tag .ok (.enables s.notices.enables)
      (uplinkRaised { s with notices := { s.notices with enables := e } }) := rfl

theorem notify_classOff {b : NoticeBody} {s : State} (h : classEnabled s.notices.enables b = false) :
    notify b s = s := by simp [notify, h]

theorem warmReset_enables (s : State) : (warmReset s).notices.enables = Enables.off := rfl

theorem powerUp_enables (found : List (Area × Nat)) (s : State) :
    (powerUp found s).notices.enables = Enables.off := rfl

/-! ### O14 -/

/-- Settles O14: the rule keeps the queue and answers the enables it was given, the master and the class each
stop a notice, and both resets start from a notice queue whose enables are OFF. -/
theorem noticeEnableReplacesEnables : Obligations.NoticeEnableReplacesEnables := by
  refine ⟨fun s tag e hopen => ?replaced, fun s b hoff => ?notQueued,
    fun s => ⟨warmReset s, rfl, warmReset_enables s⟩,
    fun s found => ⟨powerUp found s, rfl, powerUp_enables found s⟩⟩
  case replaced =>
    exact exec_replied (base := { s with notices := { s.notices with enables := e } }) hopen rfl hopen.1
      (noticeEnableOp_uplinkRaised tag e s)
  case notQueued =>
    obtain hmaster | hclass := hoff
    · exact notify_off hmaster
    · exact notify_classOff hclass

end Sys2Proof.Machine
end

section
/-! PROOFS. The step (chapter 0): the command at the front, the idle step, and which commands can stop. -/

namespace Sys2Proof.Machine

/-! ### O1, O2: the front command and the idle step -/

theorem step_front {s : State} {i : Instr} {rest : List Instr} (h : s.pending = i :: rest) :
    step s = exec i { s with pending := rest } := by simp only [step, h]

theorem step_idle {s : State} (h : s.pending = []) : step s = .next (sendFrames s) := by simp only [step, h]

/-- Settles O1: the step looks at the front of the queue. -/
theorem stepRunsFrontCommand : Obligations.StepRunsFrontCommand := fun _ _ _ => step_front

@[simp] theorem sendFrames_port (s : State) (p : CounterPort) :
    (sendFrames s).port p = sendFrame p (s.port p) := by simp [sendFrames, State.port]

theorem sendFrame_nil {c : Port} (h : c.tx = []) (p : CounterPort) : sendFrame p c = c := by
  simp only [sendFrame, h]

theorem sendFrame_cons {c : Port} {f : OutFrame} {rest : List OutFrame} (h : c.tx = f :: rest)
    (p : CounterPort) :
    sendFrame p c = { c with tx := rest, lastSent := some (outFrameBytes p f) } := by
  simp only [sendFrame, h]

/-- Settles O2: the idle step is the transmitters', port by port. -/
theorem idleStepSendsOldestFrames : Obligations.IdleStepSendsOldestFrames := by
  intro s hidle
  refine ⟨sendFrames s, step_idle hidle, rfl, fun p => ⟨fun hnone => ?_, fun f rest hsome => ?_⟩⟩
  · rw [sendFrames_port, sendFrame_nil hnone]
  · rw [sendFrames_port, sendFrame_cons hsome]

/-! ### O3: only a completed composition can stop -/

/-- A command whose rule is a choice between next states answers one of them. -/
theorem exists_next_of_ite {c : Prop} [Decidable c] (a b : State) :
    ∃ t, (if c then (.next a : Host.Outcome State Fault Refusal) else .next b) = .next t := by
  split <;> exact ⟨_, rfl⟩

theorem execLineDrop_next (p : CounterPort) (s : State) : ∃ t, execLineDrop p s = .next t := by
  unfold execLineDrop
  cases (s.port p).state with
  | down | refused => exact ⟨_, rfl⟩
  | up => exact exists_next_of_ite _ _

theorem execHello_next (p : CounterPort) (k : Option DeviceKind) (sw : Switch) (pr : PrinterCondition)
    (s : State) : ∃ t, execHello p k sw pr s = .next t := by
  cases k <;> exact ⟨_, rfl⟩

theorem execCallTimeout_next (k : TicketNo) (s : State) : ∃ t, execCallTimeout k s = .next t := by
  unfold execCallTimeout
  cases (s.ticket k).state with
  | called => exact exists_next_of_ite _ _
  | free | waiting | skipped | inService => exact ⟨_, rfl⟩

theorem execOrderAbandoned_next (n : Nat) (s : State) : ∃ t, execOrderAbandoned n s = .next t := by
  unfold execOrderAbandoned
  cases orderOf s.orders n with
  | none => exact ⟨_, rfl⟩
  | some o => exact exists_next_of_ite _ _

theorem execCompositionComplete_next_or_fault (s : State) :
    (∃ t, execCompositionComplete s = .next t) ∨ ∃ f, execCompositionComplete s = .fault f := by
  unfold execCompositionComplete
  cases s.composer.current with
  | none => exact .inl ⟨_, rfl⟩
  | some c =>
    dsimp only
    split
    · exact .inl ⟨_, rfl⟩
    · cases completeJob c (freeComposer s) with
      | ok t => exact .inl ⟨_, rfl⟩
      | error f => exact .inr ⟨f, rfl⟩

/-- Settles O3: every rule but that of a completed composition ends in next states alone. -/
theorem onlyCompositionCanStop : Obligations.OnlyCompositionCanStop := by
  intro i s
  cases i
  case compositionComplete =>
    obtain hnext | hfault := execCompositionComplete_next_or_fault s
    · exact .inl hnext
    · exact .inr ⟨rfl, hfault⟩
  case lineDrop p => exact .inl (execLineDrop_next p s)
  case hello p k sw pr => exact .inl (execHello_next p k sw pr s)
  case callTimeout k => exact .inl (execCallTimeout_next k s)
  case orderAbandoned n => exact .inl (execOrderAbandoned_next n s)
  case malformedFrame | malformedRequest | sampleGapExpiry | supervisionExpiry | commitActivation
    | commitDrainExpiry | closeDrainExpiry | uplinkLineDrop => exact .inl (exists_next_of_ite _ _)
  all_goals exact .inl ⟨_, rfl⟩

end Sys2Proof.Machine
end

section
/-! PROOFS. What one elementary update may do: every command is a chain of these updates, and each of the
invariants over the lists, the totals and the loaded tables is kept by each of them. -/

namespace Sys2Proof.Machine

/-! ### What an update keeps -/

/-- The loaded tables of two stores are the same (11.1). -/
structure SameTables (r r' : Retained) : Prop where
  operators : r'.operators = r.operators
  templates : r'.templates = r.templates
  table0 : r'.table0 = r.table0
  table1 : r'.table1 = r.table1
  cal : r'.cal = r.cal
  audit : r'.audit = r.audit
  config : r'.config = r.config

theorem SameTables.rfl {r : Retained} : SameTables r r := by constructor <;> trivial

/-- The grand items and value of a set of totals are the sums of the stations', while no mark is set. -/
def TotalsBalanced (t : Totals) : Prop :=
  LedgerClean t →
    t.grand.items = (t.stations.toList.map (·.items)).sum ∧
      t.grand.value = (t.stations.toList.map (·.value)).sum

/-- A store written by an elementary update: the tables are the same or written as `L` allows, the totals stay
balanced and no record joins the item table. -/
structure StoreUpdate (L : Retained → Retained → Prop) (r r' : Retained) : Prop where
  tables : SameTables r r' ∨ L r r'
  totals : TotalsBalanced r.totals → TotalsBalanced r'.totals
  items : (r'.items.map (·.item.plu)).Sublist (r.items.map (·.item.plu))

/-- The notice queue and its lost count are within their bounds (R194). -/
def NoticesBounded (q : NoticeQueue) : Prop :=
  q.queue.length ≤ Config.maxNotices ∧ q.lost ≤ Config.maxLost

/-- The waiting queue or the calling-stations list is empty (R130). -/
def TicketUnit.OneLine (u : TicketUnit) : Prop := u.waiting = [] ∨ u.calling = []

/-- The station of a composition that will be posted. -/
def Composer.posting (c : Composer) : Option CounterPort :=
  c.current.bind fun x => if x.dropped then none else some x.job.station

/-! ### Elementary updates -/

/-- One elementary update of the state, with what the rules that make it have checked. The loaded tables change
only as `L` allows. -/
inductive Update (L : Retained → Retained → Prop) (s : State) : State → Prop
  | ports (v : Vector Port 14)
      (hsound : ∀ p : CounterPort, SlotsSound (s.port p).slots → SlotsSound v[p].slots)
      (hfree : ∀ p : CounterPort, (s.port p).slots.free ≠ [] → v[p].slots.free ≠ []) :
      Update L s { s with ports := v }
  | post (p : CounterPort) (k : SlotNo) (rest : List SlotNo) (l : SlotLabel)
      (hfree : (s.port p).slots.free = k :: rest) (hnone : s.composer.current = none) :
      Update L s (postLabel p k l s)
  | store (r : Retained) (h : StoreUpdate L s.ret r) : Update L s { s with ret := r }
  | clock (c : Clock) : Update L s { s with clock := c }
  | free (n : Nat) : Update L s { s with free := n }
  | uplink (u : Uplink) (h : s.uplink.replies.length ≤ Config.maxReplies → u.replies.length ≤ Config.maxReplies) :
      Update L s { s with uplink := u }
  | notices (q : NoticeQueue) (h : NoticesBounded s.notices → NoticesBounded q) :
      Update L s { s with notices := q }
  | staged (l : List StageEntry) (hediting : s.commit = .editing) (hlength : l.length ≤ Config.maxStaged)
      (hnodup : (s.staged.map entryPlu).Nodup → (l.map entryPlu).Nodup) : Update L s { s with staged := l }
  | commit (c : CommitState) (hday : c = .editing ∨ s.commit ≠ .editing ∨ s.dayState = .trading)
      (hfits : ∀ d, c = .waiting d →
        (∃ d', s.commit = .waiting d') ∨ capacityCount s.ret.items s.staged ≤ Config.maxItems) :
      Update L s { s with commit := c }
  | applied (named : List Nat) (g : Nat) (d : CommitDrain) (hwaiting : s.commit = .waiting d) :
      Update L s { s with
        ret := { s.ret with items := (applyEntries named s.staged s.ret.items).1, generation := g }
        staged := [], commit := .editing }
  | day (d : DayState) (h : d = .trading ∨ s.commit = .editing ∨ s.dayState ≠ .trading) :
      Update L s { s with dayState := d }
  | join (j : Job) (h : hasJob s j.station = false) :
      Update L s { s with composer := { s.composer with queue := s.composer.queue ++ [j] } }
  | take (queue : List Job) (c : Composition) (n : Nat) (hqueue : queue.Sublist s.composer.queue)
      (hnone : s.composer.current = none) (hfree : (s.port c.job.station).slots.free ≠ [])
      (hother : ∀ j ∈ queue, j.station ≠ c.job.station) :
      Update L s { s with composer := { queue := queue, current := some c, serviceCount := n } }
  | lessen (c : Composer) (hqueue : c.queue.Sublist s.composer.queue)
      (hcurrent : c.posting = none ∨ c.posting = s.composer.posting) :
      Update L s { s with composer := c }
  | log (l : List LogEntry) (h : s.log.length ≤ Config.maxLog → l.length ≤ Config.maxLog) :
      Update L s { s with log := l }
  | tickets (u : TicketUnit) (hline : s.tickets.OneLine → u.OneLine)
      (hskipped : s.tickets.skipped.length ≤ Config.maxSkipped → u.skipped.length ≤ Config.maxSkipped) :
      Update L s { s with tickets := u }
  | orders (l : List Order) (h : s.orders.length ≤ Config.maxOrders → l.length ≤ Config.maxOrders) :
      Update L s { s with orders := l }
  | reset (r : Retained) (c : Clock) (q : NoticeQueue) (hstore : StoreUpdate L s.ret r)
      (hnotices : NoticesBounded q) :
      Update L s (State.afterReset s.pending r c q s.free)

/-- A chain of elementary updates. -/
def Updates (L : Retained → Retained → Prop) : State → State → Prop := Relation.ReflTransGen (Update L)

namespace Updates
variable {L : Retained → Retained → Prop} {s t u : State}

theorem rfl : Updates L s s := Relation.ReflTransGen.refl

theorem of_eq (h : s = t) : Updates L s t := h ▸ rfl

theorem trans (h₁ : Updates L s t) (h₂ : Updates L t u) : Updates L s u := Relation.ReflTransGen.trans h₁ h₂

theorem one (h : Update L s t) : Updates L s t := Relation.ReflTransGen.single h

/-- What every elementary update keeps, a chain keeps. -/
theorem keeps {I : State → Prop} (hstep : ∀ a b, Update L a b → I a → I b) (h : Updates L s t) (hs : I s) :
    I t := by
  induction h with
  | refl => exact hs
  | tail _ hlast ih => exact hstep _ _ hlast ih

/-- More writes to the tables are allowed by a weaker relation. -/
theorem mono {L' : Retained → Retained → Prop} (hL : ∀ r r', L r r' → L' r r') (h : Updates L s t) :
    Updates L' s t := by
  have store {r r'} (h : StoreUpdate L r r') : StoreUpdate L' r r' :=
    { h with tables := h.tables.imp_right (hL r r') }
  refine Relation.ReflTransGen.mono (p := Update L') (fun a b hab => ?_) s t h
  cases hab with
  | ports v h1 h2 => exact .ports v h1 h2
  | post p k rest l h1 h2 => exact .post p k rest l h1 h2
  | store r h => exact .store r (store h)
  | clock c => exact .clock c
  | free n => exact .free n
  | uplink u h => exact .uplink u h
  | notices q h => exact .notices q h
  | staged l h1 h2 h3 => exact .staged l h1 h2 h3
  | commit c h1 h2 => exact .commit c h1 h2
  | applied named g d h => exact .applied named g d h
  | day d h => exact .day d h
  | join j h => exact .join j h
  | take queue c n h1 h2 h3 h4 => exact .take queue c n h1 h2 h3 h4
  | lessen c h1 h2 => exact .lessen c h1 h2
  | log l h => exact .log l h
  | tickets u h1 h2 => exact .tickets u h1 h2
  | orders l h => exact .orders l h
  | reset r c q h1 h2 => exact .reset r c q (store h1) h2

end Updates

/-! ### Updates of one field -/

section
variable {L : Retained → Retained → Prop}

/-- Ports written with their slots as they were. -/
theorem ports_updates {s : State} {v : Vector Port 14} (h : ∀ p : CounterPort, v[p].slots = (s.port p).slots) :
    Updates L s { s with ports := v } :=
  .one (.ports v (fun p => by rw [h p]; exact id) fun p => by rw [h p]; exact id)

theorem setPort_slots_updates {s : State} {p : CounterPort} {c : Port}
    (hsound : SlotsSound (s.port p).slots → SlotsSound c.slots)
    (hfree : (s.port p).slots.free ≠ [] → c.slots.free ≠ []) : Updates L s (s.setPort p c) := by
  have hport : ∀ q : CounterPort, (s.ports.set p c)[q] = if q = p then c else s.port q :=
    fun q => State.port_setPort s p q c
  refine .one (.ports _ (fun q => ?_) fun q => ?_) <;> rw [hport] <;> split
  · next h => exact h ▸ hsound
  · exact id
  · next h => exact h ▸ hfree
  · exact id

theorem setPort_updates {s : State} {p : CounterPort} {c : Port} (h : c.slots = (s.port p).slots) :
    Updates L s (s.setPort p c) :=
  setPort_slots_updates (h ▸ id) (h ▸ id)

theorem modPort_updates {f : Port → Port} (h : ∀ c, (f c).slots = c.slots) (p : CounterPort) (s : State) :
    Updates L s (modPort p f s) := setPort_updates (h _)

theorem notify_updates (b : NoticeBody) (s : State) : Updates L s (notify b s) := by
  obtain h | h := notify_cases b s
  · exact .of_eq h.symm
  · rw [h]
    refine .one (.notices _ fun hq => ?_)
    exact ⟨NoticeQueue.push_length_le _ _ hq.1, NoticeQueue.push_lost_le _ _ hq.2⟩

theorem flush_updates (s : State) : Updates L s (flush s) := by
  refine ports_updates fun p => ?_
  have hslots : (flushPort s p).slots = (s.port p).slots := by
    unfold flushPort
    dsimp only
    split
    · split <;> rfl
    · rfl
  simpa using hslots

theorem markAllDisplays_updates (s : State) : Updates L s (markAllDisplays s) :=
  ports_updates fun p => by simp [State.port]

theorem markDisplay_updates (p : CounterPort) (s : State) : Updates L s (markDisplay p s) :=
  modPort_updates (fun _ => by rfl) p s

theorem holdMessage_updates (p : CounterPort) (m : MsgCode) (s : State) : Updates L s (holdMessage p m s) :=
  modPort_updates (fun _ => by rfl) p s

theorem refuseKey_updates (p : CounterPort) (m : MsgCode) (s : State) : Updates L s (refuseKey p m s) :=
  holdMessage_updates p m s

theorem clearHeld_updates (p : CounterPort) (s : State) : Updates L s (clearHeld p s) :=
  modPort_updates (fun _ => by rfl) p s

theorem setSale_updates (p : CounterPort) (v : SaleState) (m : Option MsgCode) (s : State) :
    Updates L s (setSale p v m s) := modPort_updates (fun _ => by rfl) p s

theorem setService_updates (p : CounterPort) (v : ServiceState) (s : State) :
    Updates L s (setService p v s) := modPort_updates (fun _ => by rfl) p s

theorem protocolError_updates (p : CounterPort) (s : State) : Updates L s (protocolError p s) :=
  modPort_updates (fun _ => by rfl) p s

theorem reloadSupervision_updates (p : CounterPort) (s : State) : Updates L s (reloadSupervision p s) :=
  modPort_updates (fun _ => by rfl) p s

theorem deliver_updates (p : CounterPort) (f : OutFrame) (s : State) : Updates L s (deliver p f s) :=
  modPort_updates (fun c => by split <;> rfl) p s

theorem handResult_updates (p : CounterPort) (w : WeighCtx) (r : WeightResult) (s : State) :
    Updates L s (handResult p w r s) := modPort_updates (fun _ => by rfl) p s

theorem reprice_updates (p : CounterPort) (s : State) : Updates L s (reprice p s) :=
  modPort_updates (fun _ => by rfl) p s

theorem applyTare_updates (p : CounterPort) (t : Tare) (s : State) : Updates L s (applyTare p t s) := by
  obtain ⟨sn, h, -⟩ := applyTare_eq p t s
  rw [h]
  exact setPort_updates (by rfl)

theorem removePreset_updates (p : CounterPort) (s : State) : Updates L s (removePreset p s) := by
  obtain ⟨-, h⟩ | ⟨-, h⟩ := removePreset_cases p s <;> rw [h]
  · exact applyTare_updates p noTare s
  · exact .rfl

theorem offerPreset_updates (p : CounterPort) (n : Nat) (s : State) : Updates L s (offerPreset p n s).1 := by
  unfold offerPreset
  split
  · exact .rfl
  · exact .rfl
  · exact .rfl
  · split
    · exact .rfl
    · split
      · exact .rfl
      · exact applyTare_updates _ _ s

end

/-! ### Totals (R164, R165, R169) -/

theorem lt_of_accMove_lt {up : Bool} {top x n : Nat} (h : accMove up top x n < top) : x < top := by
  cases up <;> simp only [accMove, Bool.false_eq_true, if_false, if_true] at h <;> split at h <;> omega

/-- An accumulator below its top that a movement does not mark is moved by the whole amount. -/
theorem accMove_unmarked {up : Bool} {top x n : Nat} (hx : x < top) (hm : accMarks up top x n = false) :
    (accMove up top x n : Int) = x + (if up then (n : Int) else -n) := by
  cases up <;> simp only [accMove, accMarks, Bool.false_eq_true, if_false, if_true, decide_eq_false_iff_not]
    at hm ⊢ <;> split <;> omega

theorem stationSum_eq (v : Vector StationTotals 14) (f : StationTotals → Nat) :
    (v.toList.map f).sum = ∑ q : CounterPort, f v[q] := by
  rw [Fin.sum_univ_def]
  congr 1
  apply List.ext_getElem <;> simp

theorem le_stationSum (v : Vector StationTotals 14) (f : StationTotals → Nat) (q : CounterPort) :
    f v[q] ≤ (v.toList.map f).sum := by
  rw [stationSum_eq]
  exact Finset.single_le_sum (f := fun q : CounterPort => f v[q]) (fun _ _ => Nat.zero_le _)
    (Finset.mem_univ q)

/-- Adding an amount at one station adds it to the sum. -/
theorem stationSum_shift {v w : Vector StationTotals 14} {f : StationTotals → Nat} (p : CounterPort) (δ : Int)
    (h : ∀ q : CounterPort, (f w[q] : Int) = f v[q] + if q = p then δ else 0) :
    ((w.toList.map f).sum : Int) = (v.toList.map f).sum + δ := by
  rw [stationSum_eq, stationSum_eq]
  push_cast
  simp only [h, Finset.sum_add_distrib, Finset.sum_ite_eq', Finset.mem_univ, if_true]

theorem getElem_set_port {α : Type} (v : Vector α 14) (p q : CounterPort) (a : α) :
    (v.set p a)[q] = if q = p then a else v[q] := by
  by_cases hq : q = p
  · subst hq; simp
  · have hne : (p : Nat) ≠ (q : Nat) := fun e => hq (Fin.ext e.symm)
    simp [hq, hne]

/-- Totals that move by one amount in the grand group and at one station stay balanced. -/
theorem TotalsBalanced.of_shift {t u : Totals} (h : TotalsBalanced t) (hclean : LedgerClean u → LedgerClean t)
    (hshift : LedgerClean t → LedgerClean u →
      (∀ q : CounterPort, t.stations[q].items < Config.countTop ∧ t.stations[q].value < Config.valueTop) →
      ∃ (p : CounterPort) (δi δv : Int), (u.grand.items : Int) = t.grand.items + δi ∧
        (u.grand.value : Int) = t.grand.value + δv ∧ ∀ q : CounterPort,
          (u.stations[q].items : Int) = t.stations[q].items + (if q = p then δi else 0) ∧
          (u.stations[q].value : Int) = t.stations[q].value + (if q = p then δv else 0)) :
    TotalsBalanced u := by
  intro hu
  have ht := hclean hu
  obtain ⟨hitems, hvalue⟩ := h ht
  have ⟨_, _, hi, hv⟩ := ht
  obtain ⟨p, δi, δv, hgi, hgv, hst⟩ := hshift ht hu fun q =>
    ⟨lt_of_le_of_lt (hitems ▸ le_stationSum t.stations (·.items) q) hi,
      lt_of_le_of_lt (hvalue ▸ le_stationSum t.stations (·.value) q) hv⟩
  have hsi := stationSum_shift (f := (·.items)) p δi fun q => (hst q).1
  have hsv := stationSum_shift (f := (·.value)) p δv fun q => (hst q).2
  constructor <;> omega

/-- What an unmarked group says of its movement. -/
theorem GrandTotals.move_unmarked {up : Bool} {g d : GrandTotals} (h : (g.move up d).mark = false) :
    g.mark = false ∧ accMarks up Config.countTop g.items d.items = false ∧
      accMarks up Config.valueTop g.value d.value = false := by
  simp only [GrandTotals.move, Bool.or_eq_false_iff] at h
  tauto

theorem StationTotals.move_unmarked {up : Bool} {g d : StationTotals} (h : (g.move up d).mark = false) :
    g.mark = false ∧ accMarks up Config.countTop g.items d.items = false ∧
      accMarks up Config.valueTop g.value d.value = false := by
  simp only [StationTotals.move, Bool.or_eq_false_iff] at h
  tauto

/-- The signed amount of a movement. -/
def signed (up : Bool) (n : Nat) : Int := if up then n else -n

/-- A movement of the grand group, and of one station by the same items and value, keeps the balance. -/
theorem TotalsBalanced.move_both {t u : Totals} (h : TotalsBalanced t) {up : Bool} {p : CounterPort}
    {d : StationTotals} {g : GrandTotals} (hitems : d.items = g.items) (hvalue : d.value = g.value)
    (hgrand : u.grand = t.grand.move up g)
    (hstations : u.stations = t.stations.set p (t.stations[p].move up d)) : TotalsBalanced u := by
  have hset := fun q => (congrArg (fun v => v[q]) hstations).trans (getElem_set_port t.stations p q _)
  refine h.of_shift (fun hu => ?_) fun ht hu hbelow => ?_
  · obtain ⟨hgm, hsm, hi, hv⟩ := hu
    rw [hgrand] at hgm hi hv
    refine ⟨(GrandTotals.move_unmarked hgm).1, fun q => ?_, lt_of_accMove_lt hi, lt_of_accMove_lt hv⟩
    have hq := hsm q
    rw [hset q] at hq
    split at hq
    · next e => exact e ▸ (StationTotals.move_unmarked hq).1
    · exact hq
  · obtain ⟨-, -, hti, htv⟩ := ht
    obtain ⟨hgm, hsm, -, -⟩ := hu
    rw [hgrand] at hgm
    obtain ⟨-, hgi, hgv⟩ := GrandTotals.move_unmarked hgm
    have hp := hsm p
    rw [hset p, if_pos rfl] at hp
    obtain ⟨-, hsi, hsv⟩ := StationTotals.move_unmarked hp
    refine ⟨p, signed up g.items, signed up g.value, ?_, ?_, fun q => ?_⟩
    · rw [hgrand]; exact accMove_unmarked hti hgi
    · rw [hgrand]; exact accMove_unmarked htv hgv
    · rw [hset q]
      split
      · next e =>
        subst e
        constructor
        · rw [← hitems]; exact accMove_unmarked (hbelow q).1 hsi
        · rw [← hvalue]; exact accMove_unmarked (hbelow q).2 hsv
      · simp

theorem signed_zero (up : Bool) : signed up 0 = 0 := by cases up <;> rfl

/-- Counts raised in the grand group alone, of neither items nor value, keep the balance. -/
theorem TotalsBalanced.move_grand {t u : Totals} (h : TotalsBalanced t) {up : Bool} {g : GrandTotals}
    (hitems : g.items = 0) (hvalue : g.value = 0) (hgrand : u.grand = t.grand.move up g)
    (hstations : u.stations = t.stations) : TotalsBalanced u := by
  refine h.of_shift (fun hu => ?_) fun ht hu hbelow => ?_
  · obtain ⟨hgm, hsm, hi, hv⟩ := hu
    rw [hgrand] at hgm hi hv
    exact ⟨(GrandTotals.move_unmarked hgm).1, fun q => hstations ▸ hsm q, lt_of_accMove_lt hi,
      lt_of_accMove_lt hv⟩
  · obtain ⟨-, -, hti, htv⟩ := ht
    have hgm := hu.1
    rw [hgrand] at hgm
    obtain ⟨-, hgi, hgv⟩ := GrandTotals.move_unmarked hgm
    refine ⟨0, 0, 0, ?_, ?_, fun q => by simp [hstations]⟩
    · rw [hgrand, ← signed_zero up, ← hitems]; exact accMove_unmarked hti hgi
    · rw [hgrand, ← signed_zero up, ← hvalue]; exact accMove_unmarked htv hgv

/-- Counts raised at one station alone, of neither items nor value, keep the balance. -/
theorem TotalsBalanced.move_station {t u : Totals} (h : TotalsBalanced t) {up : Bool} {p : CounterPort}
    {d : StationTotals} (hitems : d.items = 0) (hvalue : d.value = 0) (hgrand : u.grand = t.grand)
    (hstations : u.stations = t.stations.set p (t.stations[p].move up d)) : TotalsBalanced u := by
  have hset := fun q => (congrArg (fun v => v[q]) hstations).trans (getElem_set_port t.stations p q _)
  refine h.of_shift (fun hu => ?_) fun ht hu hbelow => ?_
  · obtain ⟨hgm, hsm, hi, hv⟩ := hu
    rw [hgrand] at hgm hi hv
    refine ⟨hgm, fun q => ?_, hi, hv⟩
    have hq := hsm q
    rw [hset q] at hq
    split at hq
    · next e => exact e ▸ (StationTotals.move_unmarked hq).1
    · exact hq
  · have hp := hu.2.1 p
    rw [hset p, if_pos rfl] at hp
    obtain ⟨-, hsi, hsv⟩ := StationTotals.move_unmarked hp
    refine ⟨p, 0, 0, by rw [hgrand]; simp, by rw [hgrand]; simp, fun q => ?_⟩
    rw [hset q]
    split
    · next e =>
      subst e
      simp only [← signed_zero up]
      constructor
      · rw [← hitems]; exact accMove_unmarked (hbelow q).1 hsi
      · rw [← hvalue]; exact accMove_unmarked (hbelow q).2 hsv
    · simp


end Sys2Proof.Machine
end

section
/-! PROOFS. The shared operations of Machine/Ops.lean as chains of elementary updates. -/

namespace Sys2Proof.Machine

section
variable {L : Retained → Retained → Prop}

/-! ### The store -/

theorem StoreUpdate.rfl {r : Retained} : StoreUpdate L r r := ⟨.inl .rfl, id, .refl _⟩

/-- A store whose totals alone are written. -/
theorem StoreUpdate.totals_only {r : Retained} {t : Totals} (h : TotalsBalanced r.totals → TotalsBalanced t) :
    StoreUpdate L r { r with totals := t } :=
  ⟨.inl (by constructor <;> rfl), h, .refl _⟩

/-- A store whose loaded tables alone are written. -/
theorem StoreUpdate.tables_only {r r' : Retained} (h : L r r') (htotals : r'.totals = r.totals)
    (hitems : r'.items = r.items) : StoreUpdate L r r' :=
  ⟨.inr h, htotals ▸ id, hitems ▸ .refl _⟩

theorem modRet_updates {f : Retained → Retained} {s : State} (h : StoreUpdate L s.ret (f s.ret)) :
    Updates L s (modRet f s) := .one (.store _ h)

theorem countGrand_updates {d : GrandTotals} (hitems : d.items = 0) (hvalue : d.value = 0) (s : State) :
    Updates L s (modRet (countGrand d) s) :=
  modRet_updates (.totals_only fun h => h.move_grand (up := true) hitems hvalue rfl rfl)

theorem countStation_updates {d : StationTotals} (hitems : d.items = 0) (hvalue : d.value = 0)
    (p : CounterPort) (s : State) : Updates L s (modRet (countStation p d) s) :=
  modRet_updates (.totals_only fun h => h.move_station (up := true) hitems hvalue rfl rfl)

theorem Totals.atOperator_grand (n : Option OperatorNo) (f : OperatorTotals → OperatorTotals) (t : Totals) :
    (t.atOperator n f).grand = t.grand := by cases n <;> rfl

theorem Totals.atOperator_stations (n : Option OperatorNo) (f : OperatorTotals → OperatorTotals) (t : Totals) :
    (t.atOperator n f).stations = t.stations := by cases n <;> rfl

theorem TotalsBalanced.congr {t u : Totals} (hgrand : u.grand = t.grand) (hstations : u.stations = t.stations)
    (h : TotalsBalanced t) : TotalsBalanced u := by
  unfold TotalsBalanced LedgerClean at *
  rw [hgrand, hstations]
  exact h

theorem countOperator_updates (n : Option OperatorNo) (d : OperatorTotals) (s : State) :
    Updates L s (modRet (countOperator n d) s) :=
  modRet_updates (.totals_only fun h =>
    h.congr (Totals.atOperator_grand n _ _) (Totals.atOperator_stations n _ _))

theorem countBoth_updates {d : StationTotals} {g : GrandTotals} (hd : d.items = 0 ∧ d.value = 0)
    (hg : g.items = 0 ∧ g.value = 0) (p : CounterPort) (s : State) : Updates L s (countBoth p d g s) :=
  (countStation_updates hd.1 hd.2 p s).trans (countGrand_updates hg.1 hg.2 _)

theorem sublist_of_eq {α : Type} {l m : List α} (h : l = m) : l.Sublist m := h ▸ .refl _

theorem withItemTotals_plus (n : Nat) (f : ItemTotals → ItemTotals) (items : List ItemRecord) :
    (withItemTotals n f items).map (·.item.plu) = items.map (·.item.plu) := by
  simp only [withItemTotals, List.map_map]
  congr 1
  funext r
  simp only [Function.comp]
  split <;> rfl

theorem moveSale_updates (up : Bool) (sr : SaleRecord) (s : State) :
    Updates L s (modRet (moveSale up sr) s) := by
  refine modRet_updates ⟨.inl (by constructor <;> rfl), fun h => ?_,
    sublist_of_eq (withItemTotals_plus sr.item.plu (ItemTotals.move up · (saleItemDelta sr)) s.ret.items)⟩
  refine h.move_both (up := up) (p := sr.station) (d := { items := 1, value := sr.amounts.final })
    (g := { items := 1, value := sr.amounts.final, markdown := sr.amounts.markdown }) rfl rfl ?_ ?_
  · simp only [moveSale, Totals.atGrand, Totals.atStation, Totals.atOperator_grand]
    rfl
  · simp only [moveSale, Totals.atGrand, Totals.atStation, Totals.atOperator_stations]
    rfl

/-! ### Commits and snapshots -/

theorem completeCommit_updates (named : List Nat) (s : State) : Updates L s (completeCommit named s) := by
  unfold completeCommit
  split
  · next d h =>
    exact ((Updates.one (.applied _ _ d h)).trans (notify_updates _ _)).trans (markAllDisplays_updates _)
  · exact .rfl

/-- The drain of a commit that waits changes. -/
theorem waiting_updates {s : State} {d : CommitDrain} (h : s.commit = .waiting d) (d' : CommitDrain) :
    Updates L s { s with commit := .waiting d' } :=
  .one (.commit _ (.inr (.inl (by rw [h]; simp))) fun _ _ => .inl ⟨d, h⟩)

theorem reportClose_updates (named : List Nat) (g : Nat) (s : State) : Updates L s (reportClose named g s) := by
  obtain h | ⟨d, hd, -, ⟨-, h⟩ | ⟨-, h⟩⟩ := reportClose_cases named g s <;> rw [h]
  · exact .rfl
  · exact waiting_updates hd _
  · exact (waiting_updates hd _).trans (completeCommit_updates named _)

theorem closeSnapshotFor_updates (named : List Nat) (p : CounterPort) (s : State) :
    Updates L s (closeSnapshotFor named p s) := by
  unfold closeSnapshotFor
  split
  · exact .rfl
  · exact ((modPort_updates (fun _ => by rfl) p s).trans (removePreset_updates p _)).trans
      (reportClose_updates named _ _)

theorem closeSnapshot_updates (p : CounterPort) (s : State) : Updates L s (closeSnapshot p s) :=
  closeSnapshotFor_updates [] p s

/-- A commit that fits the table enters WAITING from EDITING in a TRADING day, or from SCHEDULED. -/
theorem enterWaiting_updates {s : State} (h : s.commit ≠ .editing ∨ s.dayState = .trading)
    (hfits : capacityCount s.ret.items s.staged ≤ Config.maxItems) : Updates L s (enterWaiting s) := by
  have hwait : ∀ d, Updates L s { s with commit := .waiting d } :=
    fun d => .one (.commit _ (.inr h) fun _ _ => .inr hfits)
  unfold enterWaiting
  dsimp only
  split
  · exact (hwait _).trans (completeCommit_updates [] _)
  · exact hwait _

/-! ### Sale states -/

theorem tickets_updates {s : State} {u : TicketUnit} (hline : s.tickets.OneLine → u.OneLine)
    (hskipped : s.tickets.skipped.length ≤ Config.maxSkipped → u.skipped.length ≤ Config.maxSkipped) :
    Updates L s { s with tickets := u } := .one (.tickets u hline hskipped)

theorem leaveCalling_updates (p : CounterPort) (s : State) : Updates L s (leaveCalling p s) := by
  unfold leaveCalling
  split
  · refine .trans (tickets_updates (u := { s.tickets with calling := s.tickets.calling.filter (· ≠ p) })
      (fun h => h.imp_right fun h => ?_) id) (setService_updates p .free _)
    simp [h]
  · exact .rfl

theorem toIdle_updates (p : CounterPort) (m : Option MsgCode) (s : State) : Updates L s (toIdle p m s) := by
  unfold toIdle
  split
  · exact (leaveCalling_updates p s).trans (setSale_updates p _ m _)
  · exact setSale_updates p _ m s

theorem forcedCancel_updates (m : MsgCode) (p : CounterPort) (s : State) : Updates L s (forcedCancel m p s) := by
  refine (countBoth_updates (d := { forcedCancels := 1 }) (g := { forcedCancels := 1 }) ⟨rfl, rfl⟩ ⟨rfl, rfl⟩
    p s).trans (.trans ?_ ((closeSnapshot_updates p _).trans (toIdle_updates p _ _)))
  split
  · next d h => exact waiting_updates h _
  · exact .rfl

/-! ### Tickets -/

/-- Ticket records alone. -/
theorem recs_updates (s : State) (v : Vector TicketRec 100) :
    Updates L s { s with tickets := { s.tickets with recs := v } } := .one (.tickets _ id id)

theorem setTicket_updates (k : TicketNo) (r : TicketRec) (s : State) : Updates L s (setTicket k r s) :=
  recs_updates s _

theorem freeTicket_updates (k : TicketNo) (s : State) : Updates L s (freeTicket k s) := recs_updates s _

theorem showCall_updates (k : TicketNo) (p : CounterPort) (n : Nat) (s : State) :
    Updates L s (showCall k p n s) :=
  ports_updates fun q => by
    simp only [Fin.getElem_fin, Vector.getElem_ofFn]
    split <;> rfl

theorem callTicket_updates (k : TicketNo) (p : CounterPort) (n : Nat) (cause : CallCause) (s : State) :
    Updates L s (callTicket k p n cause s) :=
  (((setTicket_updates k _ s).trans (setService_updates p _ _)).trans (showCall_updates k p n _)).trans
    (notify_updates _ _)

/-- A skip into a full list: its oldest is discarded (R138). -/
theorem skipTicket_full {k o : TicketNo} {p : CounterPort} {s : State} {rest : List TicketNo}
    (hlist : s.tickets.skipped = o :: rest) (hfull : Config.maxSkipped ≤ s.tickets.skipped.length) :
    skipTicket k p s = { setService p .free s with
      ret := countGrand { ticketsSkipped := 1 } (countGrand { ticketsDiscarded := 1 } s.ret)
      tickets := { s.tickets with
        skipped := rest ++ [k]
        recs := (s.tickets.recs.set o TicketRec.fresh).set k { s.ticket k with state := .skipped } } } := by
  rw [hlist] at hfull
  have hu : (setService p .free s).tickets.skipped = o :: rest := hlist
  unfold skipTicket
  dsimp only
  rw [hu]
  simp only [if_pos hfull]
  rfl

theorem skipTicket_updates (k : TicketNo) (p : CounterPort) (s : State) : Updates L s (skipTicket k p s) := by
  by_cases hroom : s.tickets.skipped.length < Config.maxSkipped
  · rw [skipTicket_room hroom]
    refine ((setService_updates p .free s).trans (countGrand_updates (d := { ticketsSkipped := 1 }) rfl rfl _)).trans
      (tickets_updates id fun _ => ?_)
    simpa using hroom
  · obtain ⟨o, rest, hlist⟩ := List.exists_cons_of_length_pos
      (Nat.lt_of_lt_of_le (by decide : 0 < Config.maxSkipped) (Nat.not_lt.mp hroom))
    rw [skipTicket_full hlist (Nat.not_lt.mp hroom)]
    refine (((setService_updates p .free s).trans
      (countGrand_updates (d := { ticketsDiscarded := 1 }) rfl rfl _)).trans
      (countGrand_updates (d := { ticketsSkipped := 1 }) rfl rfl _)).trans (tickets_updates id fun h => ?_)
    have h' : s.tickets.skipped.length ≤ Config.maxSkipped := h
    rw [hlist] at h'
    simpa using h'

/-- A called ticket comes back: called again, or at the head of a waiting queue that nobody asks of. -/
theorem returnTicket_updates (p : CounterPort) (s : State) : Updates L s (returnTicket p s) := by
  unfold returnTicket
  split
  · exact .rfl
  · next k _ =>
    split
    · next q rest hcalling =>
      refine .trans (tickets_updates (u := { s.tickets with calling := rest }) (fun h => .inl ?_) id)
        (callTicket_updates k q _ _ _)
      simpa [hcalling, TicketUnit.OneLine] using h
    · next hcalling =>
      exact .trans (tickets_updates (u := { s.tickets with waiting := k :: s.tickets.waiting })
        (fun _ => .inr hcalling) id) (setTicket_updates k _ _)

/-! ### Orders, log and printer -/

theorem orders_updates {s : State} {l : List Order} (h : l.length ≤ s.orders.length) :
    Updates L s { s with orders := l } := .one (.orders l h.trans)

theorem modOrder_updates (n : Nat) (f : Order → Order) (s : State) : Updates L s (modOrder n f s) :=
  orders_updates (by simp)

theorem freeOrder_updates (o : Order) (s : State) : Updates L s (freeOrder o s) :=
  (orders_updates (List.length_filter_le _ _)).trans (freeTicket_updates _ _)

theorem markLineVoided_updates (n serial : Nat) (keyed : Bool) (s : State) :
    Updates L s (markLineVoided n serial keyed s) := by
  obtain h | ⟨o, -, h⟩ := markLineVoided_cases n serial keyed s <;> rw [h]
  · exact .rfl
  · exact modOrder_updates _ _ _

theorem modLog_updates (n : Nat) (f : LogEntry → LogEntry) (s : State) : Updates L s (modLog n f s) :=
  .one (.log _ fun h => by simpa using h)

theorem feedPrinter_updates (p : CounterPort) (s : State) : Updates L s (feedPrinter p s) := by
  obtain h | ⟨k, rest, l, hpost, -, -, -, -, h⟩ := feedPrinter_cases p s <;> rw [h]
  · exact .rfl
  · refine setPort_slots_updates (fun hs => ⟨hs.partition, hs.filled, fun j hj => ?_⟩) id
    cases hj
    exact congrArg List.head? hpost

theorem voidUnprinted_updates (p : CounterPort) (s : State) (k : SlotNo) :
    Updates L s (voidUnprinted p s k) := by
  unfold voidUnprinted
  split
  · exact .rfl
  · next l _ =>
    split
    · exact .rfl
    · split
      · exact notify_updates _ _
      · refine ((modLog_updates l.serial (fun e => { e with state := .unprinted }) s).trans ?_).trans (notify_updates _ _)
        split
        · next sr _ _ =>
          refine ((moveSale_updates false sr _).trans (countBoth_updates (d := { unprintedVoids := 1 })
            (g := { unprintedVoids := 1, voidValue := sr.amounts.final }) ⟨rfl, rfl⟩ ⟨rfl, rfl⟩ p _)).trans ?_
          split
          · exact markLineVoided_updates _ _ _ _
          · exact .rfl
        · exact .rfl

theorem foldl_updates {α : Type} {f : State → α → State} (h : ∀ s a, Updates L s (f s a)) (l : List α)
    (s : State) : Updates L s (l.foldl f s) := by
  induction l generalizing s with
  | nil => exact .rfl
  | cons a l ih => exact (h s a).trans (ih _)

/-- Slots as the offline event leaves them: all free (R120). -/
def freedSlots (c : SlotCtx) : SlotCtx where
  labels := Vector.replicate 4 none
  free := c.free ++ c.post
  post := []
  outstanding := none

theorem freedSlots_sound {c : SlotCtx} (h : SlotsSound c) : SlotsSound (freedSlots c) := by
  refine ⟨fun k => ?_, fun k => ?_, fun k hk => ?_⟩
  · simpa [freedSlots] using h.partition k
  · simp [freedSlots]
  · cases hk

theorem modPort_slots_updates {f : Port → Port} (hsound : ∀ c, SlotsSound c.slots → SlotsSound (f c).slots)
    (hfree : ∀ c, c.slots.free ≠ [] → (f c).slots.free ≠ []) (p : CounterPort) (s : State) :
    Updates L s (modPort p f s) := setPort_slots_updates (hsound _) (hfree _)

theorem offlineSlots_updates (p : CounterPort) (s : State) : Updates L s (offlineSlots p s) :=
  (foldl_updates (voidUnprinted_updates p) _ s).trans
    (modPort_slots_updates (fun _ => freedSlots_sound) (fun c h => by simp [h]) p _)

/-! ### The composer -/

theorem joinComposer_updates {j : Job} {s : State} (h : hasJob s j.station = false) :
    Updates L s (joinComposer j s) := by
  obtain ⟨-, he⟩ | ⟨-, he⟩ := joinComposer_cases j s <;> rw [he]
  · exact (Updates.one (.join j h)).trans (holdMessage_updates _ _ _)
  · exact .one (.join j h)

theorem offlineComposer_updates (p : CounterPort) (s : State) : Updates L s (offlineComposer p s) := by
  refine .one (.lessen _ List.filter_sublist ?_)
  cases hc : s.composer.current with
  | none => simp [Composer.posting, hc]
  | some c => by_cases hp : c.job.station = p <;> simp [Composer.posting, hc, hp]

theorem freeComposer_updates (s : State) : Updates L s (freeComposer s) :=
  .one (.lessen _ (.refl _) (.inl rfl))

/-! ### The station offline event -/

theorem offlineContext_updates (p : CounterPort) (s : State) : Updates L s (offlineContext p s) :=
  modPort_updates (fun _ => by rfl) p s

theorem offlineLink_updates (p : CounterPort) (s : State) : Updates L s (offlineLink p s) :=
  modPort_updates (fun _ => by rfl) p s

theorem offlineOrder_updates (p : CounterPort) (s : State) : Updates L s (offlineOrder p s) :=
  orders_updates (by simp)

theorem offlineScale_updates (p : CounterPort) (s : State) : Updates L s (offlineScale p s) := by
  have hfree : ∀ c : Bool, Updates L s (if c then { s with free := s.free + 1 } else s) := by
    intro c; cases c
    · exact .rfl
    · exact .one (.free _)
  have hcount : ∀ (c : Bool) (u : State), Updates L u
      (if c then countBoth p { offlineCancels := 1 } { offlineCancels := 1 } u else u) := by
    intro c u; cases c
    · exact .rfl
    · exact countBoth_updates (d := { offlineCancels := 1 }) (g := { offlineCancels := 1 }) ⟨rfl, rfl⟩
        ⟨rfl, rfl⟩ p u
  have hclose : ∀ (c : Bool) (u : State), Updates L u (if c then closeSnapshot p u else u) := by
    intro c u; cases c
    · exact .rfl
    · exact closeSnapshot_updates p u
  unfold offlineScale
  exact (hfree _).trans <| (hcount _ _).trans <| (hclose _ _).trans <| (offlineSlots_updates p _).trans <|
    (leaveCalling_updates p _).trans <| (returnTicket_updates p _).trans <| (offlineOrder_updates p _).trans <|
    (offlineComposer_updates p _).trans <| (closeSnapshot_updates p _).trans (offlineContext_updates p _)

theorem goOffline_updates (p : CounterPort) (cause : StationCause) (s : State) :
    Updates L s (goOffline p cause s) := by
  refine ((offlineLink_updates p s).trans ?_).trans (notify_updates _ _)
  split
  · exact offlineScale_updates p _
  · exact .rfl

/-! ### The day close -/

theorem endOrderByDay_updates (s : State) (o : Order) : Updates L s (endOrderByDay s o) := by
  have hcount : Updates L s (modRet (countGrand { ordersClosedByDay := 1 }) s) :=
    countGrand_updates rfl rfl s
  unfold endOrderByDay
  dsimp only
  split
  · exact ((hcount.trans (notify_updates _ _)).trans (freeOrder_updates o _)).trans (setService_updates _ _ _)
  · exact (hcount.trans (notify_updates _ _)).trans (freeOrder_updates o _)

theorem endLiveOrders_updates (s : State) : Updates L s (endLiveOrders s) :=
  (Updates.one (.free _)).trans (foldl_updates endOrderByDay_updates _ _)

theorem endServiceLine_updates (s : State) : Updates L s (endServiceLine s) := by
  refine .trans (countGrand_updates (d := { ticketsDiscarded :=
    (s.tickets.recs.toList.filter fun r => discardable r.state).length }) rfl rfl s) <|
    .trans (ports_updates (v := (endServiceLine s).ports) fun p => ?_) <|
    tickets_updates (u := (endServiceLine s).tickets) (fun _ => .inl rfl) fun _ => Nat.zero_le _
  simp only [endServiceLine, Fin.getElem_fin, Vector.getElem_ofFn]
  split <;> rfl

theorem TotalsBalanced.empty : TotalsBalanced Totals.empty := fun _ => by decide

theorem openNewDay_updates (r : DayRecord) (s : State) : Updates L s (openNewDay r s) := by
  have hstore : StoreUpdate L s.ret { s.ret with
      items := (s.ret.items.filter fun x => x.status = .live).map fun x => { x with totals := {} }
      totals := Totals.empty
      day := { number := (s.ret.day.number + 1) % 65536, opened := some s.clock.stamp, nextSerial := 1,
               nextOrder := 1, totalsLost := false, record := some r } } := by
    refine ⟨.inl (by constructor <;> rfl), fun _ => .empty, ?_⟩
    simp only [List.map_map]
    exact List.filter_sublist.map _
  exact .trans (.one (.store _ hstore)) <| .trans (.one (.log [] fun _ => Nat.zero_le _)) <|
    .trans (.one (.day .trading (.inl rfl))) <| (notify_updates _ _).trans (markAllDisplays_updates _)

theorem completeDayClose_updates (s : State) : Updates L s (completeDayClose s) :=
  ((endLiveOrders_updates s).trans (endServiceLine_updates _)).trans (openNewDay_updates _ _)

theorem dayTest_updates (s : State) : Updates L s (dayTest s) := by
  obtain ⟨-, h⟩ | ⟨-, h⟩ := dayTest_cases s <;> rw [h]
  · exact completeDayClose_updates s
  · exact .rfl

/-! ### Frames and keys -/

theorem handOn_updates {f : State → State} (h : ∀ s, Updates L s (f s)) (p : CounterPort)
    (accepts : Option DeviceKind → Bool) (s : State) : Updates L s (handOn p accepts f s) := by
  obtain ⟨-, he⟩ | ⟨-, he⟩ | ⟨-, -, he⟩ | ⟨-, -, -, he⟩ := handOn_cases p accepts f s <;> rw [he]
  · exact setPort_updates rfl
  · exact protocolError_updates p s
  · exact .rfl
  · exact (reloadSupervision_updates p s).trans (h _)

theorem keyEvent_updates {own : State → State} (h : ∀ s, Updates L s (own s)) (p : CounterPort)
    (gate : Port → Option MsgCode) (s : State) : Updates L s (keyEvent p gate own s) := by
  refine (handOn_updates (fun u => ?_) p _ s).trans (flush_updates _)
  refine .trans ?_ (markDisplay_updates p _)
  split
  · exact refuseKey_updates p _ u
  · exact h u

theorem idleOnly_updates {own : State → State} (h : ∀ s, Updates L s (own s)) (p : CounterPort) (s : State) :
    Updates L s (idleOnly p own s) := by
  unfold idleOnly
  split
  · exact refuseKey_updates p _ s
  · exact h s

/-! ### Requests -/

/-- A reply joins a queue with room. -/
theorem reply_updates {s : State} (h : s.uplink.replies.length < Config.maxReplies) (tag : Nat)
    (code : ResultCode) (data : ReplyData) : Updates L s (reply tag code data s) :=
  .one (.uplink _ fun _ => by simpa using h)

theorem badFrame_updates {s : State} (h : s.uplink.replies.length < Config.maxReplies) (tag : Nat) :
    Updates L s (badFrame tag s) := by
  refine .trans (.one (.uplink { s.uplink with errors := s.uplink.errors.addProtocol } id)) ?_
  exact reply_updates (by exact h) tag _ _

/-- A frame on the uplink, whose rule is given a reply queue with room. -/
theorem arrive_updates {own : State → State}
    (h : ∀ s : State, s.uplink.replies.length < Config.maxReplies → Updates L s (own s)) (i : Instr)
    (s : State) : Updates L s (arrive i own s) := by
  unfold arrive
  split
  · exact .rfl
  · split
    · next hroom =>
      exact (Updates.one (.uplink { s.uplink with up := true } id)).trans
        ((h { s with uplink := { s.uplink with up := true } } hroom).trans (flush_updates _))
    · split
      · exact .one (.uplink _ id)
      · exact .one (.uplink _ id)

end

end Sys2Proof.Machine
end

section
/-! PROOFS. Every command as a chain of elementary updates. -/

namespace Sys2Proof.Machine

section
variable {L : Retained → Retained → Prop}

/-- A store whose DAY area alone is written. -/
theorem StoreUpdate.day_only {r : Retained} {d : DayArea} : StoreUpdate L r { r with day := d } :=
  ⟨.inl (by constructor <;> rfl), id, .refl _⟩

/-! ### Weighing (chapter 2) -/

theorem sampleOp_updates (p : CounterPort) (l : List Int) (s : State) : Updates L s (sampleOp p l s) :=
  handResult_updates p _ _ s

theorem zeroOp_updates (p : CounterPort) (s : State) : Updates L s (zeroOp p s) := by
  unfold zeroOp
  split
  · exact refuseKey_updates p _ s
  · exact (handResult_updates p _ _ s).trans (clearHeld_updates p _)

theorem tareOutcome_updates (p : CounterPort) (r : Except MsgCode Tare) (s : State) :
    Updates L s (tareOutcome p r s) := by
  unfold tareOutcome
  split
  · exact refuseKey_updates p _ s
  · exact (applyTare_updates p _ s).trans (clearHeld_updates p _)

/-! ### The sale (chapter 3) -/

theorem openSnapshot_updates (p : CounterPort) (r : ItemRecord) (s : State) :
    Updates L s (openSnapshot p r s) := by
  unfold openSnapshot
  dsimp only
  refine .trans ?_ (modPort_updates (fun _ => by rfl) p _)
  refine .trans (.trans ?_ (offerPreset_updates p r.item.presetTare _)) (reprice_updates p _)
  exact modPort_updates (fun _ => by rfl) p s

theorem pluOp_updates (p : CounterPort) (n : Nat) (s : State) : Updates L s (pluOp p n s) := by
  unfold pluOp
  split
  · exact refuseKey_updates p _ s
  · exact (closeSnapshotFor_updates [n] p s).trans (openSnapshot_updates p _ _)

theorem qtyOp_updates (p : CounterPort) (q : Nat) (s : State) : Updates L s (qtyOp p q s) := by
  unfold qtyOp
  split
  · exact refuseKey_updates p _ s
  · exact ((modPort_updates (fun _ => by rfl) p s).trans (reprice_updates p _)).trans (clearHeld_updates p _)

/-- What an accepted PRINT has checked of the composer. -/
theorem printRefusal_hasJob {s : State} {p : CounterPort} {sn : Snapshot} {n : Nat}
    (h : printRefusal s p sn n = none) : hasJob s p = false := by
  by_contra hjob
  rw [printRefusal, if_pos (Bool.eq_true_of_not_eq_false hjob)] at h
  split at h <;> cases h

/-- An accepted PRINT froze the sale record of the station's snapshot. -/
theorem printSale_ok {s : State} {p : CounterPort} {sr : SaleRecord} (h : printSale s p = .ok sr) :
    ∃ sn q a, snapshotInItem (s.port p) = some sn ∧ printQuantity (s.port p) sn = .ok q ∧
      printAmounts (s.port p) sn = .ok a ∧ printRefusal s p sn a.final = none ∧
      sr = saleRecord s p sn q a := by
  unfold printSale at h
  split at h
  · cases h
  · next sn hsn =>
    split at h
    · cases h
    · next q hq =>
      split at h
      · cases h
      · next a ha =>
        split at h
        · cases h
        · next hr => cases h; exact ⟨sn, q, a, hsn, hq, ha, hr, rfl⟩

theorem printOp_updates (p : CounterPort) (s : State) : Updates L s (printOp p s) := by
  unfold printOp
  split
  · exact refuseKey_updates p _ s
  · next r h =>
    obtain ⟨_, _, _, -, -, -, hr, -⟩ := printSale_ok h
    have hjob : hasJob s p = false := printRefusal_hasJob hr
    refine .trans ?_ (joinComposer_updates (by exact hjob))
    exact modPort_updates (fun _ => by rfl) p s

theorem cancelOp_updates (p : CounterPort) (s : State) : Updates L s (cancelOp p s) := by
  unfold cancelOp
  split
  · exact ((closeSnapshot_updates p s).trans (toIdle_updates p none _)).trans (dayTest_updates _)
  · exact clearHeld_updates p s

/-! ### Labels after their issue (chapter 6) -/

theorem withdrawAt_free {c : SlotCtx} (serial day : Nat) (h : c.free ≠ []) :
    (withdrawAt serial day c).free ≠ [] := by
  unfold withdrawAt
  generalize c.post.filter _ = l
  induction l generalizing c with
  | nil => exact h
  | cons k l ih => exact ih (by simp [SlotCtx.release])

/-- Releasing slots that are posted and not outstanding, each once, keeps the lists sound. -/
theorem release_all_sound {c : SlotCtx} (h : SlotsSound c) {l : List SlotNo} (hnodup : l.Nodup)
    (hposted : ∀ k ∈ l, k ∈ c.post) (hout : ∀ k ∈ l, c.outstanding ≠ some k) :
    SlotsSound (l.foldl (fun acc k => acc.release k) c) := by
  induction l generalizing c with
  | nil => exact h
  | cons k l ih =>
    obtain ⟨hk, hl⟩ := List.nodup_cons.mp hnodup
    refine ih (SlotCtx.release_sound h (hposted k (by simp)) (hout k (by simp))) hl (fun j hj => ?_)
      fun j hj => hout j (by simp [hj])
    have hne : j ≠ k := fun e => hk (e ▸ hj)
    simpa [SlotCtx.release, hne] using hposted j (by simp [hj])

theorem SlotsSound.post_nodup {c : SlotCtx} (h : SlotsSound c) : c.post.Nodup :=
  List.nodup_iff_count_le_one.mpr fun k => by have := h.partition k; omega

theorem withdrawAt_sound {c : SlotCtx} (serial day : Nat) (h : SlotsSound c) :
    SlotsSound (withdrawAt serial day c) := by
  refine release_all_sound h (h.post_nodup.filter _) (fun k hk => (List.mem_filter.mp hk).1) fun k hk => ?_
  have hw := (List.mem_filter.mp hk).2
  simp only [withdrawable, Bool.and_eq_true, decide_eq_true_eq] at hw
  exact hw.1

theorem withdrawReprints_updates (serial : Nat) (s : State) : Updates L s (withdrawReprints serial s) := by
  refine .one (.ports _ (fun p h => ?_) fun p h => ?_) <;> simp only [Fin.getElem_fin, Vector.getElem_map]
  · exact withdrawAt_sound _ _ h
  · exact withdrawAt_free _ _ h

theorem countVoid_updates (p : CounterPort) (op : Option OperatorNo) (n : Nat) (s : State) :
    Updates L s (countVoid p op n s) :=
  (countOperator_updates op _ s).trans (countBoth_updates (d := { voids := 1 })
    (g := { voids := 1, voidValue := n }) ⟨rfl, rfl⟩ ⟨rfl, rfl⟩ p _)

theorem acceptVoid_updates (p : CounterPort) (e : LogEntry) (sr : SaleRecord) (s : State) :
    Updates L s (acceptVoid p e sr s) := by
  have hcount := ((modLog_updates (L := L) e.serial (fun x => { x with state := .voided }) s).trans
    (moveSale_updates false sr _)).trans (countVoid_updates p (s.port p).operator sr.amounts.final _)
  unfold acceptVoid
  dsimp only
  refine .trans ?_ (((withdrawReprints_updates e.serial _).trans (notify_updates _ _)).trans
    (clearHeld_updates p _))
  split
  · exact hcount.trans (markLineVoided_updates _ _ _ _)
  · exact hcount

theorem voidOp_updates (p : CounterPort) (serial : Nat) (s : State) : Updates L s (voidOp p serial s) := by
  unfold voidOp
  split
  · exact refuseKey_updates p _ s
  · exact acceptVoid_updates p _ _ s

theorem reprintRefusal_hasJob {s : State} {p : CounterPort} {serial : Nat}
    (h : reprintRefusal s p serial = none) : hasJob s p = false := by
  unfold reprintRefusal at h
  repeat' split at h
  all_goals simp_all

theorem reprintOp_updates (p : CounterPort) (serial : Nat) (s : State) :
    Updates L s (reprintOp p serial s) := by
  unfold reprintOp
  split
  · exact refuseKey_updates p _ s
  · next h =>
    exact (clearHeld_updates p s).trans (joinComposer_updates (by exact reprintRefusal_hasJob h))

/-- The completion of the outstanding slot releases it; nothing is outstanding after. -/
theorem released_sound {c : SlotCtx} {k : SlotNo} (h : SlotsSound c) (hk : c.outstanding = some k) :
    SlotsSound { c.release k with outstanding := none } := by
  have hpost : k ∈ c.post := List.mem_of_mem_head? (h.outstanding k hk)
  have hnone : SlotsSound { c with outstanding := none } := ⟨h.partition, h.filled, fun _ hj => by cases hj⟩
  exact SlotCtx.release_sound hnone hpost (by simp)

theorem printDoneOp_updates (p : CounterPort) (n : Nat) (o : PrintOutcome) (s : State) :
    Updates L s (printDoneOp p n o s) := by
  have hfailed : Updates L s (labelFailed p s) :=
    modPort_slots_updates (f := fun c => { c with
        printer := .fault, slots := { c.slots with outstanding := none } })
      (fun _ h => ⟨h.partition, h.filled, fun _ hj => by cases hj⟩) (fun _ => id) p s
  unfold printDoneOp
  split
  · exact protocolError_updates p s
  · next k hk =>
    split
    · cases o with
      | paperOut | jam => exact hfailed
      | ok =>
        have hlabel : Updates L s (withLabel p k markPrinted s) := by
          unfold withLabel
          split
          · exact .rfl
          · unfold markPrinted
            split
            · exact .rfl
            · exact modLog_updates _ _ s
        have hport : (withLabel p k markPrinted s).port p = s.port p := by
          unfold withLabel
          split
          · rfl
          · unfold markPrinted
            split <;> rfl
        refine ((hlabel.trans ?_).trans (countStation_updates (d := { labelsPrinted := 1 }) rfl rfl p _)).trans
          (feedPrinter_updates p _)
        refine setPort_slots_updates (fun h => ?_) fun h => ?_
        · rw [hport] at h ⊢
          exact released_sound h hk
        · simp [SlotCtx.release]
    · exact protocolError_updates p s

/-! ### The service line (chapter 7) -/

theorem serviceKey_updates {own : State → State} (h : ∀ s, Updates L s (own s)) (p : CounterPort)
    (refusal : Option MsgCode) (s : State) : Updates L s (serviceKey p refusal own s) := by
  unfold serviceKey
  split
  · exact refuseKey_updates p _ s
  · exact h s

theorem withCalled_updates {f : TicketNo → State → State} (h : ∀ k s, Updates L s (f k s)) (p : CounterPort)
    (s : State) : Updates L s (withCalled p f s) := by
  unfold withCalled
  split
  · exact refuseKey_updates p _ s
  · exact h _ s

theorem askNext_updates (p : CounterPort) (s : State) : Updates L s (askNext p s) := by
  unfold askNext
  split
  · next k rest hw =>
    refine .trans (tickets_updates (u := { s.tickets with waiting := rest }) (fun h => .inr ?_) id)
      (callTicket_updates k p _ _ _)
    simpa [hw, TicketUnit.OneLine] using h
  · next hw =>
    exact .trans (tickets_updates (u := { s.tickets with calling := s.tickets.calling ++ [p] })
      (fun _ => .inl hw) id) (setService_updates p _ _)

theorem nextOp_updates (p : CounterPort) (s : State) : Updates L s (nextOp p s) :=
  serviceKey_updates (fun s => (clearHeld_updates p s).trans (askNext_updates p _)) p _ s

theorem insertOrder_length (o : Order) (l : List Order) : (insertOrder o l).length = l.length + 1 := by
  induction l with
  | nil => rfl
  | cons x xs ih =>
    rw [insertOrder]
    split
    · rfl
    · simp [ih]

theorem serveTicket_updates (p : CounterPort) (k : TicketNo) (s : State) :
    Updates L s (serveTicket p k s) := by
  unfold serveTicket
  split
  · exact refuseKey_updates p _ s
  · next hroom =>
    have hbegin : Updates L s (beginService k (clearHeld p s)) :=
      ((clearHeld_updates p s).trans (setTicket_updates k _ _)).trans
        (countGrand_updates (d := { ticketsServed := 1, waitSeconds := _, largestWait := _ }) rfl rfl _)
    refine hbegin.trans ?_
    refine .trans (.one (.orders _ fun _ => ?_)) ((modRet_updates .day_only).trans (setService_updates p _ _))
    have hsame : (beginService k (clearHeld p s)).orders = s.orders := rfl
    rw [insertOrder_length, hsame]
    omega

theorem serveOp_updates (p : CounterPort) (s : State) : Updates L s (serveOp p s) :=
  serviceKey_updates (withCalled_updates (serveTicket_updates p) p) p _ s

theorem recallTicket_updates (p : CounterPort) (k : TicketNo) (s : State) :
    Updates L s (recallTicket p k s) := by
  unfold recallTicket
  split
  · exact refuseKey_updates p _ s
  · exact (clearHeld_updates p s).trans (callTicket_updates k p _ _ _)

theorem recallOp_updates (p : CounterPort) (s : State) : Updates L s (recallOp p s) :=
  serviceKey_updates (withCalled_updates (recallTicket_updates p) p) p _ s

theorem skipOp_updates (p : CounterPort) (s : State) : Updates L s (skipOp p s) :=
  serviceKey_updates (withCalled_updates
    (fun k s => (clearHeld_updates p s).trans (skipTicket_updates k p _)) p) p _ s

theorem recallSkipped_updates (p : CounterPort) (n : Nat) (s : State) :
    Updates L s (recallSkipped p n s) := by
  unfold recallSkipped
  split
  · exact refuseKey_updates p _ s
  · next k _ =>
    split
    · exact .trans (tickets_updates (u := { s.tickets with skipped := s.tickets.skipped.filter (· ≠ k) }) id
        (List.length_filter_le _ _).trans) ((clearHeld_updates p _).trans (callTicket_updates k p _ _ _))
    · exact refuseKey_updates p _ s

theorem recallSkippedOp_updates (p : CounterPort) (n : Nat) (s : State) :
    Updates L s (recallSkippedOp p n s) := serviceKey_updates (recallSkipped_updates p n) p _ s

theorem cancelNextOp_updates (p : CounterPort) (s : State) : Updates L s (cancelNextOp p s) := by
  unfold cancelNextOp
  split
  · exact (clearHeld_updates p s).trans (leaveCalling_updates p _)
  · exact refuseKey_updates p _ s

theorem placeTicket_updates (k : TicketNo) (s : State) : Updates L s (placeTicket k s) := by
  unfold placeTicket
  split
  · next q rest hcalling =>
    refine .trans (tickets_updates (u := { s.tickets with calling := rest }) (fun h => .inl ?_) id)
      (callTicket_updates k q _ _ _)
    simpa [hcalling, TicketUnit.OneLine] using h
  · next hcalling => exact tickets_updates (fun _ => .inr hcalling) id

theorem issueTicket_updates (p : CounterPort) (s : State) : Updates L s (issueTicket p s) := by
  unfold issueTicket
  dsimp only
  refine .trans ?_ (placeTicket_updates _ _)
  refine .trans (.trans ?_ (countGrand_updates (d := { ticketsIssued := 1 }) rfl rfl _)) (deliver_updates p _ _)
  exact (setTicket_updates s.tickets.next { state := .waiting, count := 0, age := 0 } s).trans
    (tickets_updates id id)

theorem takeRequestOp_updates (p : CounterPort) (s : State) : Updates L s (takeRequestOp p s) := by
  unfold takeRequestOp
  split
  · exact deliver_updates p _ s
  · split
    · exact deliver_updates p _ s
    · exact issueTicket_updates p s

/-! ### Orders (chapter 8) -/

theorem withOpenOrder_updates {f : Order → State → State} (h : ∀ o s, Updates L s (f o s)) (p : CounterPort)
    (s : State) : Updates L s (withOpenOrder p f s) := by
  unfold withOpenOrder
  split
  · split
    · exact refuseKey_updates p _ s
    · exact h _ s
  · exact refuseKey_updates p _ s

theorem parkOrder_updates (p : CounterPort) (o : Order) (s : State) : Updates L s (parkOrder p o s) :=
  ((clearHeld_updates p s).trans (modOrder_updates _ _ _)).trans (setService_updates p _ _)

theorem pickupOp_updates (p : CounterPort) (n : Nat) (s : State) : Updates L s (pickupOp p n s) := by
  refine serviceKey_updates (fun s => ?_) p _ s
  unfold pickupOrder
  split
  · exact refuseKey_updates p _ s
  · exact ((clearHeld_updates p s).trans (modOrder_updates _ _ _)).trans (setService_updates p _ _)

theorem closeOrder_updates (p : CounterPort) (o : Order) (s : State) : Updates L s (closeOrder p o s) := by
  unfold closeOrder
  split
  · exact refuseKey_updates p _ s
  · next hjob =>
    split
    · exact (clearHeld_updates p s).trans <| (freeOrder_updates o _).trans <|
        (setService_updates p _ _).trans (notify_updates _ _)
    · split
      · exact refuseKey_updates p _ s
      · exact (modOrder_updates _ _ s).trans <| (setSale_updates p _ _ _).trans <|
          joinComposer_updates (by exact Bool.eq_false_of_not_eq_true hjob)

theorem abandonOrder_updates (o : Order) (s : State) : Updates L s (abandonOrder o s) :=
  (freeOrder_updates o s).trans <| (countGrand_updates (d := { ordersAbandoned := 1 }) rfl rfl _).trans
    (notify_updates _ _)

/-! ### The composer (chapter 5) -/

theorem refuseItem_updates (p : CounterPort) (m : MsgCode) (s : State) : Updates L s (refuseItem p m s) := by
  have h := ((modPort_updates (L := L) (f := fun c => { c with record := none }) (fun _ => by rfl) p s).trans
    (setSale_updates p .item (some m) _)).trans (reprice_updates p _)
  unfold refuseItem
  dsimp only
  split
  · exact h.trans (forcedCancel_updates _ p _)
  · exact h

theorem refuseSummary_updates (p : CounterPort) (n : Nat) (m : MsgCode) (s : State) :
    Updates L s (refuseSummary p n m s) := (modOrder_updates n _ s).trans (toIdle_updates p _ _)

theorem reportRefusal_updates (j : Job) (m : MsgCode) (s : State) : Updates L s (reportRefusal j m s) := by
  unfold reportRefusal
  split
  · exact refuseItem_updates _ m s
  · exact holdMessage_updates _ m s
  · exact refuseSummary_updates _ _ m s

/-- The job that is taken stands on the queue and its station has a free slot. -/
theorem takeChoice_some {s : State} {j : Job} {n : Nat} (h : takeChoice s = some (j, n)) :
    j ∈ s.composer.queue ∧ eligible s j = true := by
  have hfind : ∀ f : Job → Bool, s.composer.queue.find? (fun k => eligible s k && f k) = some j →
      j ∈ s.composer.queue ∧ eligible s j = true := by
    intro f hf
    have htrue := List.find?_some hf
    exact ⟨List.mem_of_find?_eq_some hf, (Bool.and_eq_true _ _ ▸ htrue).1⟩
  unfold takeChoice at h
  dsimp only at h
  split at h
  · cases h
  · next hs _ => cases h; exact hfind _ hs
  · next _ ho => cases h; exact hfind _ ho
  · next hs ho =>
    split at h <;> cases h
    · exact hfind _ hs
    · exact hfind _ ho

theorem clearPrinterBusy_updates (p : CounterPort) (s : State) : Updates L s (clearPrinterBusy p s) := by
  unfold clearPrinterBusy
  split
  · exact clearHeld_updates p s
  · exact .rfl

theorem clearPrinterBusy_cases (p : CounterPort) (s : State) :
    clearPrinterBusy p s = s ∨ clearPrinterBusy p s = clearHeld p s := by
  unfold clearPrinterBusy
  split
  · exact .inr rfl
  · exact .inl rfl

theorem startComposition_updates {j : Job} {s : State} (hnone : s.composer.current = none)
    (hfree : (s.port j.station).slots.free ≠ []) (hother : ∀ k ∈ s.composer.queue, k.station ≠ j.station) :
    Updates L s (startComposition j s) := by
  unfold startComposition
  split
  · exact .one (.take _ { job := j, .. } _ (.refl _) hnone hfree hother)
  · exact (Updates.one (.free _)).trans ((reportRefusal_updates j _ _).trans (dayTest_updates _))

theorem takeDecision_updates (s : State) : Updates L s (takeDecision s) := by
  unfold takeDecision
  split
  · next j n hnone hchoice =>
    obtain ⟨-, he⟩ := takeChoice_some hchoice
    have hfree : (s.port j.station).slots.free ≠ [] := by simpa [eligible] using he
    refine .trans (.one (.lessen { s.composer with
      queue := s.composer.queue.filter fun k => k.station ≠ j.station, serviceCount := n }
      List.filter_sublist (.inr rfl))) ((clearPrinterBusy_updates j.station _).trans ?_)
    have hother : ∀ k ∈ s.composer.queue.filter fun k => k.station ≠ j.station, k.station ≠ j.station :=
      fun k hk => by simpa using (List.mem_filter.mp hk).2
    obtain h | h := clearPrinterBusy_cases j.station { s with composer := { s.composer with
      queue := s.composer.queue.filter fun k => k.station ≠ j.station, serviceCount := n } } <;> rw [h]
    · exact startComposition_updates hnone hfree hother
    · refine startComposition_updates hnone ?_ hother
      rw [clearHeld, modPort_port_self]
      exact hfree
  · exact .rfl

theorem pushLog_updates (e : LogEntry) (s : State) : Updates L s (pushLog e s) :=
  .one (.log _ fun _ => by simp only [List.length_drop]; omega)

theorem takeSerial_updates (s : State) : Updates L s (takeSerial s) := modRet_updates .day_only

theorem issueItem_updates (p : CounterPort) (sr : SaleRecord) (s : State) :
    Updates L s (issueItem p sr s) := by
  have hstale : ∀ u, Updates L u (countStale sr u) := by
    intro u
    unfold countStale
    split
    · exact countGrand_updates (d := { staleSales := 1 }) rfl rfl u
    · exact .rfl
  have hcount := ((takeSerial_updates (L := L) s).trans (pushLog_updates
    { serial := s.ret.day.nextSerial, sale := some sr, state := .posted, reprints := 0, station := p,
      order := sr.order.map (·.1), day := s.ret.day.number } _)).trans
    ((moveSale_updates true sr _).trans (hstale _))
  unfold issueItem
  dsimp only
  refine .trans ?_ ((notify_updates _ _).trans <| (closeSnapshot_updates p _).trans <|
    (modPort_updates (fun _ => by rfl) p _).trans (toIdle_updates p none _))
  split
  · exact hcount.trans (modOrder_updates _ _ _)
  · exact hcount

theorem issueSummary_updates (p : CounterPort) (o : Order) (s : State) :
    Updates L s (issueSummary p o s) :=
  (takeSerial_updates s).trans <| (pushLog_updates _ _).trans <| (notify_updates _ _).trans <|
    (countGrand_updates (d := { ordersClosed := 1 }) rfl rfl _).trans <| (notify_updates _ _).trans <|
    (freeOrder_updates o _).trans <| (setService_updates p _ _).trans (toIdle_updates p none _)

theorem postReprint_updates (p : CounterPort) (n : Nat) (s : State) : Updates L s (postReprint p n s) := by
  unfold postReprint
  refine ((modLog_updates n (fun e => { e with reprints := e.reprints + 1 }) s).trans
    (countBoth_updates (d := { reprints := 1 }) (g := { reprints := 1 }) ⟨rfl, rfl⟩ ⟨rfl, rfl⟩ p _)).trans ?_
  split
  · exact clearHeld_updates p _
  · exact .rfl

/-- A label posted with nothing in composition. -/
theorem postOutcome_updates {p : CounterPort} {l : SlotLabel} {after : State → State}
    (hafter : ∀ s, Updates L s (after s)) {s t : State} (hnone : s.composer.current = none)
    (h : postOutcome p l after s = .ok t) : Updates L s t := by
  unfold postOutcome at h
  split at h
  · cases h
  · next k rest hfree =>
    cases h
    exact (Updates.one (.post p k rest l hfree hnone)).trans ((hafter _).trans (feedPrinter_updates p _))

theorem completeJob_updates {c : Composition} {s t : State} (hnone : s.composer.current = none)
    (h : completeJob c s = .ok t) : Updates L s t := by
  unfold completeJob at h
  dsimp only at h
  split at h
  · split at h
    · cases h; exact refuseItem_updates _ _ s
    · exact postOutcome_updates (issueItem_updates _ _) hnone h
  · split at h
    · cases h; exact holdMessage_updates _ _ s
    · split at h
      · cases h; exact holdMessage_updates _ _ s
      · exact postOutcome_updates (postReprint_updates _ _) hnone h
  · split at h
    · cases h
    · split at h
      · cases h; exact refuseSummary_updates _ _ _ s
      · exact postOutcome_updates (issueSummary_updates _ _) hnone h

/-! ### Commits and the day (chapters 4 and 9) -/

theorem activationTest_updates (s : State) : Updates L s (activationTest s) := by
  unfold activationTest
  split
  · next hdue =>
    have hflight : s.commit ≠ .editing := fun h => by simp [activationDue, h] at hdue
    unfold activateCommit
    split
    · next hfits => exact enterWaiting_updates (.inl hflight) ((tableFits_iff s).mp hfits)
    · exact (Updates.one (.commit .editing (.inl rfl) (by simp))).trans (notify_updates _ _)
  · exact .rfl

theorem completeIfDrained_updates (s : State) : Updates L s (completeIfDrained s) := by
  unfold completeIfDrained
  split
  · split
    · exact completeCommit_updates [] s
    · exact .rfl
  · exact .rfl

theorem commitDrainExpired_updates (s : State) : Updates L s (commitDrainExpired s) := by
  unfold commitDrainExpired
  split
  · next d h =>
    exact (waiting_updates h _).trans
      ((foldl_updates (fun u p => forcedCancel_updates _ p u) _ _).trans (completeIfDrained_updates _))
  · exact .rfl

/-- The drain of a CLOSING day expires. -/
theorem closeDrainExpired_updates {s : State} (h : s.dayState ≠ .trading) :
    Updates L s (closeDrainExpired s) :=
  (Updates.one (.day (.closing 0 true) (.inr (.inr h)))).trans
    ((foldl_updates (fun u p => forcedCancel_updates _ p u) _ _).trans (dayTest_updates _))

theorem DayState.lastSecond_closing {d : DayState} (h : d.lastSecond = true) : d ≠ .trading := by
  rintro rfl; cases h

/-! ### Stations (chapter 1) -/

theorem portDown_updates (p : CounterPort) (s : State) : Updates L s (portDown p s) :=
  modPort_updates (fun _ => by rfl) p s

theorem SlotCtx.fresh_sound : SlotsSound SlotCtx.fresh := by
  refine ⟨by decide, fun k => ?_, fun k hk => by cases hk⟩
  simp [SlotCtx.fresh]

theorem restarted_slots (s : State) (p : CounterPort) (k : DeviceKind) (sw : Switch) (pr : PrinterCondition) :
    (restarted s p k sw pr).slots = SlotCtx.fresh := by cases k <;> rfl

theorem attach_updates (p : CounterPort) (k : DeviceKind) (sw : Switch) (pr : PrinterCondition) (s : State) :
    Updates L s (attach p k sw pr s) := by
  unfold attach
  split
  · refine .trans (setPort_slots_updates (fun _ => ?_) fun _ => ?_) (notify_updates _ _) <;>
      rw [restarted_slots]
    · exact SlotCtx.fresh_sound
    · decide
  · exact (modPort_updates (fun _ => by rfl) p s).trans (notify_updates _ _)

theorem helloOp_updates (p : CounterPort) (k : DeviceKind) (sw : Switch) (pr : PrinterCondition) (s : State) :
    Updates L s (helloOp p k sw pr s) := by
  unfold helloOp
  split
  · exact modPort_updates (fun _ => by rfl) p s
  · exact attach_updates p k sw pr s
  · split
    · exact (goOffline_updates p _ s).trans ((dayTest_updates _).trans (attach_updates p k sw pr _))
    · exact attach_updates p k sw pr s

theorem switchReport_updates (p : CounterPort) (sw : Switch) (s : State) : Updates L s (switchReport p sw s) := by
  have hsw : Updates L s (modPort p (fun c => { c with calSwitch := sw }) s) :=
    modPort_updates (fun _ => by rfl) p s
  unfold switchReport
  dsimp only
  split
  · exact .rfl
  · split
    · exact hsw.trans ((leaveCalling_updates p _).trans (setSale_updates p _ _ _))
    · exact hsw.trans ((leaveCalling_updates p _).trans (setSale_updates p _ _ _))
    · exact hsw.trans (setSale_updates p _ _ _)
    · exact hsw

theorem printerReport_updates (p : CounterPort) (pr : PrinterCondition) (s : State) :
    Updates L s (printerReport p pr s) := by
  unfold printerReport
  split
  · exact (modPort_updates (fun _ => by rfl) p s).trans (feedPrinter_updates p _)
  · exact .rfl
  · exact modPort_updates (fun _ => by rfl) p s

theorem statusOp_updates (p : CounterPort) (sw : Switch) (pr : PrinterCondition) (s : State) :
    Updates L s (statusOp p sw pr s) := by
  unfold statusOp
  split
  · exact (switchReport_updates p sw s).trans (printerReport_updates p pr _)
  · exact .rfl

theorem supervisionRunOut_updates (p : CounterPort) (s : State) : Updates L s (supervisionRunOut p s) :=
  ((modPort_updates (fun _ => by rfl) p s).trans (goOffline_updates p _ _)).trans (dayTest_updates _)

theorem logoutAt_updates (q : CounterPort) (s : State) : Updates L s (logoutAt q s) := by
  have h := (modPort_updates (L := L) (f := fun c => { c with operator := none, displayDue := true })
    (fun _ => by rfl) q s).trans (leaveCalling_updates q _)
  unfold logoutAt
  dsimp only
  split
  · exact h.trans (setSale_updates q _ _ _)
  · exact h

theorem loginOp_updates (p : CounterPort) (n : Nat) (s : State) : Updates L s (loginOp p n s) := by
  have hat : ∀ (k : OperatorNo) (u : State), Updates L u (loginAt p k u) := by
    intro k u
    have h := modPort_updates (L := L)
      (f := fun c => { c with operator := some k, held := none, displayDue := true }) (fun _ => by rfl) p u
    unfold loginAt
    dsimp only
    split
    · exact h.trans (setSale_updates p _ _ _)
    · exact h
  unfold loginOp
  split
  · exact refuseKey_updates p _ s
  · dsimp only
    split
    · split
      · exact (logoutAt_updates _ s).trans (hat _ _)
      · exact hat _ _
    · exact hat _ _
  · exact .rfl

theorem logoutOp_updates (p : CounterPort) (s : State) : Updates L s (logoutOp p s) := by
  have h := (modPort_updates (L := L)
    (f := fun c => { c with operator := none, held := none, displayDue := true }) (fun _ => by rfl) p s).trans
    (leaveCalling_updates p _)
  unfold logoutOp
  dsimp only
  split
  · exact h.trans (setSale_updates p _ _ _)
  · exact h

/-! ### The tick (chapter 11) -/

theorem tickClock_updates (s : State) : Updates L s (tickClock s) := by
  unfold tickClock
  dsimp only
  split
  · exact (Updates.one (.clock _)).trans (notify_updates _ _)
  · exact .one (.clock _)

theorem tickCounts_updates (s : State) : Updates L s (tickCounts s) := by
  refine .trans (ports_updates (v := (tickCounts s).ports) fun p => ?_) <|
    .trans (tickets_updates (u := (tickCounts s).tickets) id id) <|
    .trans (orders_updates (l := (tickCounts s).orders) (by simp [tickCounts])) <|
    .trans (.one (.commit s.commit.tick ?_ ?_)) (.one (.day s.dayState.tick ?_))
  · simp only [tickCounts, Fin.getElem_fin, Vector.getElem_map]
    split <;> rfl
  · cases hc : s.commit <;> simp [CommitState.tick]
  · intro d hd
    cases hc : s.commit with
    | waiting d' => exact .inl ⟨d', rfl⟩
    | editing | scheduled => simp [hc, CommitState.tick] at hd
  · cases hd : s.dayState <;> simp [DayState.tick]

theorem takeTickEvent_updates (s : State) (e : TickEvent) : Updates L s (takeTickEvent s e) := by
  unfold takeTickEvent
  split
  · next hdue =>
    refine .trans ?_ (flush_updates _)
    cases e with
    | supervision p => exact supervisionRunOut_updates p s
    | call k =>
      unfold runTickEvent
      dsimp only
      split
      · exact skipTicket_updates k _ s
      · exact .rfl
    | abandon n =>
      unfold runTickEvent
      dsimp only
      split
      · exact abandonOrder_updates _ s
      · exact .rfl
    | activation => exact activationTest_updates s
    | commitDrain => exact commitDrainExpired_updates s
    | closeDrain =>
      refine closeDrainExpired_updates fun h => ?_
      simp [tickDue, h] at hdue
  · exact .rfl

theorem clockTick_updates (s : State) : Updates L s (clockTick s) :=
  ((tickClock_updates s).trans (tickCounts_updates _)).trans
    ((Updates.one (.free _)).trans (foldl_updates takeTickEvent_updates _ _))

end

end Sys2Proof.Machine
end

section
/-! PROOFS. The requests and all commands as chains of elementary updates, and the invariants that follow. -/

namespace Sys2Proof.Machine

/-! ### Which commands write the loaded tables -/

/-- What a command may write of the loaded tables (11.1): each writer its own, UPLINK_TRANSMIT what a request
that waited writes, and POWER_UP the areas it empties; with the configuration kept in range. -/
def Writes : Instr → Retained → Retained → Prop
  | .operatorWrite _ _ _, r, r' => r' = { r with operators := r'.operators }
  | .templateWrite _ _ _, r, r' => r' = { r with templates := r'.templates }
  | .translateWrite _ _ _ _, r, r' => r' = { r with table0 := r'.table0, table1 := r'.table1 }
  | .calWrite _ _ _ _, r, r' => r' = { r with cal := r'.cal, audit := r'.audit }
  | .configWrite _ _, r, r' => r' = { r with config := r'.config } ∧ (ConfigSound r.config → ConfigSound r'.config)
  | .uplinkTransmit, r, r' => ConfigSound r.config → ConfigSound r'.config
  | .powerUp _, r, r' => ConfigSound r.config → ConfigSound r'.config
  | _, _, _ => False

/-- The configuration stays in range whatever is written. -/
theorem Writes.configSound {i : Instr} {r r' : Retained} (h : Writes i r r') (hr : ConfigSound r.config) :
    ConfigSound r'.config := by
  cases i
  case configWrite => exact h.2 hr
  case uplinkTransmit | powerUp => exact h hr
  case operatorWrite | templateWrite | translateWrite | calWrite => exact (congrArg Retained.config h) ▸ hr
  all_goals exact h.elim

theorem clamp_numberRange (f : NumberField) (v : Nat) :
    (numberRange f).1 ≤ clamp (numberRange f).1 (numberRange f).2 v ∧
      clamp (numberRange f).1 (numberRange f).2 v ≤ (numberRange f).2 :=
  clamp_mem _ _ _ (by cases f <;> decide)

/-- An entry leaves every number field in its range (R200). -/
theorem applyEntry_sound {c : ConfigRecord} (h : ConfigSound c) (e : ConfigEntry) :
    ConfigSound (applyEntry c e) := by
  cases e with
  | number f v =>
    have hv := clamp_numberRange f v
    cases f
    · exact { h with supervisionReload := hv }
    · exact { h with commitDrain := hv }
    · exact { h with closeDrain := hv }
    · exact { h with callTimeout := hv }
    · exact { h with parkTimeout := hv }
    · exact { h with serviceRatio := hv }
  | mask k l => exact { h with }
  | zeroTracking b =>
    cases b
    · exact h
    · exact { h with }
  | unknown n => exact h

theorem applyEntries_config_sound {c : ConfigRecord} (h : ConfigSound c) (l : List ConfigEntry) :
    ConfigSound (l.foldl applyEntry c) := by
  induction l generalizing c with
  | nil => exact h
  | cons e l ih => exact ih (applyEntry_sound h e)

/-! ### The pending list (R68, R69) -/

theorem stageOne_plus (e : StageEntry) (l : List StageEntry) :
    (stageOne e l).map entryPlu =
      if entryPlu e ∈ l.map entryPlu then l.map entryPlu else l.map entryPlu ++ [entryPlu e] := by
  induction l with
  | nil => rfl
  | cons x xs ih =>
    rw [stageOne]
    by_cases hx : entryPlu x = entryPlu e
    · simp [hx]
    · have hx' : entryPlu e ≠ entryPlu x := fun h => hx h.symm
      simp only [hx, if_false, List.map_cons, ih, List.mem_cons, hx', false_or]
      split <;> rfl

theorem stageAll_nodup (block l : List StageEntry) (h : (l.map entryPlu).Nodup) :
    ((stageAll block l).map entryPlu).Nodup := by
  unfold stageAll
  induction block generalizing l with
  | nil => exact h
  | cons e es ih =>
    refine ih _ ?_
    rw [stageOne_plus]
    split
    · exact h
    · next hnew => simpa using h.concat hnew

theorem stageCheck_ok {s : State} {block list : List StageEntry} (h : stageCheck s block = .ok list) :
    s.commit = .editing ∧ list = stageAll block s.staged ∧ list.length ≤ Config.maxStaged := by
  unfold stageCheck at h
  split at h
  · cases h
  · next hfrozen =>
    split at h
    · cases h
    · split at h
      · cases h
      · dsimp only at h
        split at h
        · cases h
        · next hfull =>
          cases h
          exact ⟨by simpa [stageFrozen] using hfrozen, rfl, Nat.not_lt.mp hfull⟩

/-! ### What leaves the uplink as it is -/

theorem foldl_keeps {α β : Type} {f : State → α → State} {g : State → β} (h : ∀ s a, g (f s a) = g s)
    (l : List α) (s : State) : g (l.foldl f s) = g s := by
  induction l generalizing s with
  | nil => rfl
  | cons a l ih => exact (ih _).trans (h s a)

@[simp] theorem completeCommit_uplink (named : List Nat) (s : State) :
    (completeCommit named s).uplink = s.uplink := by
  unfold completeCommit
  split
  · simp
  · rfl

@[simp] theorem enterWaiting_uplink (s : State) : (enterWaiting s).uplink = s.uplink := by
  unfold enterWaiting
  dsimp only
  split
  · exact completeCommit_uplink _ _
  · rfl

theorem acceptCommit_uplink (a : Option (Date × Nat)) (s : State) : (acceptCommit a s).uplink = s.uplink := by
  cases a with
  | none => exact enterWaiting_uplink s
  | some a => rfl

theorem endOrderByDay_uplink (s : State) (o : Order) : (endOrderByDay s o).uplink = s.uplink := by
  unfold endOrderByDay
  dsimp only
  split <;> simp

theorem completeDayClose_uplink (s : State) : (completeDayClose s).uplink = s.uplink := by
  have h : (endLiveOrders s).uplink = s.uplink :=
    foldl_keeps (g := State.uplink) endOrderByDay_uplink _ { s with free := s.free + 1 }
  simpa [completeDayClose, openNewDay, endServiceLine] using h

@[simp] theorem dayTest_uplink (s : State) : (dayTest s).uplink = s.uplink := by
  obtain ⟨-, h⟩ | ⟨-, h⟩ := dayTest_cases s <;> rw [h]
  exact completeDayClose_uplink s

theorem beginClose_uplink (s : State) : (beginClose s).uplink = s.uplink := by
  simp [beginClose]

/-- What an accepted COMMIT has checked (R73). -/
theorem commitRefusal_none_elim {s : State} {a : Option (Date × Nat)} (h : commitRefusal s a = none) :
    s.commit = .editing ∧ s.dayState = .trading ∧ capacityCount s.ret.items s.staged ≤ Config.maxItems := by
  unfold commitRefusal at h
  split at h
  · cases h
  · next hc =>
    split at h
    · cases h
    · next hd =>
      iterate 3 (split at h; · cases h)
      split at h
      · cases h
      · next hf =>
        refine ⟨by simpa using hc, ?_, (tableFits_iff s).mp (by simpa using hf)⟩
        cases hday : s.dayState with
        | trading => rfl
        | closing => simp [hday, DayState.isClosing] at hd

/-! ### The owners of requests -/

theorem clearUplinkErrors_updates {L : Retained → Retained → Prop} (s : State) :
    Updates L s (clearUplinkErrors s) := .one (.uplink { s.uplink with errors := {} } id)

theorem clearAllErrors_updates {L : Retained → Retained → Prop} (s : State) :
    Updates L s (clearAllErrors s) := by
  refine .trans (ports_updates (v := s.ports.map fun c => { c with errors := {} }) fun p => ?_)
    (clearUplinkErrors_updates _)
  simp [State.port]

theorem storeCal_updates {L : Retained → Retained → Prop} {p : CounterPort} {r : CalRecord} {s : State}
    (h : ∀ c : Vector (Option CalRecord) 14, ∀ n, L s.ret { s.ret with cal := c, audit := n }) :
    Updates L s (storeCal p r s) := by
  unfold storeCal
  exact .trans (modRet_updates (.tables_only (h _ _) rfl rfl)) (modPort_updates (fun _ => by rfl) p _)

section
variable {s : State} (hroom : s.uplink.replies.length < Config.maxReplies)
include hroom

theorem pluReadOp_updates {L : Retained → Retained → Prop} (tag first last : Nat) :
    Updates L s (pluReadOp tag first last s) := by
  unfold pluReadOp
  split
  · exact reply_updates hroom _ _ _
  · exact reply_updates hroom _ _ _

theorem pluStageOp_updates {L : Retained → Retained → Prop} (tag : Nat) (block : List StageEntry) :
    Updates L s (pluStageOp tag block s) := by
  unfold pluStageOp
  split
  · exact badFrame_updates hroom tag
  · split
    · exact reply_updates hroom _ _ _
    · next h =>
      obtain ⟨hediting, rfl, hlength⟩ := stageCheck_ok h
      exact (Updates.one (.staged _ hediting hlength (stageAll_nodup block s.staged))).trans
        (reply_updates (by exact hroom) _ _ _)

theorem stageDiscardOp_updates {L : Retained → Retained → Prop} (tag : Nat) :
    Updates L s (stageDiscardOp tag s) := by
  unfold stageDiscardOp stageFrozen
  split
  · exact reply_updates hroom _ _ _
  · next h =>
    refine .trans (.one (.staged [] ?_ (Nat.zero_le _) fun _ => .nil)) (reply_updates (by exact hroom) _ _ _)
    simpa using h

theorem commitOp_updates {L : Retained → Retained → Prop} (tag : Nat) (a : Option (Date × Nat)) :
    Updates L s (commitOp tag a s) := by
  unfold commitOp
  split
  · exact reply_updates hroom _ _ _
  · next h =>
    obtain ⟨hediting, hday, hfits⟩ := commitRefusal_none_elim h
    have haccept : Updates L s (acceptCommit a s) := by
      cases a with
      | none => exact enterWaiting_updates (.inr hday) hfits
      | some a => exact .one (.commit _ (.inr (.inr hday)) fun d hd => by cases hd)
    refine haccept.trans (reply_updates ?_ _ _ _)
    rw [acceptCommit_uplink]
    exact hroom

theorem commitAbortOp_updates {L : Retained → Retained → Prop} (tag : Nat) :
    Updates L s (commitAbortOp tag s) := by
  unfold commitAbortOp
  split
  · exact reply_updates hroom _ _ _
  · exact (Updates.one (.commit .editing (.inl rfl) (by simp))).trans (reply_updates (by exact hroom) _ _ _)

theorem dayCloseOp_updates {L : Retained → Retained → Prop} (tag : Nat) : Updates L s (dayCloseOp tag s) := by
  unfold dayCloseOp
  split
  · exact reply_updates hroom _ _ _
  · next h =>
    have hediting : s.commit = .editing := by
      by_contra hc
      simp [dayCloseRefusal, hc] at h
    have hbegin : Updates L s (beginClose s) :=
      (Updates.one (.day _ (.inr (.inl hediting)))).trans ((markAllDisplays_updates _).trans (dayTest_updates _))
    refine hbegin.trans (reply_updates ?_ _ _ _)
    rw [beginClose_uplink]
    exact hroom

theorem totalsReadOp_updates {L : Retained → Retained → Prop} (tag : Nat) (part : Option TotalsPart) (n : Nat) :
    Updates L s (totalsReadOp tag part n s) := by
  unfold totalsReadOp
  split <;> exact reply_updates hroom _ _ _

theorem dayRecordReadOp_updates {L : Retained → Retained → Prop} (tag : Nat) (part : Option RecordPart)
    (n : Nat) : Updates L s (dayRecordReadOp tag part n s) := by
  unfold dayRecordReadOp
  split
  · exact reply_updates hroom _ _ _
  · split <;> exact reply_updates hroom _ _ _

theorem orderReadOp_updates {L : Retained → Retained → Prop} (tag : Nat) (n : Option Nat) :
    Updates L s (orderReadOp tag n s) := by
  unfold orderReadOp
  split
  · exact reply_updates hroom _ _ _
  · split
    · exact reply_updates hroom _ _ _
    · split <;> exact reply_updates hroom _ _ _

theorem calReadOp_updates {L : Retained → Retained → Prop} (tag n : Nat) : Updates L s (calReadOp tag n s) := by
  unfold calReadOp
  split <;> exact reply_updates hroom _ _ _

theorem timeSetOp_updates {L : Retained → Retained → Prop} (tag : Nat) (d : Date) (n : Nat) :
    Updates L s (timeSetOp tag d n s) := by
  unfold timeSetOp
  split
  · exact reply_updates hroom _ _ _
  · exact (Updates.one (.clock _)).trans
      ((reply_updates (by exact hroom) _ _ _).trans (activationTest_updates _))

theorem statusReadOp_updates {L : Retained → Retained → Prop} (tag : Nat) :
    Updates L s (statusReadOp tag s) :=
  (Updates.one (.notices { s.notices with lost := 0 } fun h => ⟨h.1, Nat.zero_le _⟩)).trans
    (reply_updates (by exact hroom) _ _ _)

theorem statusClearOp_updates {L : Retained → Retained → Prop} (tag : Nat) (n : Option Nat) :
    Updates L s (statusClearOp tag n s) := by
  unfold statusClearOp
  split
  · exact (clearAllErrors_updates s).trans (reply_updates (by exact hroom) _ _ _)
  · split
    · exact (Updates.one (.uplink { s.uplink with errors := {} } id)).trans
        (reply_updates (by exact hroom) _ _ _)
    · split
      · exact reply_updates hroom _ _ _
      · exact .trans (modPort_updates (fun _ => by rfl) _ s) (reply_updates (by exact hroom) _ _ _)

theorem noticeEnableOp_updates {L : Retained → Retained → Prop} (tag : Nat) (e : Enables) :
    Updates L s (noticeEnableOp tag e s) :=
  (Updates.one (.notices { s.notices with enables := e } id)).trans (reply_updates (by exact hroom) _ _ _)

theorem hubResetOp_updates {L : Retained → Retained → Prop} (tag : Nat) : Updates L s (hubResetOp tag s) :=
  (Updates.one (.uplink { s.uplink with resetPending := true, waiting := none } id)).trans
    (reply_updates (by exact hroom) _ _ _)

/-- A request that writes the store, owes no display and answers. -/
theorem modRet_reply_updates {L : Retained → Retained → Prop} {f : Retained → Retained}
    (h : StoreUpdate L s.ret (f s.ret)) (tag : Nat) (code : ResultCode) (data : ReplyData) :
    Updates L s (reply tag code data (modRet f s)) :=
  (modRet_updates h).trans (reply_updates (by exact hroom) tag code data)

theorem operatorWriteOp_updates (tag n : Nat) (r : Option OperatorRecord) :
    Updates (Writes (.operatorWrite tag n r)) s (operatorWriteOp tag n r s) := by
  unfold operatorWriteOp
  split
  · exact reply_updates hroom _ _ _
  · exact modRet_reply_updates hroom (.tables_only rfl rfl rfl) _ _ _
  · exact reply_updates hroom _ _ _

theorem templateWriteOp_updates (tag n : Nat) (t : Option TemplateRaw) :
    Updates (Writes (.templateWrite tag n t)) s (templateWriteOp tag n t s) := by
  unfold templateWriteOp
  split
  · exact reply_updates hroom _ _ _
  · split
    · exact modRet_reply_updates hroom (.tables_only rfl rfl rfl) _ _ _
    · split
      · exact reply_updates hroom _ _ _
      · exact modRet_reply_updates hroom (.tables_only rfl rfl rfl) _ _ _

theorem translateWriteOp_updates (tag n : Nat) (half : TableHalf) (l : List Byte) :
    Updates (Writes (.translateWrite tag n half l)) s (translateWriteOp tag n half l s) := by
  unfold translateWriteOp
  split
  · exact badFrame_updates hroom tag
  · split
    · exact reply_updates hroom _ _ _
    · refine modRet_reply_updates hroom (.tables_only ?_ ?_ ?_) _ _ _ <;> unfold storeHalf <;> split <;> rfl

theorem calWriteOp_updates (tag n : Nat) (f : CalFields) (k : Option TrackingSetting) :
    Updates (Writes (.calWrite tag n f k)) s (calWriteOp tag n f k s) := by
  unfold calWriteOp
  split
  · exact reply_updates hroom _ _ _
  · refine .trans (storeCal_updates fun _ _ => rfl) <| .trans (notify_updates _ _) (reply_updates ?_ _ _ _)
    rw [notify_uplink]
    exact hroom
  · exact reply_updates hroom _ _ _

theorem configWriteOp_updates (tag : Nat) (l : List ConfigEntry) :
    Updates (Writes (.configWrite tag l)) s (configWriteOp tag l s) := by
  unfold configWriteOp
  split
  · exact badFrame_updates hroom tag
  · split
    · exact reply_updates hroom _ _ _
    · exact modRet_reply_updates hroom
        (.tables_only ⟨rfl, fun h => applyEntries_config_sound h l⟩ rfl rfl) _ _ _

/-- Whatever request waits, its rule is a chain of updates. -/
theorem requestOp_updates (i : Instr) :
    Updates (fun r r' => ConfigSound r.config → ConfigSound r'.config) s (requestOp i s) := by
  have hmono : ∀ t, Updates (Writes i) s t →
      Updates (fun r r' => ConfigSound r.config → ConfigSound r'.config) s t :=
    fun t h => h.mono fun _ _ hw => hw.configSound
  cases i
  case malformedRequest => exact badFrame_updates hroom _
  case status => exact statusReadOp_updates hroom _
  case statusClear => exact statusClearOp_updates hroom _ _
  case noticeEnable => exact noticeEnableOp_updates hroom _ _
  case hubReset => exact hubResetOp_updates hroom _
  case operatorWrite => exact hmono _ (operatorWriteOp_updates hroom _ _ _)
  case calWrite => exact hmono _ (calWriteOp_updates hroom _ _ _ _)
  case calRead => exact calReadOp_updates hroom _ _
  case pluRead => exact pluReadOp_updates hroom _ _ _
  case pluStage => exact pluStageOp_updates hroom _ _
  case stageDiscard => exact stageDiscardOp_updates hroom _
  case commit => exact commitOp_updates hroom _ _
  case commitAbort => exact commitAbortOp_updates hroom _
  case templateWrite => exact hmono _ (templateWriteOp_updates hroom _ _ _)
  case translateWrite => exact hmono _ (translateWriteOp_updates hroom _ _ _ _)
  case orderRead => exact orderReadOp_updates hroom _ _
  case totalsRead => exact totalsReadOp_updates hroom _ _ _
  case dayClose => exact dayCloseOp_updates hroom _
  case dayRecordRead => exact dayRecordReadOp_updates hroom _ _ _
  case configWrite => exact hmono _ (configWriteOp_updates hroom _ _)
  case timeSet => exact timeSetOp_updates hroom _ _ _
  all_goals exact .rfl

end

/-! ### The uplink's transmitter and the resets -/

theorem lost_notices_length (failed : List Area) (h : failed.length ≤ 10) :
    NoticesBounded { NoticeQueue.fresh with queue := lostNotices failed } :=
  ⟨by rw [lostNotices, List.length_map]; exact h.trans (by decide), Nat.zero_le _⟩

theorem warmReset_updates {L : Retained → Retained → Prop} (s : State) : Updates L s (warmReset s) :=
  .one (.reset _ _ _ .rfl ⟨Nat.zero_le _, Nat.zero_le _⟩)

theorem emptyArea_store (r : Retained) (a : Area) :
    StoreUpdate (fun r r' => ConfigSound r.config → ConfigSound r'.config) r (emptyArea r a) := by
  have hdefault : ConfigSound ConfigRecord.default := by constructor <;> decide
  cases a
  case items => exact ⟨.inr id, id, List.nil_sublist _⟩
  case config => exact ⟨.inr fun _ => hdefault, id, .refl _⟩
  case totals => exact ⟨.inr id, fun _ => .empty, .refl _⟩
  all_goals
    unfold emptyArea
    exact ⟨.inr id, id, .refl _⟩

theorem checkedStore_store (failed : List Area) (r : Retained) :
    StoreUpdate (fun r r' => ConfigSound r.config → ConfigSound r'.config) r (checkedStore failed r) := by
  have hfold : StoreUpdate (fun r r' => ConfigSound r.config → ConfigSound r'.config) r
      (failed.foldl emptyArea r) := by
    induction failed generalizing r with
    | nil => exact .rfl
    | cons a l ih =>
      have h1 := emptyArea_store r a
      have h2 := ih (emptyArea r a)
      refine ⟨.inr fun h => ?_, fun h => h2.totals (h1.totals h), h2.items.trans h1.items⟩
      have step {r r' : Retained}
          (h : StoreUpdate (fun r r' => ConfigSound r.config → ConfigSound r'.config) r r')
          (hr : ConfigSound r.config) : ConfigSound r'.config := by
        obtain hsame | hwrite := h.tables
        · exact hsame.config ▸ hr
        · exact hwrite hr
      exact step h2 (step h1 h)
  exact ⟨hfold.tables.imp (fun h => ⟨h.operators, h.templates, h.table0, h.table1, h.cal, h.audit, h.config⟩) id,
    hfold.totals, hfold.items⟩

theorem powerUp_updates (found : List (Area × Nat)) (s : State) :
    Updates (Writes (.powerUp found)) s (powerUp found s) :=
  .one (.reset _ _ _ (checkedStore_store _ _)
    (lost_notices_length _ ((List.length_filter_le _ _).trans (by decide))))

theorem takeWaiting_updates (s : State) : Updates (Writes .uplinkTransmit) s (takeWaiting s) := by
  unfold takeWaiting
  split
  · exact .rfl
  · next i _ =>
    split
    · next hroom =>
      exact (Updates.one (.uplink { s.uplink with waiting := none } id)).trans
        ((requestOp_updates (by exact hroom) i).trans (flush_updates _))
    · exact .rfl

theorem transmit_updates (s : State) : Updates (Writes .uplinkTransmit) s (transmit s) := by
  unfold transmit
  split
  · split
    · next r rest hreplies =>
      unfold sendReply
      dsimp only
      split
      · exact .one (.uplink _ id)
      · unfold replySent
        dsimp only
        refine .trans (.one (.uplink { s.uplink with
          replies := rest, sentParts := 0, lastSent := some (replyFrameAt r s.uplink.sentParts) } fun h => ?_)) ?_
        · rw [hreplies] at h
          exact (Nat.le_succ _).trans h
        · split
          · exact (warmReset_updates _).trans (.one (.uplink _ id))
          · exact takeWaiting_updates _
    · next n rest _ hnotices =>
      refine (Updates.one (.uplink { s.uplink with lastSent := some (noticeFrame n) } id)).trans
        (.one (.notices { s.notices with queue := rest } fun h => ⟨?_, h.2⟩))
      have hlen : s.notices.queue.length ≤ Config.maxNotices := h.1
      rw [hnotices] at hlen
      exact (Nat.le_succ _).trans hlen
    · exact .rfl
  · exact .rfl

theorem uplinkDrop_updates {L : Retained → Retained → Prop} (s : State) : Updates L s (uplinkDrop s) := by
  refine .trans (t := loseNotice s) ?_ (.one (.uplink _ fun _ => Nat.zero_le _))
  unfold loseNotice
  split
  · refine (Updates.one (.notices { s.notices with
      queue := s.notices.queue.drop (if Config.freeBit s.free then 1 else 0) } fun h => ⟨?_, h.2⟩)).trans
      (.one (.free _))
    exact (List.length_drop ▸ Nat.sub_le _ _).trans h.1
  · exact .rfl

theorem discardFrame_updates {L : Retained → Retained → Prop} (port : LinkPort) (chars : List RxChar)
    (b : Bool) (s : State) : Updates L s (discardFrame port chars b s) := by
  unfold discardFrame
  split
  · exact modPort_updates (fun _ => by rfl) _ s
  · split
    · exact .rfl
    · exact .one (.uplink _ id)

/-! ### Every command -/

theorem next_of_ite {c : Prop} [Decidable c] {a b t : State}
    (h : (if c then (.next a : Host.Outcome State Fault Refusal) else .next b) = .next t) :
    c ∧ t = a ∨ ¬ c ∧ t = b := by
  split at h <;> cases h
  · next hc => exact .inl ⟨hc, rfl⟩
  · next hc => exact .inr ⟨hc, rfl⟩

theorem execLineDrop_updates {L : Retained → Retained → Prop} {p : CounterPort} {s t : State}
    (h : execLineDrop p s = .next t) : Updates L s t := by
  unfold execLineDrop at h
  split at h
  · cases h; exact .rfl
  · cases h; exact portDown_updates p s
  · obtain ⟨-, rfl⟩ | ⟨-, rfl⟩ := next_of_ite h
    · exact (goOffline_updates p _ s).trans
        ((portDown_updates p _).trans ((dayTest_updates _).trans (flush_updates _)))
    · exact portDown_updates p s

theorem execCompositionComplete_updates {L : Retained → Retained → Prop} {s t : State}
    (h : execCompositionComplete s = .next t) : Updates L s t := by
  unfold execCompositionComplete at h
  split at h
  · cases h; exact .rfl
  · dsimp only at h
    split at h
    · cases h
      exact (freeComposer_updates s).trans ((dayTest_updates _).trans (flush_updates _))
    · split at h
      · next hjob =>
        cases h
        exact (freeComposer_updates s).trans ((completeJob_updates rfl hjob).trans
          ((dayTest_updates _).trans (flush_updates _)))
      · cases h

theorem execCallTimeout_updates {L : Retained → Retained → Prop} {k : TicketNo} {s t : State}
    (h : execCallTimeout k s = .next t) : Updates L s t := by
  unfold execCallTimeout at h
  split at h
  · obtain ⟨-, rfl⟩ | ⟨-, rfl⟩ := next_of_ite h
    · exact skipTicket_updates k _ s
    · exact .rfl
  · cases h; exact .rfl

theorem execOrderAbandoned_updates {L : Retained → Retained → Prop} {n : Nat} {s t : State}
    (h : execOrderAbandoned n s = .next t) : Updates L s t := by
  unfold execOrderAbandoned at h
  split at h
  · cases h; exact .rfl
  · obtain ⟨-, rfl⟩ | ⟨-, rfl⟩ := next_of_ite h
    · exact abandonOrder_updates _ s
    · exact .rfl

/-- A chain of updates behind a choice that otherwise changes nothing. -/
theorem ite_updates {L : Retained → Retained → Prop} {c : Prop} [Decidable c] {s a t : State}
    (ha : c → Updates L s a) (h : (if c then (.next a : Host.Outcome State Fault Refusal) else .next s) = .next t) :
    Updates L s t := by
  obtain ⟨hc, rfl⟩ | ⟨-, rfl⟩ := next_of_ite h
  · exact ha hc
  · exact .rfl

/-- Every command is a chain of elementary updates that writes of the loaded tables what is its own. -/
theorem exec_updates {i : Instr} {s t : State} (h : exec i s = .next t) : Updates (Writes i) s t := by
  have req : ∀ {own : State → State}, exec i s = .next (arrive i own s) →
      (∀ u : State, u.uplink.replies.length < Config.maxReplies → Updates (Writes i) u (own u)) →
      Updates (Writes i) s t := by
    intro own he hown
    cases he.symm.trans h
    exact arrive_updates hown i s
  have key : ∀ {own : State → State} {p : CounterPort} {gate : Port → Option MsgCode},
      exec i s = .next (keyEvent p gate own s) → (∀ u, Updates (Writes i) u (own u)) →
      Updates (Writes i) s t := by
    intro own p gate he hown
    cases he.symm.trans h
    exact keyEvent_updates hown p gate s
  have frame : ∀ {own : State → State} {p : CounterPort} {accepts : Option DeviceKind → Bool},
      exec i s = .next (flush (handOn p accepts own s)) → (∀ u, Updates (Writes i) u (own u)) →
      Updates (Writes i) s t := by
    intro own p accepts he hown
    cases he.symm.trans h
    exact (handOn_updates hown p accepts s).trans (flush_updates _)
  cases i
  case lineDrop => exact execLineDrop_updates h
  case lineReturn => cases h; exact .rfl
  case uplinkLineDrop =>
    obtain ⟨-, rfl⟩ | ⟨-, rfl⟩ := next_of_ite h
    · exact (uplinkDrop_updates s).trans (warmReset_updates _)
    · exact uplinkDrop_updates s
  case frameDiscard => cases h; exact discardFrame_updates _ _ _ s
  case malformedFrame => exact ite_updates (fun _ => protocolError_updates _ s) h
  case malformedRequest =>
    exact ite_updates (fun _ => arrive_updates (fun _ hu => badFrame_updates hu _) _ s) h
  case hello k _ _ =>
    cases k with
    | none => cases h; exact protocolError_updates _ s
    | some k => cases h; exact (helloOp_updates _ _ _ _ s).trans (flush_updates _)
  case statusFrame => exact frame rfl fun u => statusOp_updates _ _ _ u
  case sample => exact frame rfl fun u => sampleOp_updates _ _ u
  case sampleGapExpiry =>
    exact ite_updates (fun _ => (handResult_updates _ _ _ s).trans (flush_updates _)) h
  case supervisionExpiry =>
    exact ite_updates (fun _ => (supervisionRunOut_updates _ s).trans (flush_updates _)) h
  case login => exact key rfl fun u => loginOp_updates _ _ u
  case logout => exact key rfl fun u => logoutOp_updates _ u
  case zero => exact key rfl fun u => zeroOp_updates _ u
  case tare => exact key rfl fun u => tareOutcome_updates _ _ u
  case keyedTare => exact key rfl fun u => tareOutcome_updates _ _ u
  case plu => exact key rfl fun u => pluOp_updates _ _ u
  case qty => exact key rfl fun u => qtyOp_updates _ _ u
  case print => exact key rfl fun u => printOp_updates _ u
  case cancel => exact key rfl fun u => cancelOp_updates _ u
  case void => exact key rfl fun u => idleOnly_updates (voidOp_updates _ _) _ u
  case reprint => exact key rfl fun u => idleOnly_updates (reprintOp_updates _ _) _ u
  case next => exact key rfl fun u => idleOnly_updates (nextOp_updates _) _ u
  case serve => exact key rfl fun u => idleOnly_updates (serveOp_updates _) _ u
  case skip => exact key rfl fun u => idleOnly_updates (skipOp_updates _) _ u
  case recallSkipped => exact key rfl fun u => idleOnly_updates (recallSkippedOp_updates _ _) _ u
  case cancelNext => exact key rfl fun u => idleOnly_updates (cancelNextOp_updates _) _ u
  case park => exact key rfl fun u => idleOnly_updates (withOpenOrder_updates (parkOrder_updates _) _) _ u
  case pickup => exact key rfl fun u => idleOnly_updates (pickupOp_updates _ _) _ u
  case closeOrder => exact key rfl fun u => idleOnly_updates (withOpenOrder_updates (closeOrder_updates _) _) _ u
  case printDone => exact frame rfl fun u => printDoneOp_updates _ _ _ u
  case takeRequest => exact frame rfl fun u => takeRequestOp_updates _ u
  case takeDecision => cases h; exact (takeDecision_updates s).trans (flush_updates _)
  case compositionComplete => exact execCompositionComplete_updates h
  case callTimeout => exact execCallTimeout_updates h
  case orderAbandoned => exact execOrderAbandoned_updates h
  case clockTick => cases h; exact clockTick_updates s
  case commitActivation =>
    exact ite_updates (fun _ => (activationTest_updates s).trans (flush_updates _)) h
  case commitDrainExpiry =>
    exact ite_updates (fun _ => (commitDrainExpired_updates s).trans (flush_updates _)) h
  case commitCompletion => cases h; exact (completeIfDrained_updates s).trans (flush_updates _)
  case closeDrainExpiry =>
    exact ite_updates (fun hlast =>
      (closeDrainExpired_updates (DayState.lastSecond_closing hlast)).trans (flush_updates _)) h
  case dayCloseCompletion => cases h; exact (dayTest_updates s).trans (flush_updates _)
  case status => exact req rfl fun _ hu => statusReadOp_updates hu _
  case statusClear => exact req rfl fun _ hu => statusClearOp_updates hu _ _
  case noticeEnable => exact req rfl fun _ hu => noticeEnableOp_updates hu _ _
  case hubReset => exact req rfl fun _ hu => hubResetOp_updates hu _
  case warmReset => cases h; exact warmReset_updates s
  case powerUp => cases h; exact powerUp_updates _ s
  case operatorWrite => exact req rfl fun _ hu => operatorWriteOp_updates hu _ _ _
  case calWrite => exact req rfl fun _ hu => calWriteOp_updates hu _ _ _ _
  case calRead => exact req rfl fun _ hu => calReadOp_updates hu _ _
  case pluRead => exact req rfl fun _ hu => pluReadOp_updates hu _ _ _
  case pluStage => exact req rfl fun _ hu => pluStageOp_updates hu _ _
  case stageDiscard => exact req rfl fun _ hu => stageDiscardOp_updates hu _
  case commit => exact req rfl fun _ hu => commitOp_updates hu _ _
  case commitAbort => exact req rfl fun _ hu => commitAbortOp_updates hu _
  case templateWrite => exact req rfl fun _ hu => templateWriteOp_updates hu _ _ _
  case translateWrite => exact req rfl fun _ hu => translateWriteOp_updates hu _ _ _ _
  case orderRead => exact req rfl fun _ hu => orderReadOp_updates hu _ _
  case totalsRead => exact req rfl fun _ hu => totalsReadOp_updates hu _ _ _
  case dayClose => exact req rfl fun _ hu => dayCloseOp_updates hu _
  case dayRecordRead => exact req rfl fun _ hu => dayRecordReadOp_updates hu _ _ _
  case configWrite => exact req rfl fun _ hu => configWriteOp_updates hu _ _
  case timeSet => exact req rfl fun _ hu => timeSetOp_updates hu _ _ _
  case uplinkTransmit => cases h; exact transmit_updates s
  -- RECALL, which stands last because its constructor's name is a keyword
  · exact key rfl fun u => idleOnly_updates (recallOp_updates _) _ u

end Sys2Proof.Machine
end

section
/-! PROOFS. The invariants over the lists, the slots, the composer, the drains, the item table and the totals:
each elementary update keeps them, so each step does. -/

namespace Sys2Proof.Machine

/-! ### From updates to steps -/

theorem sendFrames_updates {L : Retained → Retained → Prop} (s : State) : Updates L s (sendFrames s) :=
  ports_updates fun p => by
    simp only [Fin.getElem_fin, Vector.getElem_ofFn]
    unfold sendFrame
    split <;> rfl

/-- A property of the state, not of the commands that wait, that every elementary update keeps. -/
theorem step_keeps {I : State → Prop} (hpending : ∀ s l, I s → I { s with pending := l })
    (hupdate : ∀ i a b, Update (Writes i) a b → I a → I b) {s t : State} (h : step s = .next t) (hs : I s) :
    I t := by
  unfold step at h
  split at h
  · cases h
    exact (sendFrames_updates (L := Writes .clockTick) s).keeps (hupdate _) hs
  · exact (exec_updates h).keeps (hupdate _) (hpending _ _ hs)

/-! ### Slots -/

/-- A label posted to the head of the free list goes to the end of the post list. -/
theorem SlotsSound.posted {c : SlotCtx} (h : SlotsSound c) {k : SlotNo} {rest : List SlotNo}
    (hfree : c.free = k :: rest) (l : SlotLabel) :
    SlotsSound { c with labels := c.labels.set k (some l), free := c.free.tail, post := c.post ++ [k] } := by
  refine ⟨fun j => ?_, fun j => ?_, fun j hj => ?_⟩
  · have hp := h.partition j
    rw [hfree, List.count_cons] at hp
    simp only [hfree, List.tail_cons, List.count_append, List.count_singleton]
    omega
  · have hf := h.filled j
    by_cases hjk : j = k
    · subst hjk; simp
    · have hne : k.val ≠ j.val := fun e => hjk (Fin.ext e.symm)
      simpa [hne, hjk] using hf
  · have hhead := h.outstanding j hj
    cases hpost : c.post with
    | nil => simp [hpost] at hhead
    | cons x xs => simpa [hpost] using hhead

theorem postLabel_port (p : CounterPort) (k : SlotNo) (l : SlotLabel) (s : State) (q : CounterPort) :
    (postLabel p k l s).port q = if q = p then { s.port p with slots := { (s.port p).slots with
      labels := (s.port p).slots.labels.set k (some l), free := (s.port p).slots.free.tail,
      post := (s.port p).slots.post ++ [k] } } else s.port q := modPort_port p q _ s

theorem afterReset_port (l : List Instr) (r : Retained) (c : Clock) (q : NoticeQueue) (n : Nat)
    (p : CounterPort) : (State.afterReset l r c q n).port p = Port.fresh r.cal[p] := by
  simp [State.afterReset, State.port]

theorem Update.allSlotsSound {L : Retained → Retained → Prop} {s t : State} (h : Update L s t)
    (hs : AllSlotsSound s) : AllSlotsSound t := by
  cases h with
  | ports v hsound _ => exact fun p => hsound p (hs p)
  | post p k rest l hfree _ =>
    intro q
    rw [postLabel_port]
    split
    · exact (hs p).posted hfree l
    · exact hs q
  | reset r c q _ _ =>
    intro p
    rw [afterReset_port]
    exact SlotCtx.fresh_sound
  | _ => exact hs

/-- Settles O6: each elementary update keeps the slot lists of every station. -/
theorem stepKeepsSlotLists : Obligations.StepKeepsSlotLists := fun _ _ hs h =>
  step_keeps (I := AllSlotsSound) (fun _ _ => id) (fun _ _ _ hu => hu.allSlotsSound) h hs

/-! ### The composer -/

theorem Composer.posting_eq_some {c : Composer} {p : CounterPort} :
    c.posting = some p ↔ ∃ x, c.current = some x ∧ x.dropped = false ∧ x.job.station = p := by
  unfold Composer.posting
  cases c.current with
  | none => simp
  | some x => cases hd : x.dropped <;> simp [hd]

theorem ComposerSound.lessen {s t : State} (hs : ComposerSound s)
    (hqueue : t.composer.queue.Sublist s.composer.queue)
    (hcurrent : t.composer.posting = none ∨ t.composer.posting = s.composer.posting)
    (hslots : ∀ p : CounterPort, (s.port p).slots.free ≠ [] → (t.port p).slots.free ≠ []) :
    ComposerSound t := by
  have hold : ∀ c, t.composer.current = some c → c.dropped = false →
      ∃ x, s.composer.current = some x ∧ x.dropped = false ∧ x.job.station = c.job.station := by
    intro c hc hd
    have hp : t.composer.posting = some c.job.station := Composer.posting_eq_some.mpr ⟨c, hc, hd, rfl⟩
    obtain hnone | hsame := hcurrent
    · rw [hnone] at hp; cases hp
    · exact Composer.posting_eq_some.mp (hsame ▸ hp)
  refine ⟨hs.oneJob.sublist (hqueue.map _), fun c hc hd j hj => ?_, fun c hc hd => ?_⟩
  · obtain ⟨x, hx, hxd, hxs⟩ := hold c hc hd
    exact hxs ▸ hs.notTwice x hx hxd j (hqueue.subset hj)
  · obtain ⟨x, hx, hxd, hxs⟩ := hold c hc hd
    exact hslots _ (hxs ▸ hs.slotHeld x hx hxd)

theorem ComposerSound.congr {s t : State} (hs : ComposerSound s) (hc : t.composer = s.composer)
    (hp : ∀ p : CounterPort, (s.port p).slots.free ≠ [] → (t.port p).slots.free ≠ []) : ComposerSound t :=
  hs.lessen (hc ▸ .refl _) (.inr (by rw [hc])) hp

theorem Update.composerSound {L : Retained → Retained → Prop} {s t : State} (h : Update L s t)
    (hs : ComposerSound s) : ComposerSound t := by
  cases h with
  | ports v _ hfree => exact hs.congr rfl hfree
  | post p k rest l _ hnone =>
    have hnone' : (postLabel p k l s).composer.current = none := hnone
    exact ⟨hs.oneJob, fun c hc => (by rw [hnone'] at hc; cases hc), fun c hc => (by rw [hnone'] at hc; cases hc)⟩
  | join j hjob =>
    obtain ⟨hqueue, hcurrent⟩ := (hasJob_false_iff s j.station).mp hjob
    refine ⟨?_, fun c hc hd k hk => ?_, hs.slotHeld⟩
    · have hnew : j.station ∉ s.composer.queue.map (·.station) := by
        intro hmem
        obtain ⟨k, hk, he⟩ := List.mem_map.mp hmem
        exact hqueue k hk he
      simpa using hs.oneJob.concat hnew
    · obtain hk | hk := List.mem_append.mp hk
      · exact hs.notTwice c hc hd k hk
      · obtain rfl : k = j := by simpa using hk
        intro he
        simp [hcurrent c hc he.symm] at hd
  | take queue c n hqueue _ hfree hother =>
    refine ⟨hs.oneJob.sublist (hqueue.map _), fun x hx _ => ?_, fun x hx _ => ?_⟩
    · cases hx; exact hother
    · cases hx; exact hfree
  | lessen c hqueue hcurrent => exact hs.lessen hqueue hcurrent fun _ => id
  | reset r c q _ _ =>
    exact ⟨.nil, fun x hx => (by cases hx), fun x hx => (by cases hx)⟩
  | _ => exact hs.congr rfl fun _ => id

theorem postOutcome_error {p : CounterPort} {l : SlotLabel} {after : State → State} {s : State} {f : Fault}
    (h : postOutcome p l after s = .error f) : f = .noFreeSlot ∧ (s.port p).slots.free = [] := by
  unfold postOutcome at h
  split at h
  · next hfree => cases h; exact ⟨rfl, hfree⟩
  · cases h

/-- A completed job stops for want of a slot only at a station with none, and for want of its order only where it
is a SUMMARY of an order that is not live. -/
theorem completeJob_error {c : Composition} {s : State} {f : Fault} (h : completeJob c s = .error f) :
    (f = .noFreeSlot ∧ (s.port c.job.station).slots.free = []) ∨
      (f = .lostOrder ∧ ∃ n k w, c.job.source = .summary n k w ∧ orderOf s.orders n = none) := by
  unfold completeJob at h
  dsimp only at h
  split at h
  · split at h
    · cases h
    · exact .inl (postOutcome_error h)
  · split at h
    · cases h
    · split at h
      · cases h
      · exact .inl (postOutcome_error h)
  · next n k w hsource =>
    split at h
    · next hnone => cases h; exact .inr ⟨rfl, n, k, w, hsource, hnone⟩
    · split at h
      · cases h
      · exact .inl (postOutcome_error h)

/-- COMPOSITION_COMPLETE stops only where the composition is not dropped and its job cannot be completed. -/
theorem execCompositionComplete_fault {s : State} {f : Fault} (h : execCompositionComplete s = .fault f) :
    ∃ c, s.composer.current = some c ∧ c.dropped = false ∧ completeJob c (freeComposer s) = .error f := by
  unfold execCompositionComplete at h
  split at h
  · cases h
  · next c hc =>
    dsimp only at h
    split at h
    · cases h
    · next hd =>
      split at h
      · cases h
      · next f' hjob =>
        cases h
        exact ⟨c, hc, Bool.eq_false_of_not_eq_true hd, hjob⟩

/-- Settles O7: each elementary update keeps the composer sound, and a sound composer's composition has the slot
that its label is posted to. -/
theorem stepKeepsComposerSound : Obligations.StepKeepsComposerSound := by
  refine ⟨fun s t hs h => step_keeps (fun _ _ h => h.congr rfl fun _ => id)
    (fun _ _ _ hu => hu.composerSound) h hs, fun s hs hfault => ?_⟩
  obtain ⟨c, hc, hd, hjob⟩ := execCompositionComplete_fault hfault
  obtain ⟨-, hnone⟩ | ⟨hlost, -⟩ := completeJob_error hjob
  · exact hs.slotHeld c hc hd hnone
  · cases hlost

/-! ### The service line and the drains -/

theorem Update.linesExclusive {L : Retained → Retained → Prop} {s t : State} (h : Update L s t)
    (hs : LinesExclusive s) : LinesExclusive t := by
  cases h with
  | tickets u hline _ => exact hline hs
  | reset r c q _ _ => exact .inl rfl
  | _ => exact hs

theorem Update.drainsExclusive {L : Retained → Retained → Prop} {s t : State} (h : Update L s t)
    (hs : DrainsExclusive s) : DrainsExclusive t := by
  cases h with
  | commit c hday _ =>
    obtain hc | hflight | htrading := hday
    · exact .inl hc
    · exact .inr (hs.resolve_left hflight)
    · exact .inr htrading
  | applied named g d hwaiting => exact .inl rfl
  | day d hday =>
    obtain hd | hediting | hclosing := hday
    · exact .inr hd
    · exact .inl hediting
    · exact .inl (hs.resolve_right hclosing)
  | reset r c q _ _ => exact .inl rfl
  | _ => exact hs

/-- Settles O8: each elementary update keeps both exclusions. -/
theorem stepKeepsExclusions : Obligations.StepKeepsExclusions := fun _ _ ⟨hlines, hdrains⟩ h =>
  ⟨step_keeps (I := LinesExclusive) (fun _ _ => id) (fun _ _ _ hu => hu.linesExclusive) h hlines,
    step_keeps (I := DrainsExclusive) (fun _ _ => id) (fun _ _ _ hu => hu.drainsExclusive) h hdrains⟩

/-! ### The ledger -/

theorem Update.ledgerBalanced {L : Retained → Retained → Prop} {s t : State} (h : Update L s t)
    (hs : LedgerBalanced s) : LedgerBalanced t := by
  cases h with
  | store r hr => exact hr.totals hs
  | reset r c q hr _ => exact hr.totals hs
  | _ => exact hs

/-- Settles O10: every movement of the totals is of the grand group and one station by the same items and value,
or of counts that are neither. -/
theorem stepKeepsLedgerBalanced : Obligations.StepKeepsLedgerBalanced := fun _ _ hs h =>
  step_keeps (I := LedgerBalanced) (fun _ _ => id) (fun _ _ _ hu => hu.ledgerBalanced) h hs

/-! ### The loaded tables -/

/-- The loaded tables that are not command `i`'s to write are the same in two stores. -/
structure KeepsOthers (i : Instr) (r r' : Retained) : Prop where
  operators : (∀ tag n x, i ≠ .operatorWrite tag n x) → r'.operators = r.operators
  templates : (∀ tag n x, i ≠ .templateWrite tag n x) → r'.templates = r.templates
  translation : (∀ tag n half l, i ≠ .translateWrite tag n half l) → r'.table0 = r.table0 ∧ r'.table1 = r.table1
  calibration : (∀ tag n f k, i ≠ .calWrite tag n f k) → r'.cal = r.cal ∧ r'.audit = r.audit
  config : (∀ tag l, i ≠ .configWrite tag l) → r'.config = r.config

theorem KeepsOthers.trans {i : Instr} {r r' r'' : Retained} (h : KeepsOthers i r r') (h' : KeepsOthers i r' r'') :
    KeepsOthers i r r'' where
  operators hi := (h'.operators hi).trans (h.operators hi)
  templates hi := (h'.templates hi).trans (h.templates hi)
  translation hi := ⟨(h'.translation hi).1.trans (h.translation hi).1, (h'.translation hi).2.trans (h.translation hi).2⟩
  calibration hi := ⟨(h'.calibration hi).1.trans (h.calibration hi).1, (h'.calibration hi).2.trans (h.calibration hi).2⟩
  config hi := (h'.config hi).trans (h.config hi)

theorem SameTables.keepsOthers {i : Instr} {r r' : Retained} (h : SameTables r r') : KeepsOthers i r r' where
  operators _ := h.operators
  templates _ := h.templates
  translation _ := ⟨h.table0, h.table1⟩
  calibration _ := ⟨h.cal, h.audit⟩
  config _ := h.config

theorem Writes.keepsOthers {i : Instr} {r r' : Retained} (h : Writes i r r') (htransmit : i ≠ .uplinkTransmit)
    (hpower : ∀ l, i ≠ .powerUp l) : KeepsOthers i r r' := by
  cases i
  case operatorWrite =>
    rw [show r' = _ from h]
    exact { operators := fun hi => (hi _ _ _ rfl).elim, templates := fun _ => rfl,
            translation := fun _ => ⟨rfl, rfl⟩, calibration := fun _ => ⟨rfl, rfl⟩, config := fun _ => rfl }
  case templateWrite =>
    rw [show r' = _ from h]
    exact { operators := fun _ => rfl, templates := fun hi => (hi _ _ _ rfl).elim,
            translation := fun _ => ⟨rfl, rfl⟩, calibration := fun _ => ⟨rfl, rfl⟩, config := fun _ => rfl }
  case translateWrite =>
    rw [show r' = _ from h]
    exact { operators := fun _ => rfl, templates := fun _ => rfl, translation := fun hi => (hi _ _ _ _ rfl).elim,
            calibration := fun _ => ⟨rfl, rfl⟩, config := fun _ => rfl }
  case calWrite =>
    rw [show r' = _ from h]
    exact { operators := fun _ => rfl, templates := fun _ => rfl, translation := fun _ => ⟨rfl, rfl⟩,
            calibration := fun hi => (hi _ _ _ _ rfl).elim, config := fun _ => rfl }
  case configWrite =>
    rw [h.1]
    exact { operators := fun _ => rfl, templates := fun _ => rfl, translation := fun _ => ⟨rfl, rfl⟩,
            calibration := fun _ => ⟨rfl, rfl⟩, config := fun hi => (hi _ _ rfl).elim }
  case uplinkTransmit => exact (htransmit rfl).elim
  case powerUp => exact (hpower _ rfl).elim
  all_goals exact h.elim

theorem Updates.keepsOthers {i : Instr} {s t : State} (h : Updates (Writes i) s t)
    (htransmit : i ≠ .uplinkTransmit) (hpower : ∀ l, i ≠ .powerUp l) : KeepsOthers i s.ret t.ret := by
  have store : ∀ {r r'}, StoreUpdate (Writes i) r r' → KeepsOthers i r r' :=
    fun hr => hr.tables.elim (·.keepsOthers) (·.keepsOthers htransmit hpower)
  refine h.keeps (I := fun u => KeepsOthers i s.ret u.ret) (fun a b hab ha => ?_) SameTables.rfl.keepsOthers
  cases hab with
  | store r hr => exact ha.trans (store hr)
  | reset r c q hr _ => exact ha.trans (store hr)
  | applied named g d _ => exact ha.trans (SameTables.keepsOthers (by constructor <;> rfl))
  | _ => exact ha

/-- Settles O11: what a command may write of the tables decides which of them stay. -/
theorem tablesChangeOnlyByTheirWriters : Obligations.TablesChangeOnlyByTheirWriters := by
  intro i s t h htransmit hpower
  have hkeeps := (exec_updates h).keepsOthers htransmit hpower
  exact ⟨hkeeps.operators, hkeeps.templates, hkeeps.translation, hkeeps.calibration, hkeeps.config⟩

/-! ### Configuration -/

theorem Update.configSound {i : Instr} {s t : State} (h : Update (Writes i) s t)
    (hs : ConfigSound s.ret.config) : ConfigSound t.ret.config := by
  have store : ∀ {r r'}, StoreUpdate (Writes i) r r' → ConfigSound r.config → ConfigSound r'.config :=
    fun hr hc => hr.tables.elim (fun hsame => hsame.config ▸ hc) fun hw => hw.configSound hc
  cases h with
  | store r hr => exact store hr hs
  | reset r c q hr _ => exact store hr hs
  | _ => exact hs

theorem step_keeps_configSound {s t : State} (hs : ConfigSound s.ret.config) (h : step s = .next t) :
    ConfigSound t.ret.config :=
  step_keeps (I := fun s => ConfigSound s.ret.config) (fun _ _ => id) (fun _ _ _ hu => hu.configSound) h hs

end Sys2Proof.Machine
end

section
/-! PROOFS. The bounds of the lists, with no display left owed, and the item table's order and room. -/

namespace Sys2Proof.Machine

/-! ### The bounds of the lists -/

/-- The lists and counts of `QueuesBounded`, the displays apart. -/
structure ListsBounded (s : State) : Prop where
  notices : NoticesBounded s.notices
  replies : s.uplink.replies.length ≤ Config.maxReplies
  staged : s.staged.length ≤ Config.maxStaged
  log : s.log.length ≤ Config.maxLog
  skipped : s.tickets.skipped.length ≤ Config.maxSkipped
  orders : s.orders.length ≤ Config.maxOrders

theorem queuesBounded_iff (s : State) : QueuesBounded s ↔ ListsBounded s ∧ Quiet s :=
  ⟨fun h => ⟨⟨⟨h.notices, h.lost⟩, h.replies, h.staged, h.log, h.skipped, h.orders⟩, h.displays⟩,
    fun ⟨h, hq⟩ => ⟨h.notices.1, h.notices.2, h.replies, h.staged, h.log, h.skipped, h.orders, hq⟩⟩

theorem Update.listsBounded {L : Retained → Retained → Prop} {s t : State} (h : Update L s t)
    (hs : ListsBounded s) : ListsBounded t := by
  cases h with
  | uplink u hu => exact { hs with replies := hu hs.replies }
  | notices q hq => exact { hs with notices := hq hs.notices }
  | staged l _ hl _ => exact { hs with staged := hl }
  | applied named g d _ => exact { hs with staged := Nat.zero_le _ }
  | log l hl => exact { hs with log := hl hs.log }
  | tickets u _ hu => exact { hs with skipped := hu hs.skipped }
  | orders l hl => exact { hs with orders := hl hs.orders }
  | reset r c q _ hq =>
    exact ⟨hq, Nat.zero_le _, Nat.zero_le _, Nat.zero_le _, Nat.zero_le _, Nat.zero_le _⟩
  | _ => exact ⟨hs.notices, hs.replies, hs.staged, hs.log, hs.skipped, hs.orders⟩

/-! ### No display is left owed (R17) -/

theorem Quiet.congr {s t : State} (h : Quiet s)
    (hp : ∀ p : CounterPort, (t.port p).displayDue = (s.port p).displayDue) : Quiet t :=
  fun p => (hp p).trans (h p)

theorem Quiet.modPort {s : State} (h : Quiet s) {f : Port → Port} (hf : ∀ c, (f c).displayDue = c.displayDue)
    (p : CounterPort) : Quiet (modPort p f s) := h.setPort ((hf _).trans (h p))

theorem skipTicket_ports (k : TicketNo) (p : CounterPort) (s : State) :
    (skipTicket k p s).ports = (setService p .free s).ports := by
  by_cases hroom : s.tickets.skipped.length < Config.maxSkipped
  · rw [skipTicket_room hroom]
  · obtain ⟨o, rest, hlist⟩ := List.exists_cons_of_length_pos
      (Nat.lt_of_lt_of_le (by decide : 0 < Config.maxSkipped) (Nat.not_lt.mp hroom))
    rw [skipTicket_full hlist (Nat.not_lt.mp hroom)]

theorem skipTicket_quiet {s : State} (h : Quiet s) (k : TicketNo) (p : CounterPort) :
    Quiet (skipTicket k p s) :=
  (h.modPort (f := fun c => { c with service := .free }) (fun _ => by rfl) p).congr fun q =>
    congrArg Port.displayDue (State.port_of_ports _ _ q (skipTicket_ports k p s))

@[simp] theorem abandonOrder_ports (o : Order) (s : State) : (abandonOrder o s).ports = s.ports := by
  simp [abandonOrder]

theorem arrive_quiet {s : State} (h : Quiet s) (i : Instr) (own : State → State) : Quiet (arrive i own s) := by
  unfold arrive
  split
  · exact h
  · split
    · exact flush_quiet _
    · split <;> exact h

theorem foldl_takeTickEvent_quiet {s : State} (h : Quiet s) (l : List TickEvent) :
    Quiet (l.foldl takeTickEvent s) := by
  induction l generalizing s with
  | nil => exact h
  | cons e l ih =>
    refine ih ?_
    unfold takeTickEvent
    split
    · exact flush_quiet _
    · exact h

theorem tickClock_port (s : State) (p : CounterPort) : (tickClock s).port p = s.port p := by
  unfold tickClock
  dsimp only
  split
  · rw [notify_port]; rfl
  · rfl

theorem tickCounts_port (s : State) (p : CounterPort) :
    (tickCounts s).port p = if (s.port p).online then
      { s.port p with supervision := (s.port p).supervision - 1 } else s.port p := by
  simp only [tickCounts, State.port, Fin.getElem_fin, Vector.getElem_map]
  rfl

theorem clockTick_quiet {s : State} (h : Quiet s) : Quiet (clockTick s) := by
  refine foldl_takeTickEvent_quiet (h.congr fun p => ?_) _
  have hdue : ((tickCounts (tickClock s)).port p).displayDue = (s.port p).displayDue := by
    rw [tickCounts_port, tickClock_port]
    split <;> rfl
  exact hdue

theorem afterReset_quiet (l : List Instr) (r : Retained) (c : Clock) (q : NoticeQueue) (n : Nat) :
    Quiet (State.afterReset l r c q n) := fun p => by rw [afterReset_port]; rfl

theorem takeWaiting_quiet {s : State} (h : Quiet s) : Quiet (takeWaiting s) := by
  unfold takeWaiting
  split
  · exact h
  · split
    · exact flush_quiet _
    · exact h

theorem transmit_quiet {s : State} (h : Quiet s) : Quiet (transmit s) := by
  unfold transmit
  split
  · split
    · unfold sendReply
      dsimp only
      split
      · exact h
      · unfold replySent
        dsimp only
        split
        · exact afterReset_quiet s.pending s.ret s.clock NoticeQueue.fresh s.free
        · exact takeWaiting_quiet (by exact h)
    · exact h
    · exact h
  · exact h

theorem uplinkDrop_quiet {s : State} (h : Quiet s) : Quiet (uplinkDrop s) := by
  have hlose : Quiet (loseNotice s) := by
    unfold loseNotice
    split <;> exact h
  exact hlose

theorem discardFrame_quiet {s : State} (h : Quiet s) (port : LinkPort) (chars : List RxChar) (b : Bool) :
    Quiet (discardFrame port chars b s) := by
  unfold discardFrame
  split
  · exact h.modPort (fun _ => by rfl) _
  · split <;> exact h

theorem ite_quiet {c : Prop} [Decidable c] {a b t : State} (ha : Quiet a) (hb : Quiet b)
    (h : (if c then (.next a : Host.Outcome State Fault Refusal) else .next b) = .next t) : Quiet t := by
  obtain ⟨-, rfl⟩ | ⟨-, rfl⟩ := next_of_ite h
  · exact ha
  · exact hb

/-- A command between whose events no display is owed leaves none owed. -/
theorem exec_quiet {i : Instr} {s t : State} (hq : Quiet s) (h : exec i s = .next t) : Quiet t := by
  have hdown : ∀ p, Quiet (portDown p s) := fun p => hq.modPort (fun _ => by rfl) p
  cases i
  case lineDrop p =>
    change execLineDrop p s = .next t at h
    unfold execLineDrop at h
    split at h
    · cases h; exact hq
    · cases h; exact hdown p
    · exact ite_quiet (flush_quiet _) (hdown p) h
  case lineReturn => cases h; exact hq
  case uplinkLineDrop => exact ite_quiet (afterReset_quiet _ _ _ _ _) (uplinkDrop_quiet hq) h
  case frameDiscard => cases h; exact discardFrame_quiet hq _ _ _
  case malformedFrame => exact ite_quiet (hq.modPort (fun _ => by rfl) _) hq h
  case malformedRequest => exact ite_quiet (arrive_quiet hq _ _) hq h
  case hello k _ _ =>
    cases k with
    | none => cases h; exact hq.modPort (fun _ => by rfl) _
    | some k => cases h; exact flush_quiet _
  case sampleGapExpiry | supervisionExpiry | commitActivation | commitDrainExpiry | closeDrainExpiry =>
    exact ite_quiet (flush_quiet _) hq h
  case compositionComplete =>
    change execCompositionComplete s = .next t at h
    unfold execCompositionComplete at h
    split at h
    · cases h; exact hq
    · dsimp only at h
      split at h
      · cases h; exact flush_quiet _
      · split at h
        · cases h; exact flush_quiet _
        · cases h
  case callTimeout k =>
    change execCallTimeout k s = .next t at h
    unfold execCallTimeout at h
    split at h
    · exact ite_quiet (skipTicket_quiet hq _ _) hq h
    · cases h; exact hq
  case orderAbandoned n =>
    change execOrderAbandoned n s = .next t at h
    unfold execOrderAbandoned at h
    split at h
    · cases h; exact hq
    · refine ite_quiet (hq.congr fun p => ?_) hq h
      rw [State.port_of_ports _ s p (abandonOrder_ports _ s)]
  case clockTick => cases h; exact clockTick_quiet hq
  case warmReset | powerUp => cases h; exact afterReset_quiet _ _ _ _ _
  case uplinkTransmit => cases h; exact transmit_quiet hq
  case status | statusClear | noticeEnable | hubReset | operatorWrite | calWrite | calRead | pluRead | pluStage | stageDiscard
    | commit | commitAbort | templateWrite | translateWrite | orderRead | totalsRead | dayClose | dayRecordRead
    | configWrite | timeSet => cases h; exact arrive_quiet hq _ _
  all_goals cases h; exact flush_quiet _

theorem sendFrame_displayDue (p : CounterPort) (c : Port) : (sendFrame p c).displayDue = c.displayDue := by
  unfold sendFrame
  split <;> rfl

theorem step_quiet {s t : State} (hq : Quiet s) (h : step s = .next t) : Quiet t := by
  unfold step at h
  split at h
  · cases h
    exact hq.congr fun p => by rw [sendFrames_port, sendFrame_displayDue]
  · exact exec_quiet (by exact hq) h

/-- Settles O5: each elementary update keeps the lists within their bounds, and every event ends with no display
owed. -/
theorem stepKeepsQueuesBounded : Obligations.StepKeepsQueuesBounded := by
  intro s t hs h
  obtain ⟨hlists, hquiet⟩ := (queuesBounded_iff s).mp hs
  refine (queuesBounded_iff t).mpr ⟨?_, step_quiet hquiet h⟩
  exact step_keeps (fun _ _ h => ⟨h.notices, h.replies, h.staged, h.log, h.skipped, h.orders⟩)
    (fun _ _ _ hu => hu.listsBounded) h hlists

end Sys2Proof.Machine
end

section
/-! PROOFS. The item table (chapter 4): what an applied entry does to the numbers of its records, the capacity
count as the size of a set of numbers, and the table's order and room at every step. -/

namespace Sys2Proof.Machine

/-! ### The numbers of a table -/

/-- The PLU numbers of a table's records, in its order. -/
def plus (items : List ItemRecord) : List Nat := items.map (·.item.plu)

@[simp] theorem plus_nil : plus [] = [] := rfl
@[simp] theorem plus_cons (r : ItemRecord) (l : List ItemRecord) : plus (r :: l) = r.item.plu :: plus l := rfl

/-- The table stands in rising order of number (R64). -/
def Rising (items : List ItemRecord) : Prop := (plus items).Pairwise (· < ·)

theorem Rising.nodup {items : List ItemRecord} (h : Rising items) : (plus items).Nodup :=
  h.imp Nat.ne_of_lt

theorem rising_cons {r : ItemRecord} {l : List ItemRecord} :
    Rising (r :: l) ↔ (∀ n ∈ plus l, r.item.plu < n) ∧ Rising l := List.pairwise_cons

theorem itemOf_eq_none_iff (items : List ItemRecord) (n : Nat) : itemOf items n = none ↔ n ∉ plus items := by
  simp [itemOf, plus]

theorem mem_plus_insertItem (r : ItemRecord) (items : List ItemRecord) (n : Nat) :
    n ∈ plus (insertItem r items) ↔ n = r.item.plu ∨ n ∈ plus items := by
  induction items with
  | nil => simp [insertItem]
  | cons x xs ih =>
    rw [insertItem]
    split
    · simp
    · split
      · next h => simp [h]
      · simp only [plus_cons, List.mem_cons, ih]; tauto

theorem insertItem_rising (r : ItemRecord) {items : List ItemRecord} (h : Rising items) :
    Rising (insertItem r items) := by
  induction items with
  | nil => simp [insertItem, Rising]
  | cons x xs ih =>
    obtain ⟨hx, hxs⟩ := rising_cons.mp h
    rw [insertItem]
    split
    · next hlt =>
      refine rising_cons.mpr ⟨fun n hn => ?_, h⟩
      rw [plus_cons, List.mem_cons] at hn
      obtain rfl | hn := hn
      · exact hlt
      · exact hlt.trans (hx n hn)
    · split
      · next heq => exact rising_cons.mpr ⟨fun n hn => heq ▸ hx n hn, hxs⟩
      · refine rising_cons.mpr ⟨fun n hn => ?_, ih hxs⟩
        rw [mem_plus_insertItem] at hn
        obtain rfl | hn := hn
        · omega
        · exact hx n hn

theorem filter_rising (f : ItemRecord → Bool) {items : List ItemRecord} (h : Rising items) :
    Rising (items.filter f) := h.sublist (List.filter_sublist.map _)

/-! ### Applied entries (R82, R83) -/

/-- One entry applied to the table. -/
def applyOne (openPlus : List Nat) (e : StageEntry) (items : List ItemRecord) : List ItemRecord × EntryEffect :=
  match e with
  | .put f m => applyPut f m items
  | .delete n => applyDelete openPlus n items

theorem applyEntries_cons (openPlus : List Nat) (e : StageEntry) (es : List StageEntry)
    (items : List ItemRecord) :
    (applyEntries openPlus (e :: es) items).1 =
      (applyEntries openPlus es (applyOne openPlus e items).1).1 := by
  cases e <;> rfl

/-- The numbers that a list's PUT entries name. -/
def putPlus : List StageEntry → List Nat
  | [] => []
  | .put f _ :: es => f.plu :: putPlus es
  | .delete _ :: es => putPlus es

theorem applyPut_eq (f : ItemFields) (m : Option Markdown) (items : List ItemRecord) :
    ∃ t, (applyPut f m items).1 = insertItem { item := f, markdown := m, status := .live, totals := t } items := by
  unfold applyPut
  split <;> exact ⟨_, rfl⟩

theorem applyDelete_cases (openPlus : List Nat) (n : Nat) (items : List ItemRecord) :
    (applyDelete openPlus n items).1 = items ∨
    (applyDelete openPlus n items).1 = items.filter (fun x => x.item.plu != n) ∨
    ∃ r, itemOf items n = some r ∧
      (applyDelete openPlus n items).1 = insertItem { r with status := .retired } items := by
  unfold applyDelete
  split
  · exact .inl rfl
  · next r hr =>
    split
    · exact .inr (.inl rfl)
    · exact .inr (.inr ⟨r, hr, rfl⟩)

theorem itemOf_some {items : List ItemRecord} {n : Nat} {r : ItemRecord} (h : itemOf items n = some r) :
    r ∈ items ∧ r.item.plu = n :=
  ⟨List.mem_of_find?_eq_some h, by simpa using List.find?_some h⟩

theorem mem_plus {r : ItemRecord} {items : List ItemRecord} (h : r ∈ items) : r.item.plu ∈ plus items :=
  List.mem_map_of_mem h

/-- An applied entry keeps the order and adds no number but that of a PUT. -/
theorem applyOne_rising (openPlus : List Nat) (e : StageEntry) {items : List ItemRecord} (h : Rising items) :
    Rising (applyOne openPlus e items).1 ∧
      ∀ n ∈ plus (applyOne openPlus e items).1, n ∈ plus items ∨ n ∈ putPlus [e] := by
  cases e with
  | put f m =>
    obtain ⟨t, ht⟩ := applyPut_eq f m items
    rw [applyOne, ht]
    refine ⟨insertItem_rising _ h, fun n hn => ?_⟩
    rw [mem_plus_insertItem] at hn
    exact hn.symm.imp_right fun hn => by simp [putPlus, hn]
  | delete n =>
    obtain he | he | ⟨r, hr, he⟩ := applyDelete_cases openPlus n items <;> rw [applyOne, he]
    · exact ⟨h, fun _ => .inl⟩
    · exact ⟨filter_rising _ h, fun k hk => .inl ((List.filter_sublist.map _).subset hk)⟩
    · refine ⟨insertItem_rising _ h, fun k hk => .inl ?_⟩
      rw [mem_plus_insertItem] at hk
      obtain rfl | hk := hk
      · exact (mem_plus (itemOf_some hr).1 : r.item.plu ∈ plus items)
      · exact hk

theorem putPlus_cons (e : StageEntry) (es : List StageEntry) : putPlus (e :: es) = putPlus [e] ++ putPlus es := by
  cases e <;> rfl

theorem applyEntries_rising (openPlus : List Nat) (es : List StageEntry) {items : List ItemRecord}
    (h : Rising items) :
    Rising (applyEntries openPlus es items).1 ∧
      ∀ n ∈ plus (applyEntries openPlus es items).1, n ∈ plus items ∨ n ∈ putPlus es := by
  induction es generalizing items with
  | nil => exact ⟨h, fun _ => .inl⟩
  | cons e es ih =>
    obtain ⟨hrising, hmem⟩ := applyOne_rising openPlus e h
    obtain ⟨hrising', hmem'⟩ := ih hrising
    rw [applyEntries_cons]
    refine ⟨hrising', fun n hn => ?_⟩
    rw [putPlus_cons, List.mem_append]
    obtain hn | hn := hmem' n hn
    · exact (hmem n hn).imp_right .inl
    · exact .inr (.inr hn)

/-! ### The capacity count (R74) -/

theorem putPlus_sublist (l : List StageEntry) : (putPlus l).Sublist (l.map entryPlu) := by
  induction l with
  | nil => exact .refl _
  | cons e es ih =>
    cases e with
    | put f m => exact ih.cons_cons _
    | delete n => exact ih.cons _

/-- An entry that adds a record to a table. -/
def addsRecord (items : List ItemRecord) : StageEntry → Bool
  | .put f _ => (itemOf items f.plu).isNone
  | .delete _ => false

theorem capacityCount_eq (items : List ItemRecord) (l : List StageEntry) :
    capacityCount items l = items.length + (l.filter (addsRecord items)).length := by
  unfold capacityCount
  congr 2

theorem filter_adds_length (items : List ItemRecord) (l : List StageEntry) :
    (l.filter (addsRecord items)).length = ((putPlus l).filter fun n => decide (n ∉ plus items)).length := by
  induction l with
  | nil => rfl
  | cons e es ih =>
    cases e with
    | delete n => simpa [addsRecord, putPlus] using ih
    | put f m =>
      have hadds : addsRecord items (.put f m) = decide (f.plu ∉ plus items) := by
        rw [addsRecord, Bool.eq_iff_iff, Option.isNone_iff_eq_none, itemOf_eq_none_iff, decide_eq_true_iff]
      simp only [putPlus, List.filter_cons, hadds]
      split <;> simp [ih]

/-- The capacity count is the number of PLU numbers that the table and the list's PUT entries name. -/
theorem capacityCount_eq_card {items : List ItemRecord} {l : List StageEntry} (hitems : Rising items)
    (hl : (l.map entryPlu).Nodup) :
    capacityCount items l = ((putPlus l).toFinset ∪ (plus items).toFinset).card := by
  have hput : (putPlus l).Nodup := hl.sublist (putPlus_sublist l)
  have hnew : ((putPlus l).filter fun n => decide (n ∉ plus items)).length =
      ((putPlus l).toFinset \ (plus items).toFinset).card := by
    rw [← List.toFinset_card_of_nodup (hput.filter _)]
    congr 1
    ext n
    simp
  have hold : items.length = (plus items).toFinset.card := by
    rw [List.toFinset_card_of_nodup hitems.nodup, plus, List.length_map]
  rw [capacityCount_eq, filter_adds_length, hnew, hold, Nat.add_comm, Finset.card_sdiff_add_card]

/-- Records that leave the table leave it room. -/
theorem capacityCount_mono {items items' : List ItemRecord} {l : List StageEntry} (hitems : Rising items)
    (hl : (l.map entryPlu).Nodup) (hsub : (plus items').Sublist (plus items)) :
    capacityCount items' l ≤ capacityCount items l := by
  rw [capacityCount_eq_card hitems hl, capacityCount_eq_card (show Rising items' from hitems.sublist hsub) hl]
  refine Finset.card_le_card (Finset.union_subset_union (Finset.Subset.refl _) fun n hn => ?_)
  exact List.mem_toFinset.mpr (hsub.subset (List.mem_toFinset.mp hn))

/-- An applied list leaves a table of at most the capacity count. -/
theorem applyEntries_length_le (openPlus : List Nat) {items : List ItemRecord} {l : List StageEntry}
    (hitems : Rising items) (hl : (l.map entryPlu).Nodup) :
    (applyEntries openPlus l items).1.length ≤ capacityCount items l := by
  obtain ⟨hrising, hmem⟩ := applyEntries_rising openPlus l hitems
  have hcard : (applyEntries openPlus l items).1.length = (plus (applyEntries openPlus l items).1).toFinset.card := by
    rw [List.toFinset_card_of_nodup hrising.nodup, plus, List.length_map]
  rw [capacityCount_eq_card hitems hl, hcard]
  refine Finset.card_le_card fun n hn => ?_
  rw [Finset.mem_union, List.mem_toFinset, List.mem_toFinset]
  exact (hmem n (List.mem_toFinset.mp hn)).symm

/-! ### The table at every step -/

/-- A store with fewer records, the pending list and commit as they were. -/
theorem TableSound.sublist {s t : State} (hs : TableSound s) (hstaged : t.staged = s.staged)
    (hcommit : t.commit = s.commit) (hitems : (plus t.ret.items).Sublist (plus s.ret.items)) : TableSound t := by
  refine ⟨hs.rising.sublist hitems, ?_, hstaged ▸ hs.staged, fun d hd => ?_⟩
  · have hlen := hitems.length_le
    simp only [plus, List.length_map] at hlen
    exact hlen.trans hs.room
  · rw [hstaged]
    exact (capacityCount_mono hs.rising hs.staged hitems).trans (hs.fits d (hcommit ▸ hd))

theorem Update.tableSound {L : Retained → Retained → Prop} {s t : State} (h : Update L s t)
    (hs : TableSound s) : TableSound t := by
  cases h with
  | store r hr => exact hs.sublist rfl rfl hr.items
  | reset r c q hr _ =>
    refine ⟨hs.rising.sublist hr.items, ?_, .nil, fun d hd => by cases hd⟩
    have hlen := hr.items.length_le
    simp only [List.length_map] at hlen
    exact hlen.trans hs.room
  | staged l hediting _ hnodup =>
    exact ⟨hs.rising, hs.room, hnodup hs.staged, fun d hd => by rw [hediting] at hd; cases hd⟩
  | commit c _ hfits =>
    refine ⟨hs.rising, hs.room, hs.staged, fun d hd => ?_⟩
    obtain ⟨d', hd'⟩ | hroom := hfits d hd
    · exact hs.fits d' hd'
    · exact hroom
  | applied named g d hwaiting =>
    refine ⟨(applyEntries_rising named s.staged hs.rising).1, ?_, .nil, fun d hd => by cases hd⟩
    exact (applyEntries_length_le named hs.rising hs.staged).trans (hs.fits d hwaiting)
  | _ => exact ⟨hs.rising, hs.room, hs.staged, hs.fits⟩

theorem step_keeps_tableSound {s t : State} (hs : TableSound s) (h : step s = .next t) : TableSound t :=
  step_keeps (fun _ _ h => ⟨h.rising, h.room, h.staged, h.fits⟩) (fun _ _ _ hu => hu.tableSound) h hs

end Sys2Proof.Machine
end

section
/-! PROOFS. A view of the state, the floor: what the service line, the orders and the open snapshots depend
on. Operations that leave it are transparent to the invariants about these. -/

namespace Sys2Proof.Machine

/-! ### The view -/

/-- What a port shows of its station's place: link, kind, snapshot, sale state and service state. -/
structure Station where
  state : PortState
  online : Bool
  kind : Option DeviceKind
  carried : Option Nat
  sale : SaleState
  service : ServiceState

/-- A port's station; `carried` is the generation of its open snapshot. -/
def Port.station (c : Port) : Station where
  state := c.state
  online := c.online
  kind := c.kind
  carried := c.snapshot.map (·.generation)
  sale := c.sale
  service := c.service

/-- The floor: the stations with G, the commit, the tickets, the orders and the composer. -/
structure Floor where
  generation : Nat
  commit : CommitState
  tickets : TicketUnit
  orders : List Order
  composer : Composer
  stations : CounterPort → Station

def State.floor (s : State) : Floor where
  generation := s.ret.generation
  commit := s.commit
  tickets := s.tickets
  orders := s.orders
  composer := s.composer
  stations := fun p => (s.port p).station

theorem floor_stations (s : State) (p : CounterPort) : s.floor.stations p = (s.port p).station := rfl

/-- States that agree in the fields of the floor have one floor. -/
theorem floor_eq {s t : State} (hgen : t.ret.generation = s.ret.generation) (hcommit : t.commit = s.commit)
    (htickets : t.tickets = s.tickets) (horders : t.orders = s.orders) (hcomposer : t.composer = s.composer)
    (hstations : ∀ p, (t.port p).station = (s.port p).station) : t.floor = s.floor := by
  simp only [State.floor, hgen, hcommit, htickets, horders, hcomposer, hstations]

/-! ### Ports and notices -/

theorem floor_ports {s : State} {v : Vector Port 14} (h : ∀ p : CounterPort, v[p].station = (s.port p).station) :
    ({ s with ports := v } : State).floor = s.floor := floor_eq rfl rfl rfl rfl rfl h

theorem floor_setPort {s : State} {p : CounterPort} {c : Port} (h : c.station = (s.port p).station) :
    (s.setPort p c).floor = s.floor :=
  floor_ports fun q => by
    rw [show (s.ports.set p c)[q] = if q = p then c else s.port q from State.port_setPort s p q c]
    split
    · next hq => rw [h, hq]
    · rfl

theorem floor_modPort {f : Port → Port} (h : ∀ c, (f c).station = c.station) (p : CounterPort) (s : State) :
    (modPort p f s).floor = s.floor := floor_setPort (h _)

theorem floor_modRet {f : Retained → Retained} {s : State} (h : (f s.ret).generation = s.ret.generation) :
    (modRet f s).floor = s.floor := floor_eq h rfl rfl rfl rfl fun _ => rfl

@[simp] theorem floor_notify (b : NoticeBody) (s : State) : (notify b s).floor = s.floor := by
  obtain h | h := notify_cases b s <;> rw [h]
  rfl

@[simp] theorem floor_flush (s : State) : (flush s).floor = s.floor := by
  refine floor_ports fun p => ?_
  have hstation : (flushPort s p).station = (s.port p).station := by
    unfold flushPort
    dsimp only
    split
    · split <;> rfl
    · rfl
  simpa using hstation

@[simp] theorem floor_markAllDisplays (s : State) : (markAllDisplays s).floor = s.floor :=
  floor_ports fun p => by simp [State.port, Port.station]

@[simp] theorem floor_markDisplay (p : CounterPort) (s : State) : (markDisplay p s).floor = s.floor :=
  floor_modPort (fun _ => by rfl) p s

@[simp] theorem floor_holdMessage (p : CounterPort) (m : MsgCode) (s : State) : (holdMessage p m s).floor = s.floor :=
  floor_modPort (fun _ => by rfl) p s

@[simp] theorem floor_refuseKey (p : CounterPort) (m : MsgCode) (s : State) : (refuseKey p m s).floor = s.floor :=
  floor_holdMessage p m s

@[simp] theorem floor_clearHeld (p : CounterPort) (s : State) : (clearHeld p s).floor = s.floor :=
  floor_modPort (fun _ => by rfl) p s

@[simp] theorem floor_protocolError (p : CounterPort) (s : State) : (protocolError p s).floor = s.floor :=
  floor_modPort (fun _ => by rfl) p s

@[simp] theorem floor_reloadSupervision (p : CounterPort) (s : State) : (reloadSupervision p s).floor = s.floor :=
  floor_modPort (fun _ => by rfl) p s

@[simp] theorem floor_deliver (p : CounterPort) (f : OutFrame) (s : State) : (deliver p f s).floor = s.floor :=
  floor_modPort (fun c => by split <;> rfl) p s

@[simp] theorem floor_reply (tag : Nat) (c : ResultCode) (d : ReplyData) (s : State) :
    (reply tag c d s).floor = s.floor := rfl

@[simp] theorem floor_refuseRequest (tag : Nat) (c : ResultCode) (s : State) :
    (refuseRequest tag c s).floor = s.floor := rfl

@[simp] theorem floor_badFrame (tag : Nat) (s : State) : (badFrame tag s).floor = s.floor := rfl

/-! ### Weighing and live prices -/

theorem map_live_generation (sn : Option Snapshot) (f : Snapshot → Option LivePrice) :
    (sn.map fun x => { x with live := f x }).map (·.generation) = sn.map (·.generation) := by
  cases sn <;> rfl

theorem station_snapshot {c : Port} {sn : Option Snapshot} (h : sn.map (·.generation) = c.snapshot.map (·.generation)) :
    ({ c with snapshot := sn } : Port).station = c.station := by
  simp only [Port.station, h]

@[simp] theorem floor_handResult (p : CounterPort) (w : WeighCtx) (r : WeightResult) (s : State) :
    (handResult p w r s).floor = s.floor :=
  floor_modPort (fun c => by
    refine station_snapshot (c := c) ?_
    split
    · exact map_live_generation _ _
    · rfl) p s

@[simp] theorem floor_reprice (p : CounterPort) (s : State) : (reprice p s).floor = s.floor :=
  floor_modPort (f := fun c => { c with
      snapshot := c.snapshot.map fun sn => { sn with live := some (livePrice sn c.weigh.latest) }
      displayDue := true })
    (fun c => station_snapshot (c := c) (map_live_generation _ _)) p s

@[simp] theorem floor_applyTare (p : CounterPort) (t : Tare) (s : State) : (applyTare p t s).floor = s.floor := by
  unfold applyTare
  dsimp only
  split
  · exact floor_handResult p _ _ s
  · exact floor_modPort (fun _ => by rfl) p s

@[simp] theorem floor_removePreset (p : CounterPort) (s : State) : (removePreset p s).floor = s.floor := by
  obtain ⟨-, h⟩ | ⟨-, h⟩ := removePreset_cases p s <;> rw [h]
  exact floor_applyTare p noTare s

@[simp] theorem floor_offerPreset (p : CounterPort) (n : Nat) (s : State) : (offerPreset p n s).1.floor = s.floor := by
  unfold offerPreset
  split
  · rfl
  · rfl
  · rfl
  · split
    · rfl
    · split
      · rfl
      · exact floor_applyTare _ _ s

/-! ### Counts, log, slots -/

@[simp] theorem floor_countGrand (d : GrandTotals) (s : State) : (modRet (countGrand d) s).floor = s.floor :=
  floor_modRet rfl

@[simp] theorem floor_countOperator (n : Option OperatorNo) (d : OperatorTotals) (s : State) :
    (modRet (countOperator n d) s).floor = s.floor := floor_modRet rfl

@[simp] theorem floor_countStation (p : CounterPort) (d : StationTotals) (s : State) :
    (modRet (countStation p d) s).floor = s.floor := floor_modRet rfl

@[simp] theorem floor_countBoth (p : CounterPort) (d : StationTotals) (g : GrandTotals) (s : State) :
    (countBoth p d g s).floor = s.floor := floor_modRet rfl

@[simp] theorem floor_moveSale (up : Bool) (sr : SaleRecord) (s : State) :
    (modRet (moveSale up sr) s).floor = s.floor := floor_modRet rfl

@[simp] theorem floor_modLog (n : Nat) (f : LogEntry → LogEntry) (s : State) : (modLog n f s).floor = s.floor := rfl

@[simp] theorem floor_feedPrinter (p : CounterPort) (s : State) : (feedPrinter p s).floor = s.floor := by
  obtain h | ⟨k, rest, l, -, -, -, -, -, h⟩ := feedPrinter_cases p s <;> rw [h]
  exact floor_setPort (by rfl)

@[simp] theorem floor_postLabel (p : CounterPort) (k : SlotNo) (l : SlotLabel) (s : State) :
    (postLabel p k l s).floor = s.floor := floor_modPort (fun _ => by rfl) p s

@[simp] theorem floor_takeSerial (s : State) : (takeSerial s).floor = s.floor := floor_modRet rfl

@[simp] theorem floor_pushLog (e : LogEntry) (s : State) : (pushLog e s).floor = s.floor := by
  simp only [pushLog, State.floor, State.port]

@[simp] theorem floor_countStale (sr : SaleRecord) (s : State) : (countStale sr s).floor = s.floor := by
  unfold countStale
  split
  · exact floor_countGrand _ s
  · rfl

@[simp] theorem floor_postReprint (p : CounterPort) (n : Nat) (s : State) :
    (postReprint p n s).floor = s.floor := by
  unfold postReprint
  split <;> simp

@[simp] theorem floor_clearPrinterBusy (p : CounterPort) (s : State) : (clearPrinterBusy p s).floor = s.floor := by
  unfold clearPrinterBusy
  split
  · exact floor_clearHeld p s
  · rfl

@[simp] theorem floor_withdrawReprints (n : Nat) (s : State) : (withdrawReprints n s).floor = s.floor :=
  floor_ports fun p => by simp [State.port, Port.station]

@[simp] theorem floor_countVoid (p : CounterPort) (op : Option OperatorNo) (n : Nat) (s : State) :
    (countVoid p op n s).floor = s.floor := by simp [countVoid]

@[simp] theorem floor_markPrinted (l : SlotLabel) (s : State) : (markPrinted l s).floor = s.floor := by
  unfold markPrinted
  split <;> rfl

@[simp] theorem floor_withLabel {f : SlotLabel → State → State} (hf : ∀ l s, (f l s).floor = s.floor)
    (p : CounterPort) (k : SlotNo) (s : State) : (withLabel p k f s).floor = s.floor := by
  unfold withLabel
  split
  · rfl
  · exact hf _ s

theorem floor_printDoneOp (p : CounterPort) (n : Nat) (o : PrintOutcome) (s : State) :
    (printDoneOp p n o s).floor = s.floor := by
  have hprinted (k : SlotNo) : (labelPrinted p k s).floor = s.floor := by
    unfold labelPrinted
    dsimp only
    rw [floor_feedPrinter, floor_countStation, floor_modPort (fun _ => by rfl), floor_withLabel floor_markPrinted]
  have hfailed : (labelFailed p s).floor = s.floor := floor_modPort (fun _ => by rfl) p s
  unfold printDoneOp
  split
  · exact floor_protocolError p s
  · split
    · split
      · exact hprinted _
      · exact hfailed
      · exact hfailed
    · exact floor_protocolError p s

/-! ### Weighing keys, printer reports, table requests -/

theorem floor_tareOutcome (p : CounterPort) (r : Except MsgCode Tare) (s : State) :
    (tareOutcome p r s).floor = s.floor := by
  unfold tareOutcome
  split <;> simp

theorem floor_zeroOp (p : CounterPort) (s : State) : (zeroOp p s).floor = s.floor := by
  unfold zeroOp
  split <;> simp

theorem floor_sampleOp (p : CounterPort) (l : List Int) (s : State) : (sampleOp p l s).floor = s.floor :=
  floor_handResult p _ _ s

theorem floor_qtyOp (p : CounterPort) (q : Nat) (s : State) : (qtyOp p q s).floor = s.floor := by
  unfold qtyOp
  split
  · exact floor_refuseKey p _ s
  · rw [floor_clearHeld, floor_reprice]
    exact floor_modPort (fun c => station_snapshot (c := c) (by cases c.snapshot <;> rfl)) p s

@[simp] theorem floor_printerReport (p : CounterPort) (pr : PrinterCondition) (s : State) :
    (printerReport p pr s).floor = s.floor := by
  unfold printerReport
  split
  · rw [floor_feedPrinter]; exact floor_modPort (fun _ => by rfl) p s
  · rfl
  · exact floor_modPort (fun _ => by rfl) p s

@[simp] theorem floor_storeCal (p : CounterPort) (r : CalRecord) (s : State) : (storeCal p r s).floor = s.floor :=
  (floor_modPort (fun _ => by rfl) p _).trans (floor_modRet rfl)

@[simp] theorem floor_clearAllErrors (s : State) : (clearAllErrors s).floor = s.floor :=
  floor_eq rfl rfl rfl rfl rfl fun p => by
    simp [clearAllErrors, clearUplinkErrors, State.port, Port.station]

@[simp] theorem floor_clearPortErrors (p : CounterPort) (s : State) : (clearPortErrors p s).floor = s.floor :=
  floor_modPort (fun _ => by rfl) p s

theorem floor_discardFrame (port : LinkPort) (l : List RxChar) (b : Bool) (s : State) :
    (discardFrame port l b s).floor = s.floor := by
  unfold discardFrame
  split
  · exact floor_modPort (fun _ => by rfl) _ s
  · split <;> rfl

theorem floor_uplinkDrop (s : State) : (uplinkDrop s).floor = s.floor := by
  unfold uplinkDrop uplinkDown loseNotice
  split <;> rfl

theorem floor_sendFrames (s : State) : (sendFrames s).floor = s.floor :=
  floor_ports fun p => by
    simp only [Fin.getElem_fin, Vector.getElem_ofFn]
    unfold sendFrame
    split <;> rfl

theorem floor_statusClearOp (tag : Nat) (n : Option Nat) (s : State) :
    (statusClearOp tag n s).floor = s.floor := by
  unfold statusClearOp
  split
  · simp
  · split
    · rfl
    · split <;> simp

theorem floor_operatorWriteOp (tag n : Nat) (r : Option OperatorRecord) (s : State) :
    (operatorWriteOp tag n r s).floor = s.floor := by
  unfold operatorWriteOp
  split <;> rfl

theorem floor_calWriteOp (tag n : Nat) (f : CalFields) (k : Option TrackingSetting) (s : State) :
    (calWriteOp tag n f k s).floor = s.floor := by
  unfold calWriteOp
  split <;> simp

theorem floor_calReadOp (tag n : Nat) (s : State) :
    (calReadOp tag n s).floor = s.floor := by
  unfold calReadOp
  split <;> rfl

theorem floor_pluReadOp (tag first last : Nat) (s : State) :
    (pluReadOp tag first last s).floor = s.floor := by
  unfold pluReadOp
  split <;> rfl

theorem floor_pluStageOp (tag : Nat) (l : List StageEntry) (s : State) :
    (pluStageOp tag l s).floor = s.floor := by
  unfold pluStageOp
  split
  · rfl
  · split <;> rfl

theorem floor_stageDiscardOp (tag : Nat) (s : State) :
    (stageDiscardOp tag s).floor = s.floor := by
  unfold stageDiscardOp
  split <;> rfl

theorem floor_templateWriteOp (tag n : Nat) (t : Option TemplateRaw) (s : State) :
    (templateWriteOp tag n t s).floor = s.floor := by
  unfold templateWriteOp
  split
  · rfl
  · split
    · rfl
    · split <;> rfl

theorem floor_translateWriteOp (tag n : Nat) (half : TableHalf) (l : List Byte) (s : State) :
    (translateWriteOp tag n half l s).floor = s.floor := by
  unfold translateWriteOp
  split
  · rfl
  · split
    · rfl
    · rw [floor_reply]
      refine floor_modRet ?_
      unfold storeHalf
      split <;> rfl

theorem floor_orderReadOp (tag : Nat) (n : Option Nat) (s : State) :
    (orderReadOp tag n s).floor = s.floor := by
  unfold orderReadOp
  split
  · rfl
  · split
    · rfl
    · split <;> rfl

theorem floor_totalsReadOp (tag : Nat) (part : Option TotalsPart) (n : Nat) (s : State) :
    (totalsReadOp tag part n s).floor = s.floor := by
  unfold totalsReadOp
  split <;> rfl

theorem floor_dayRecordReadOp (tag : Nat) (part : Option RecordPart) (n : Nat) (s : State) :
    (dayRecordReadOp tag part n s).floor = s.floor := by
  unfold dayRecordReadOp
  split
  · rfl
  · split <;> rfl

theorem floor_configWriteOp (tag : Nat) (l : List ConfigEntry) (s : State) :
    (configWriteOp tag l s).floor = s.floor := by
  unfold configWriteOp
  split
  · rfl
  · split <;> rfl

/-- The requests that leave the floor: those that read, and those that write the loaded tables or the
pending list. -/
def OffFloor : Instr → Prop
  | .commit _ _ | .commitAbort _ | .dayClose _ | .timeSet _ _ _ => False
  | _ => True

theorem floor_requestOp {i : Instr} (h : OffFloor i) (s : State) : (requestOp i s).floor = s.floor := by
  cases i
  case commit | commitAbort | dayClose | timeSet => exact h.elim
  case statusClear => exact floor_statusClearOp _ _ s
  case operatorWrite => exact floor_operatorWriteOp _ _ _ s
  case calWrite => exact floor_calWriteOp _ _ _ _ s
  case calRead => exact floor_calReadOp _ _ s
  case pluRead => exact floor_pluReadOp _ _ _ s
  case pluStage => exact floor_pluStageOp _ _ s
  case stageDiscard => exact floor_stageDiscardOp _ s
  case templateWrite => exact floor_templateWriteOp _ _ _ s
  case translateWrite => exact floor_translateWriteOp _ _ _ _ s
  case orderRead => exact floor_orderReadOp _ _ s
  case totalsRead => exact floor_totalsReadOp _ _ _ s
  case dayRecordRead => exact floor_dayRecordReadOp _ _ _ s
  case configWrite => exact floor_configWriteOp _ _ s
  all_goals rfl

end Sys2Proof.Machine
end

section
/-! PROOFS. Open snapshots, generations and the commit's awaited count (R71, R78, R79): the flow, the part of
the floor that they depend on, and how the operations that change it keep it sound. -/

namespace Sys2Proof.Machine

/-! ### The flow -/

/-- A port's link with its open snapshot's generation. -/
structure Link where
  state : PortState
  online : Bool
  kind : Option DeviceKind
  carried : Option Nat

def Station.link (c : Station) : Link := ⟨c.state, c.online, c.kind, c.carried⟩

structure Flow where
  generation : Nat
  commit : CommitState
  links : CounterPort → Link

def Floor.flow (f : Floor) : Flow := ⟨f.generation, f.commit, fun p => (f.stations p).link⟩

/-- The ports whose snapshot carries G - 1. -/
def Flow.stale (f : Flow) : Finset CounterPort :=
  Finset.univ.filter fun p => (f.links p).carried = some (prevGen f.generation)

/-- What the obligation asks of the flow; an excused port may hold a snapshot while it is not ONLINE, as in
the middle of its offline event. -/
structure FlowSound (excused : CounterPort → Prop) (f : Flow) : Prop where
  range : f.generation < 65536
  upOnline : ∀ p, (f.links p).online = true → (f.links p).state = .up
  placed : ∀ p, ¬ excused p → (f.links p).carried ≠ none →
    (f.links p).online = true ∧ (f.links p).kind = some .scale
  carried : ∀ p g, (f.links p).carried = some g → g = f.generation ∨ g = prevGen f.generation
  awaited : ∀ d, f.commit = .waiting d → d.awaited = f.stale.card ∧ 0 < d.awaited

/-- No port is excused. -/
def nobody (_ : CounterPort) : Prop := False

theorem vector_filter_length {α : Type} (v : Vector α 14) (f : α → Bool) :
    (v.toList.filter f).length = (Finset.univ.filter fun p : CounterPort => f v[p] = true).card := by
  have hlist : v.toList = (List.finRange 14).map fun p : CounterPort => v[p] := by
    refine List.ext_getElem (by simp) fun i _ _ => by simp
  have hset : (Finset.univ.filter fun p : CounterPort => f v[p] = true) =
      ((List.finRange 14).filter fun p : CounterPort => f v[p]).toFinset := by
    ext p
    simp
  rw [hset, List.toFinset_card_of_nodup ((List.nodup_finRange 14).filter _), hlist, List.filter_map,
    List.length_map]
  rfl

theorem staleOpen_eq (s : State) : staleOpen s = s.floor.flow.stale.card := by
  rw [staleOpen, vector_filter_length]
  congr 1
  ext p
  simp only [Finset.mem_filter, Finset.mem_univ, true_and, Flow.stale, Option.any_eq_true, beq_iff_eq]
  exact Option.map_eq_some_iff.symm

theorem generationsSound_iff (s : State) : GenerationsSound s ↔ FlowSound nobody s.floor.flow := by
  constructor
  · intro h
    refine ⟨h.range, h.upOnline, fun p _ hp => ?_, fun p g hp => ?_, fun d hd => ?_⟩
    · obtain ⟨sn, hsn⟩ := Option.ne_none_iff_exists'.mp (fun hn => hp (by
        show ((s.port p).snapshot.map (·.generation)) = none
        rw [hn]; rfl) : (s.port p).snapshot ≠ none)
      exact ⟨(h.snapshots p sn hsn).1, (h.snapshots p sn hsn).2.1⟩
    · obtain ⟨sn, hsn, rfl⟩ := Option.map_eq_some_iff.mp (show (s.port p).snapshot.map (·.generation) = some g from hp)
      exact (h.snapshots p sn hsn).2.2
    · rw [← staleOpen_eq]
      exact h.awaited d hd
  · intro h
    refine ⟨h.range, h.upOnline, fun p sn hsn => ?_, fun d hd => ?_⟩
    · have hcarried : (s.floor.flow.links p).carried = some sn.generation := by
        show ((s.port p).snapshot.map (·.generation)) = _
        rw [hsn]; rfl
      obtain ⟨honline, hkind⟩ := h.placed p id (by rw [hcarried]; exact Option.some_ne_none _)
      exact ⟨honline, hkind, h.carried p _ hcarried⟩
    · rw [staleOpen_eq]
      exact h.awaited d hd

theorem GenerationsSound.congr {s t : State} (hs : GenerationsSound s) (h : t.floor.flow = s.floor.flow) :
    GenerationsSound t := (generationsSound_iff t).mpr (h ▸ (generationsSound_iff s).mp hs)

/-! ### Steps of the flow -/

/-- The flow with another link at a port. -/
def Flow.relink (f : Flow) (p : CounterPort) (l : Link) : Flow := { f with links := Function.update f.links p l }

theorem Flow.relink_links (f : Flow) (p q : CounterPort) (l : Link) :
    (f.relink p l).links q = if q = p then l else f.links q := Function.update_apply f.links p l q

theorem Flow.mem_stale (f : Flow) (p : CounterPort) :
    p ∈ f.stale ↔ (f.links p).carried = some (prevGen f.generation) := by
  simp only [Flow.stale, Finset.mem_filter, Finset.mem_univ, true_and]

/-- The flow with a port's snapshot gone. -/
def Flow.emptied (f : Flow) (p : CounterPort) : Flow := f.relink p { f.links p with carried := none }

/-- The flow of a completed commit (R84). -/
def Flow.completed (f : Flow) : Flow := { f with generation := nextGen f.generation, commit := .editing }

namespace FlowSound
variable {excused : CounterPort → Prop} {f : Flow} {p : CounterPort}

theorem excuse {excused' : CounterPort → Prop} (h : FlowSound excused f) (hle : ∀ p, excused p → excused' p) :
    FlowSound excused' f :=
  { h with placed := fun p hp => h.placed p fun he => hp (hle p he) }

theorem editing (h : FlowSound excused f) {c : CommitState} (hc : ∀ d, c ≠ .waiting d) :
    FlowSound excused { f with commit := c } :=
  { h with awaited := fun d hd => absurd hd (hc d) }

theorem recounted (h : FlowSound excused f) {d d' : CommitDrain} (hd : f.commit = .waiting d)
    (hawaited : d'.awaited = d.awaited) : FlowSound excused { f with commit := .waiting d' } := by
  refine { h with awaited := ?_ }
  rintro _ ⟨⟩
  rw [hawaited]
  exact h.awaited d hd

theorem completed (h : FlowSound excused f) (hstale : f.stale = ∅) : FlowSound excused f.completed where
  range := Nat.mod_lt _ (by omega)
  upOnline := h.upOnline
  placed := h.placed
  carried := by
    intro p g hp
    have hnotstale : g ≠ prevGen f.generation := fun hg => by
      have hmem : p ∈ f.stale := (f.mem_stale p).mpr (hg ▸ hp)
      rw [hstale] at hmem
      exact absurd hmem (Finset.notMem_empty p)
    obtain rfl | hg := h.carried p g hp
    · right
      have hrange := h.range
      simp only [Flow.completed, prevGen, nextGen]
      omega
    · exact absurd hg hnotstale
  awaited := fun d hd => by cases hd

/-- A port given a link of its own while the stale snapshots stay the same. -/
theorem relinked {excused' : CounterPort → Prop} {l : Link} (h : FlowSound excused f)
    (hup : l.online = true → l.state = .up)
    (hplaced : ¬ excused' p → l.carried ≠ none → l.online = true ∧ l.kind = some .scale)
    (hcarried : ∀ g, l.carried = some g → g = f.generation ∨ g = prevGen f.generation)
    (hstale : ∀ d, f.commit = .waiting d → (f.relink p l).stale = f.stale)
    (hexcused : ∀ q, q ≠ p → excused q → excused' q) : FlowSound excused' (f.relink p l) where
  range := h.range
  upOnline := by
    intro q
    rw [Flow.relink_links]
    split
    · exact hup
    · exact h.upOnline q
  placed := by
    intro q
    rw [Flow.relink_links]
    split
    · next hq => exact hq ▸ hplaced
    · next hq => exact fun hex => h.placed q fun he => hex (hexcused q hq he)
  carried := by
    intro q
    rw [Flow.relink_links]
    split
    · exact hcarried
    · exact h.carried q
  awaited := by
    intro d hd
    rw [hstale d hd]
    exact h.awaited d hd

/-- A port without a snapshot given another link without one. -/
theorem relink (h : FlowSound excused f) {l : Link} (hp : (f.links p).carried = none) (hl : l.carried = none)
    (hup : l.online = true → l.state = .up) : FlowSound excused (f.relink p l) := by
  refine h.relinked hup (fun _ hn => absurd hl hn) (fun g hg => by simp [hl] at hg) (fun d _ => ?_)
    fun _ _ => id
  ext q
  rw [Flow.mem_stale, Flow.mem_stale, Flow.relink_links]
  split
  · next hq => rw [hq, hp, hl]; rfl
  · rfl

/-- A snapshot that carries G opens at an ONLINE scale. -/
theorem opened (h : FlowSound excused f) (hp : (f.links p).carried = none) (honline : (f.links p).online = true)
    (hkind : (f.links p).kind = some .scale) :
    FlowSound excused (f.relink p { f.links p with carried := some f.generation }) := by
  have hne : f.generation ≠ prevGen f.generation := by
    have hrange := h.range
    unfold prevGen
    omega
  refine h.relinked (h.upOnline p) (fun _ _ => ⟨honline, hkind⟩) (fun g hg => .inl (Option.some.inj hg).symm)
    (fun d _ => ?_) fun _ _ => id
  ext q
  rw [Flow.mem_stale, Flow.mem_stale, Flow.relink_links]
  split
  · next hq =>
    rw [hq, hp]
    exact iff_of_false (fun he => hne (Option.some.inj he)) (fun he => by cases he)
  · rfl

/-- A snapshot closes that no commit awaits. -/
theorem emptied (h : FlowSound excused f) (hawaited : ∀ d, f.commit = .waiting d → p ∉ f.stale) :
    FlowSound (fun q => excused q ∧ q ≠ p) (f.emptied p) := by
  refine h.relinked (h.upOnline p) (fun _ hn => absurd rfl hn) (fun g hg => by cases hg) (fun d hd => ?_)
    fun q hq he => ⟨he, hq⟩
  have hp := hawaited d hd
  ext q
  rw [Flow.mem_stale] at hp ⊢
  rw [Flow.mem_stale, Flow.relink_links]
  split
  · next hq =>
    subst hq
    exact iff_of_false (fun he => by cases he) hp
  · rfl

end FlowSound

theorem Flow.stale_emptied (f : Flow) (p : CounterPort) : (f.emptied p).stale = f.stale.erase p := by
  ext q
  rw [Finset.mem_erase, Flow.mem_stale, Flow.mem_stale, Flow.emptied, Flow.relink_links]
  split
  · next hq => exact iff_of_false (fun he => by cases he) fun he => he.1 hq
  · next hq => exact (and_iff_right hq).symm

/-! ### The commit and the closes -/

theorem flow_setPort (s : State) (p : CounterPort) (c : Port) :
    (s.setPort p c).floor.flow = s.floor.flow.relink p c.station.link := by
  have hlinks : (fun q => ((s.setPort p c).port q).station.link) =
      Function.update (fun q => (s.port q).station.link) p c.station.link := by
    funext q
    rw [State.port_setPort, Function.update_apply]
    split <;> rfl
  show Flow.mk _ _ _ = Flow.mk _ _ _
  exact congrArg (Flow.mk s.ret.generation s.commit) hlinks

theorem flow_completeCommit {s : State} {d : CommitDrain} (named : List Nat) (h : s.commit = .waiting d) :
    (completeCommit named s).floor.flow = s.floor.flow.completed := by
  rw [completeCommit_waiting named h, floor_markAllDisplays, appliedFor]
  dsimp only
  rw [floor_notify]
  rfl

@[simp] theorem flow_commit (s : State) (c : CommitState) :
    ({ s with commit := c } : State).floor.flow = { s.floor.flow with commit := c } := rfl

/-- A close reported and counted (R79), its port's snapshot gone before. -/
theorem reportClose_flowSound {excused : CounterPort → Prop} {f : Flow} {p : CounterPort} {g : Nat} {s : State}
    (named : List Nat) (h : FlowSound excused f) (hp : (f.links p).carried = some g)
    (hs : s.floor.flow = f.emptied p) :
    FlowSound (fun q => excused q ∧ q ≠ p) (reportClose named g s).floor.flow := by
  have hcommit : s.commit = f.commit := congrArg Flow.commit hs
  have hgen : s.ret.generation = f.generation := congrArg Flow.generation hs
  have hmem : p ∈ f.stale ↔ g = prevGen s.ret.generation := by
    rw [Flow.mem_stale, hp, hgen, Option.some_inj]
  have hedit : FlowSound (fun q => excused q ∧ q ≠ p) { f.emptied p with commit := .editing } :=
    (h.editing (c := .editing) fun _ hd => by cases hd).emptied fun _ hd => by cases hd
  have hunawaited (hno : ∀ d, s.commit = .waiting d → g ≠ prevGen s.ret.generation) :
      FlowSound (fun q => excused q ∧ q ≠ p) s.floor.flow :=
    hs ▸ h.emptied fun d hd hstale => hno d (hcommit.trans hd) (hmem.mp hstale)
  unfold reportClose
  split
  · next d hd =>
    split
    · next hg =>
      have hcard := (h.awaited d (hcommit ▸ hd)).1
      have herase : (f.emptied p).stale.card = d.awaited - 1 := by
        rw [Flow.stale_emptied, Finset.card_erase_of_mem (hmem.mpr hg), hcard]
      dsimp only
      split
      · next hlast =>
        rw [flow_completeCommit named rfl, flow_commit, hs]
        exact hedit.completed (Finset.card_eq_zero.mp (herase.trans hlast))
      · next hmore =>
        rw [flow_commit, hs]
        refine { hedit with awaited := ?_ }
        rintro _ ⟨⟩
        exact ⟨herase.symm, Nat.pos_of_ne_zero hmore⟩
    · next hg => exact hunawaited fun _ _ => hg
  · next hno => exact hunawaited fun d hd => absurd hd (hno d)

/-- A close at a port: the port is then excused no longer. -/
theorem closeSnapshotFor_flowSound {excused : CounterPort → Prop} {s : State} (named : List Nat) (p : CounterPort)
    (h : FlowSound excused s.floor.flow) :
    FlowSound (fun q => excused q ∧ q ≠ p) (closeSnapshotFor named p s).floor.flow := by
  unfold closeSnapshotFor
  split
  · next hnone =>
    have hcarried : (s.floor.flow.links p).carried = none := by
      show (s.port p).snapshot.map (·.generation) = none
      rw [hnone]; rfl
    refine { h with placed := fun q hq hsome => h.placed q (fun he => hq ⟨he, fun e => hsome ?_⟩) hsome }
    rw [e, hcarried]
  · next sn hsn =>
    refine reportClose_flowSound named h (p := p) ?_ ?_
    · show (s.port p).snapshot.map (·.generation) = some sn.generation
      rw [hsn]; rfl
    · rw [floor_removePreset]
      exact flow_setPort s p _

/-- A commit that enters WAITING (R78). -/
theorem enterWaiting_flowSound {excused : CounterPort → Prop} {s : State} (h : FlowSound excused s.floor.flow) :
    FlowSound excused (enterWaiting s).floor.flow := by
  have hedit := h.editing (c := .editing) fun _ hd => by cases hd
  unfold enterWaiting
  dsimp only
  split
  · next hnone =>
    rw [flow_completeCommit [] rfl, flow_commit]
    rw [staleOpen_eq] at hnone
    exact hedit.completed (Finset.card_eq_zero.mp hnone)
  · next hsome =>
    rw [flow_commit]
    refine { hedit with awaited := ?_ }
    rintro _ ⟨⟩
    rw [staleOpen_eq] at hsome ⊢
    exact ⟨rfl, Nat.pos_of_ne_zero hsome⟩

end Sys2Proof.Machine
end

section
/-! PROOFS. What moves tickets, orders, jobs and sale states leaves the flow; with the closes and openings of
snapshots this keeps the generations sound at every step. -/

namespace Sys2Proof.Machine

/-! ### Operations that leave the flow -/

theorem flow_eq {s t : State} (hgen : t.ret.generation = s.ret.generation) (hcommit : t.commit = s.commit)
    (hlinks : ∀ p, (t.port p).station.link = (s.port p).station.link) : t.floor.flow = s.floor.flow := by
  simp only [Floor.flow, State.floor, hgen, hcommit, hlinks]

theorem flow_ports {s : State} {v : Vector Port 14}
    (h : ∀ p : CounterPort, v[p].station.link = (s.port p).station.link) :
    ({ s with ports := v } : State).floor.flow = s.floor.flow := flow_eq rfl rfl h

theorem flow_modPort {f : Port → Port} (h : ∀ c, (f c).station.link = c.station.link) (p : CounterPort)
    (s : State) : (modPort p f s).floor.flow = s.floor.flow :=
  flow_eq rfl rfl fun q => by
    rw [modPort_port]
    split
    · next hq => rw [h, hq]
    · rfl

@[simp] theorem flow_setSale (p : CounterPort) (v : SaleState) (m : Option MsgCode) (s : State) :
    (setSale p v m s).floor.flow = s.floor.flow := flow_modPort (fun _ => by rfl) p s

@[simp] theorem flow_setService (p : CounterPort) (v : ServiceState) (s : State) :
    (setService p v s).floor.flow = s.floor.flow := flow_modPort (fun _ => by rfl) p s

@[simp] theorem flow_leaveCalling (p : CounterPort) (s : State) :
    (leaveCalling p s).floor.flow = s.floor.flow := by
  unfold leaveCalling
  split
  · rw [flow_setService]; rfl
  · rfl

@[simp] theorem flow_toIdle (p : CounterPort) (m : Option MsgCode) (s : State) :
    (toIdle p m s).floor.flow = s.floor.flow := by
  unfold toIdle
  split <;> simp

@[simp] theorem flow_setTicket (k : TicketNo) (r : TicketRec) (s : State) :
    (setTicket k r s).floor.flow = s.floor.flow := rfl

@[simp] theorem flow_freeTicket (k : TicketNo) (s : State) : (freeTicket k s).floor.flow = s.floor.flow := rfl

@[simp] theorem floor_showCall (k : TicketNo) (p : CounterPort) (n : Nat) (s : State) :
    (showCall k p n s).floor = s.floor :=
  floor_ports fun q => by
    simp only [Fin.getElem_fin, Vector.getElem_ofFn]
    split <;> rfl

@[simp] theorem flow_callTicket (k : TicketNo) (p : CounterPort) (n : Nat) (cause : CallCause) (s : State) :
    (callTicket k p n cause s).floor.flow = s.floor.flow := by simp [callTicket]

@[simp] theorem flow_skipTicket (k : TicketNo) (p : CounterPort) (s : State) :
    (skipTicket k p s).floor.flow = s.floor.flow := by
  refine Eq.trans ?_ (flow_setService p .free s)
  by_cases hroom : s.tickets.skipped.length < Config.maxSkipped
  · rw [skipTicket_room hroom]
    exact flow_eq rfl rfl fun _ => rfl
  · obtain ⟨o, rest, hlist⟩ := List.exists_cons_of_length_pos
      (Nat.lt_of_lt_of_le (by decide : 0 < Config.maxSkipped) (Nat.not_lt.mp hroom))
    rw [skipTicket_full hlist (Nat.not_lt.mp hroom)]
    exact flow_eq rfl rfl fun _ => rfl

@[simp] theorem flow_returnTicket (p : CounterPort) (s : State) :
    (returnTicket p s).floor.flow = s.floor.flow := by
  unfold returnTicket
  split
  · rfl
  · split
    · rw [flow_callTicket]; rfl
    · rfl

@[simp] theorem flow_modOrder (n : Nat) (f : Order → Order) (s : State) :
    (modOrder n f s).floor.flow = s.floor.flow := rfl

@[simp] theorem flow_freeOrder (o : Order) (s : State) : (freeOrder o s).floor.flow = s.floor.flow := rfl

@[simp] theorem flow_markLineVoided (n serial : Nat) (keyed : Bool) (s : State) :
    (markLineVoided n serial keyed s).floor.flow = s.floor.flow := by
  obtain h | ⟨o, -, h⟩ := markLineVoided_cases n serial keyed s <;> rw [h]
  rfl

@[simp] theorem flow_voidUnprinted (p : CounterPort) (s : State) (k : SlotNo) :
    (voidUnprinted p s k).floor.flow = s.floor.flow := by
  unfold voidUnprinted
  split
  · rfl
  · split
    · rfl
    · split
      · simp
      · dsimp only
        split
        · split <;> simp
        · simp

theorem flow_foldl {α : Type} {f : State → α → State} (h : ∀ s a, (f s a).floor.flow = s.floor.flow)
    (l : List α) (s : State) : (l.foldl f s).floor.flow = s.floor.flow :=
  foldl_keeps (g := fun s => s.floor.flow) h l s

@[simp] theorem flow_offlineSlots (p : CounterPort) (s : State) :
    (offlineSlots p s).floor.flow = s.floor.flow :=
  (flow_modPort (fun _ => by rfl) p _).trans (flow_foldl (flow_voidUnprinted p) _ s)

@[simp] theorem flow_offlineOrder (p : CounterPort) (s : State) :
    (offlineOrder p s).floor.flow = s.floor.flow := rfl

@[simp] theorem flow_offlineComposer (p : CounterPort) (s : State) :
    (offlineComposer p s).floor.flow = s.floor.flow := rfl

@[simp] theorem flow_offlineContext (p : CounterPort) (s : State) :
    (offlineContext p s).floor.flow = s.floor.flow := flow_modPort (fun _ => by rfl) p s

@[simp] theorem flow_freeComposer (s : State) : (freeComposer s).floor.flow = s.floor.flow := rfl

@[simp] theorem flow_joinComposer (j : Job) (s : State) : (joinComposer j s).floor.flow = s.floor.flow := by
  obtain ⟨-, h⟩ | ⟨-, h⟩ := joinComposer_cases j s <;> rw [h]
  · rw [floor_holdMessage]; rfl
  · rfl

theorem flow_enterPrinting (p : CounterPort) (r : SaleRecord) (s : State) :
    (enterPrinting p r s).floor.flow = s.floor.flow := by
  unfold enterPrinting
  rw [flow_joinComposer]
  exact flow_modPort (fun c => by cases hc : c.snapshot <;> simp [Port.station, Station.link, hc]) p s

theorem flow_tickets (s : State) (u : TicketUnit) : ({ s with tickets := u } : State).floor.flow = s.floor.flow :=
  rfl

theorem flow_placeTicket (k : TicketNo) (s : State) : (placeTicket k s).floor.flow = s.floor.flow := by
  unfold placeTicket
  split
  · rw [flow_callTicket, flow_tickets]
  · rw [flow_tickets]

theorem flow_issueTicket (p : CounterPort) (s : State) : (issueTicket p s).floor.flow = s.floor.flow := by
  unfold issueTicket
  dsimp only
  rw [flow_placeTicket, floor_deliver, floor_countGrand, flow_tickets, flow_setTicket]

theorem flow_takeRequestOp (p : CounterPort) (s : State) : (takeRequestOp p s).floor.flow = s.floor.flow := by
  unfold takeRequestOp
  split
  · simp
  · split
    · simp
    · exact flow_issueTicket p s

theorem flow_abandonOrder (o : Order) (s : State) : (abandonOrder o s).floor.flow = s.floor.flow := by
  simp [abandonOrder]

/-! ### The day's end -/

theorem flow_endOrderByDay (s : State) (o : Order) : (endOrderByDay s o).floor.flow = s.floor.flow := by
  unfold endOrderByDay
  dsimp only
  split <;> simp

theorem flow_endServiceLine (s : State) : (endServiceLine s).floor.flow = s.floor.flow :=
  flow_eq rfl rfl fun p => by
    simp only [endServiceLine, State.port, Fin.getElem_fin, Vector.getElem_ofFn]
    split <;> rfl

theorem flow_openNewDay (r : DayRecord) (s : State) : (openNewDay r s).floor.flow = s.floor.flow := by
  unfold openNewDay
  dsimp only
  rw [floor_markAllDisplays, floor_notify]
  exact flow_eq rfl rfl fun _ => rfl

theorem flow_completeDayClose (s : State) : (completeDayClose s).floor.flow = s.floor.flow := by
  rw [completeDayClose, flow_openNewDay, flow_endServiceLine, endLiveOrders, flow_foldl flow_endOrderByDay]
  rfl

@[simp] theorem flow_dayTest (s : State) : (dayTest s).floor.flow = s.floor.flow := by
  unfold dayTest
  split
  · exact flow_completeDayClose s
  · rfl

theorem flow_beginClose (s : State) : (beginClose s).floor.flow = s.floor.flow := by
  rw [beginClose, flow_dayTest, floor_markAllDisplays]
  rfl

theorem flow_dayCloseOp (tag : Nat) (s : State) : (dayCloseOp tag s).floor.flow = s.floor.flow := by
  unfold dayCloseOp
  split
  · rfl
  · exact flow_beginClose s

/-! ### Service keys, orders, operators, reports -/

theorem flow_serviceKey {own : State → State} (h : ∀ s, (own s).floor.flow = s.floor.flow) (p : CounterPort)
    (m : Option MsgCode) (s : State) : (serviceKey p m own s).floor.flow = s.floor.flow := by
  unfold serviceKey
  split
  · simp
  · exact h s

theorem flow_withCalled {f : TicketNo → State → State} (h : ∀ k s, (f k s).floor.flow = s.floor.flow)
    (p : CounterPort) (s : State) : (withCalled p f s).floor.flow = s.floor.flow := by
  unfold withCalled
  split
  · simp
  · exact h _ s

theorem flow_withOpenOrder {f : Order → State → State} (h : ∀ o s, (f o s).floor.flow = s.floor.flow)
    (p : CounterPort) (s : State) : (withOpenOrder p f s).floor.flow = s.floor.flow := by
  unfold withOpenOrder
  split
  · split
    · simp
    · exact h _ s
  · simp

theorem flow_nextOp (p : CounterPort) (s : State) : (nextOp p s).floor.flow = s.floor.flow :=
  flow_serviceKey (fun s => by
    unfold askNext
    dsimp only
    split
    · rw [flow_callTicket, flow_tickets, floor_clearHeld]
    · rw [flow_setService, flow_tickets, floor_clearHeld]) p _ s

theorem flow_serveOp (p : CounterPort) (s : State) : (serveOp p s).floor.flow = s.floor.flow :=
  flow_serviceKey (flow_withCalled (fun k s => by
    unfold serveTicket
    split
    · simp
    · exact ((flow_setService p _ _).trans (flow_eq (s := clearHeld p s) rfl rfl fun _ => rfl)).trans
        (congrArg Floor.flow (floor_clearHeld p s))) p) p _ s

theorem flow_recallOp (p : CounterPort) (s : State) : (recallOp p s).floor.flow = s.floor.flow :=
  flow_serviceKey (flow_withCalled (fun k s => by
    unfold recallTicket
    split <;> simp) p) p _ s

theorem flow_skipOp (p : CounterPort) (s : State) : (skipOp p s).floor.flow = s.floor.flow :=
  flow_serviceKey (flow_withCalled (fun k s => by simp) p) p _ s

theorem flow_recallSkippedOp (p : CounterPort) (n : Nat) (s : State) :
    (recallSkippedOp p n s).floor.flow = s.floor.flow :=
  flow_serviceKey (fun s => by
    unfold recallSkipped
    split
    · simp
    · split
      · simp only [flow_callTicket, floor_clearHeld]; rfl
      · simp) p _ s

theorem flow_cancelNextOp (p : CounterPort) (s : State) : (cancelNextOp p s).floor.flow = s.floor.flow := by
  unfold cancelNextOp
  split <;> simp

theorem flow_parkOrder (p : CounterPort) (o : Order) (s : State) :
    (parkOrder p o s).floor.flow = s.floor.flow := by simp [parkOrder]

theorem flow_pickupOp (p : CounterPort) (n : Nat) (s : State) : (pickupOp p n s).floor.flow = s.floor.flow :=
  flow_serviceKey (fun s => by
    unfold pickupOrder
    split <;> simp) p _ s

theorem flow_closeOrder (p : CounterPort) (o : Order) (s : State) :
    (closeOrder p o s).floor.flow = s.floor.flow := by
  unfold closeOrder closeEmpty queueSummary
  split
  · simp
  · split
    · simp
    · split <;> simp

theorem flow_switchReport (p : CounterPort) (sw : Switch) (s : State) :
    (switchReport p sw s).floor.flow = s.floor.flow := by
  have hswitch : (modPort p (fun c => { c with calSwitch := sw }) s).floor.flow = s.floor.flow :=
    flow_modPort (fun _ => by rfl) p s
  unfold switchReport
  dsimp only
  split
  · rfl
  · split <;> simp [hswitch]

theorem flow_statusOp (p : CounterPort) (sw : Switch) (pr : PrinterCondition) (s : State) :
    (statusOp p sw pr s).floor.flow = s.floor.flow := by
  unfold statusOp
  split
  · simp [flow_switchReport]
  · rfl

theorem flow_logoutAt (q : CounterPort) (s : State) : (logoutAt q s).floor.flow = s.floor.flow := by
  have hout : (modPort q (fun c => { c with operator := none, displayDue := true }) s).floor.flow = s.floor.flow :=
    flow_modPort (fun _ => by rfl) q s
  unfold logoutAt
  dsimp only
  split <;> simp [hout]

theorem flow_logoutOp (p : CounterPort) (s : State) : (logoutOp p s).floor.flow = s.floor.flow := by
  have hout : (modPort p (fun c => { c with operator := none, held := none, displayDue := true }) s).floor.flow =
      s.floor.flow := flow_modPort (fun _ => by rfl) p s
  unfold logoutOp
  dsimp only
  split <;> simp [hout]

theorem flow_loginAt (p : CounterPort) (k : OperatorNo) (s : State) :
    (loginAt p k s).floor.flow = s.floor.flow := by
  have hin : (modPort p (fun c => { c with operator := some k, held := none, displayDue := true }) s).floor.flow =
      s.floor.flow := flow_modPort (fun _ => by rfl) p s
  unfold loginAt
  dsimp only
  split <;> simp [hin]

theorem flow_loginOp (p : CounterPort) (n : Nat) (s : State) : (loginOp p n s).floor.flow = s.floor.flow := by
  unfold loginOp
  split
  · simp
  · dsimp only
    rw [flow_loginAt]
    split
    · split
      · exact flow_logoutAt _ s
      · rfl
    · rfl
  · rfl

theorem flow_voidOp (p : CounterPort) (n : Nat) (s : State) : (voidOp p n s).floor.flow = s.floor.flow := by
  unfold voidOp
  split
  · simp
  · unfold acceptVoid
    dsimp only
    split <;> simp

theorem flow_reprintOp (p : CounterPort) (n : Nat) (s : State) :
    (reprintOp p n s).floor.flow = s.floor.flow := by
  unfold reprintOp
  split <;> simp

theorem flow_printOp (p : CounterPort) (s : State) : (printOp p s).floor.flow = s.floor.flow := by
  unfold printOp
  split
  · simp
  · exact flow_enterPrinting p _ s

end Sys2Proof.Machine
end

section
/-! PROOFS. Generations (R71, R78 to R80): every command keeps them sound. -/

namespace Sys2Proof.Machine

/-! ### Closes, cancels and drains -/

theorem GenerationsSound.flowSound {s : State} (h : GenerationsSound s) : FlowSound nobody s.floor.flow :=
  (generationsSound_iff s).mp h

theorem FlowSound.generationsSound {s : State} (h : FlowSound nobody s.floor.flow) : GenerationsSound s :=
  (generationsSound_iff s).mpr h

/-- Off a WAITING commit nothing is asked of the commit. -/
theorem GenerationsSound.editing {s : State} (h : GenerationsSound s) {c : CommitState}
    (hc : ∀ d, c ≠ .waiting d) : GenerationsSound { s with commit := c } :=
  (h.flowSound.editing hc).generationsSound (s := { s with commit := c })

theorem GenerationsSound.recounted {s : State} (h : GenerationsSound s) {d : CommitDrain} (hd : s.commit = .waiting d)
    (d' : CommitDrain) (hawaited : d'.awaited = d.awaited) : GenerationsSound { s with commit := .waiting d' } :=
  (h.flowSound.recounted hd hawaited).generationsSound (s := { s with commit := .waiting d' })

theorem GenerationsSound.composer {s : State} (h : GenerationsSound s) (c : Composer) :
    GenerationsSound { s with composer := c } := h.congr rfl

theorem GenerationsSound.free {s : State} (h : GenerationsSound s) (n : Nat) :
    GenerationsSound { s with free := n } := h.congr rfl

theorem closeSnapshotFor_generations {s : State} (h : GenerationsSound s) (named : List Nat) (p : CounterPort) :
    GenerationsSound (closeSnapshotFor named p s) :=
  ((closeSnapshotFor_flowSound named p h.flowSound).excuse fun _ he => he.1).generationsSound

theorem enterWaiting_generations {s : State} (h : GenerationsSound s) : GenerationsSound (enterWaiting s) :=
  (enterWaiting_flowSound h.flowSound).generationsSound

theorem forcedCancel_generations {s : State} (h : GenerationsSound s) (m : MsgCode) (p : CounterPort) :
    GenerationsSound (forcedCancel m p s) := by
  have hcount : GenerationsSound (countBoth p { forcedCancels := 1 } { forcedCancels := 1 } s) := h.congr (by simp)
  unfold forcedCancel
  dsimp only
  refine GenerationsSound.congr ?_ (flow_toIdle _ _ _)
  refine closeSnapshotFor_generations ?_ [] p
  split
  · next d hd =>
    exact hcount.recounted hd { d with forced := d.forced + 1 } rfl
  · exact hcount

theorem foldl_generations {α : Type} {f : State → α → State} (hf : ∀ s a, GenerationsSound s → GenerationsSound (f s a))
    (l : List α) {s : State} (h : GenerationsSound s) : GenerationsSound (l.foldl f s) := by
  induction l generalizing s with
  | nil => exact h
  | cons a l ih => exact ih (hf s a h)

/-- A sound WAITING commit awaits a snapshot, so it is not drained. -/
theorem completeIfDrained_of_generations {s : State} (h : GenerationsSound s) : completeIfDrained s = s := by
  unfold completeIfDrained
  split
  · next d hd => exact if_neg (Nat.pos_iff_ne_zero.mp (h.awaited d hd).2)
  · rfl

theorem commitDrainExpired_generations {s : State} (h : GenerationsSound s) :
    GenerationsSound (commitDrainExpired s) := by
  unfold commitDrainExpired
  split
  · next d hd =>
    have hexpired : GenerationsSound { s with commit := .waiting { d with timer := 0, expired := true } } :=
      h.recounted hd _ rfl
    have hcancelled := foldl_generations (fun s p hs => forcedCancel_generations hs .priceChanged p)
      (stationsInItem { s with commit := .waiting { d with timer := 0, expired := true } } fun sn =>
        sn.generation == prevGen s.ret.generation) hexpired
    exact (completeIfDrained_of_generations hcancelled).symm ▸ hcancelled
  · exact h

theorem closeDrainExpired_generations {s : State} (h : GenerationsSound s) :
    GenerationsSound (closeDrainExpired s) := by
  have hexpired : GenerationsSound { s with dayState := .closing 0 true } := h.congr rfl
  exact GenerationsSound.congr
    (foldl_generations (fun s p hs => forcedCancel_generations hs .dayClosing p) _ hexpired) (flow_dayTest _)

theorem activationTest_generations {s : State} (h : GenerationsSound s) : GenerationsSound (activationTest s) := by
  unfold activationTest activateCommit
  split
  · split
    · exact enterWaiting_generations h
    · refine GenerationsSound.congr (h.editing (c := .editing) fun _ hd => by cases hd) ?_
      simp
  · exact h

/-! ### Sales -/

theorem reportClose_links (named : List Nat) (g : Nat) (s : State) :
    (reportClose named g s).floor.flow.links = s.floor.flow.links := by
  obtain h | ⟨d, -, -, ⟨-, h⟩ | ⟨-, h⟩⟩ := reportClose_cases named g s <;> rw [h]
  · rfl
  · rw [flow_completeCommit named rfl]
    rfl

theorem closeSnapshotFor_links (named : List Nat) (p : CounterPort) (s : State) :
    (closeSnapshotFor named p s).floor.flow.links = (s.floor.flow.emptied p).links := by
  unfold closeSnapshotFor
  split
  · next hnone =>
    funext q
    rw [Flow.emptied, Flow.relink_links]
    split
    · next hq =>
      subst hq
      show Link.mk _ _ _ _ = Link.mk _ _ _ _
      congr 1
      show (s.port q).snapshot.map (·.generation) = none
      rw [hnone]; rfl
    · rfl
  · rw [reportClose_links, floor_removePreset]
    exact congrArg Flow.links (flow_setPort s p _)

theorem openSnapshot_flow (p : CounterPort) (r : ItemRecord) (s : State) :
    (openSnapshot p r s).floor.flow =
      s.floor.flow.relink p { s.floor.flow.links p with carried := some s.ret.generation } := by
  unfold openSnapshot
  dsimp only
  rw [flow_modPort (fun _ => by rfl), floor_reprice, floor_offerPreset]
  exact flow_setPort s p _

theorem pluOp_generations {s : State} (h : GenerationsSound s) {p : CounterPort} (hp : ScaleOnline s p) (n : Nat) :
    GenerationsSound (pluOp p n s) := by
  unfold pluOp
  split
  · exact h.congr (by simp)
  · have hclosed := closeSnapshotFor_generations h [n] p
    have hlink : (closeSnapshotFor [n] p s).floor.flow.links p = { s.floor.flow.links p with carried := none } := by
      rw [closeSnapshotFor_links, Flow.emptied, Flow.relink_links, if_pos rfl]
    obtain ⟨-, honline, hkind⟩ := hp
    dsimp only
    refine FlowSound.generationsSound ?_
    rw [openSnapshot_flow]
    exact hclosed.flowSound.opened (by rw [hlink]) (by rw [hlink]; exact honline) (by rw [hlink]; exact hkind)

theorem cancelOp_generations {s : State} (h : GenerationsSound s) (p : CounterPort) :
    GenerationsSound (cancelOp p s) := by
  unfold cancelOp
  split
  · exact (closeSnapshotFor_generations h [] p).congr (by simp [closeSnapshot])
  · exact h.congr (by simp)

theorem issueItem_generations {s : State} (h : GenerationsSound s) (p : CounterPort) (sr : SaleRecord) :
    GenerationsSound (issueItem p sr s) := by
  unfold issueItem
  dsimp only
  refine GenerationsSound.congr ?_ ((flow_toIdle _ _ _).trans (flow_modPort (fun _ => by rfl) p _))
  refine closeSnapshotFor_generations (h.congr ?_) [] p
  rw [floor_notify]
  split
  · simp [appendLine]
  · simp

theorem issueSummary_generations {s : State} (h : GenerationsSound s) (p : CounterPort) (o : Order) :
    GenerationsSound (issueSummary p o s) := h.congr (by simp [issueSummary])

theorem refuseItem_generations {s : State} (h : GenerationsSound s) (p : CounterPort) (m : MsgCode) :
    GenerationsSound (refuseItem p m s) := by
  have hitem : GenerationsSound
      (reprice p (setSale p .item (some m) (modPort p (fun c => { c with record := none }) s))) := by
    refine h.congr ?_
    rw [floor_reprice, flow_setSale]
    exact flow_modPort (fun _ => by rfl) p s
  unfold refuseItem
  dsimp only
  split
  · exact forcedCancel_generations hitem _ p
  · exact hitem

theorem reportRefusal_generations {s : State} (h : GenerationsSound s) (j : Job) (m : MsgCode) :
    GenerationsSound (reportRefusal j m s) := by
  unfold reportRefusal
  split
  · exact refuseItem_generations h _ m
  · exact h.congr (by simp)
  · exact h.congr (by simp [refuseSummary])

theorem takeDecision_generations {s : State} (h : GenerationsSound s) : GenerationsSound (takeDecision s) := by
  unfold takeDecision
  split
  · next j n _ _ =>
    have htaken := (h.composer { s.composer with
      queue := s.composer.queue.filter fun k => k.station ≠ j.station, serviceCount := n }).congr
        (congrArg Floor.flow (floor_clearPrinterBusy j.station _))
    unfold startComposition
    split
    · exact htaken.composer _
    · exact (reportRefusal_generations (htaken.free _) j _).congr (flow_dayTest _)
  · exact h

theorem postOutcome_generations {p : CounterPort} {l : SlotLabel} {after : State → State} {s t : State}
    (h : GenerationsSound s) (hafter : ∀ u, GenerationsSound u → GenerationsSound (after u))
    (ht : postOutcome p l after s = .ok t) : GenerationsSound t := by
  unfold postOutcome at ht
  split at ht
  · cases ht
  · cases ht
    exact (hafter _ (h.congr (congrArg Floor.flow (floor_postLabel p _ l s)))).congr
      (congrArg Floor.flow (floor_feedPrinter p _))

theorem completeJob_generations {c : Composition} {s t : State} (h : GenerationsSound s)
    (ht : completeJob c s = .ok t) : GenerationsSound t := by
  unfold completeJob at ht
  dsimp only at ht
  split at ht
  · split at ht
    · cases ht; exact refuseItem_generations h _ _
    · exact postOutcome_generations h (fun u hu => issueItem_generations hu _ _) ht
  · split at ht
    · cases ht; exact h.congr (by simp)
    · split at ht
      · cases ht; exact h.congr (by simp)
      · exact postOutcome_generations h (fun u hu => hu.congr (by simp)) ht
  · split at ht
    · cases ht
    · split at ht
      · cases ht; exact h.congr (by simp [refuseSummary])
      · exact postOutcome_generations h (fun u hu => issueSummary_generations hu _ _) ht

end Sys2Proof.Machine
end

section
/-! PROOFS. One walk over the commands for every invariant of the floor: what its operations must keep, and that
then every step keeps it. -/

namespace Sys2Proof.Machine

/-- A station at which the gate lets a sales key through (R11). -/
def KeyAt (s : State) (p : CounterPort) : Prop :=
  ScaleOnline s p ∧ ((s.port p).sale = .idle ∨ (s.port p).sale = .item)

/-- A station in IDLE that may be given a key. -/
def IdleAt (s : State) (p : CounterPort) : Prop := ScaleOnline s p ∧ (s.port p).sale = .idle

/-- A station at which the gate lets LOGIN through (R11). -/
def LogAt (s : State) (p : CounterPort) : Prop :=
  ScaleOnline s p ∧ (s.port p).sale ≠ .item ∧ (s.port p).sale ≠ .printing

/-- An invariant of the floor, each operation that can change the floor keeping it in the states the operation
is reached from. -/
structure KeptByOps (I : State → Prop) : Prop where
  congr : ∀ {s t : State}, I s → t.floor = s.floor → I t
  upOnline : ∀ {s : State} {p : CounterPort}, I s → (s.port p).online = true → (s.port p).state = .up
  portDown : ∀ {s : State} {p : CounterPort}, I s → (s.port p).online = false → I (portDown p s)
  goOffline : ∀ {s : State} {p : CounterPort} (cause : StationCause), I s → (s.port p).online = true →
    I (goOffline p cause s)
  dayTest : ∀ {s : State}, I s → I (dayTest s)
  attach : ∀ {s : State} {p : CounterPort} (k : DeviceKind) (sw : Switch) (pr : PrinterCondition), I s →
    (s.port p).online = false → I (attach p k sw pr s)
  switchReport : ∀ {s : State} {p : CounterPort} (sw : Switch), I s → ScaleOnline s p → I (switchReport p sw s)
  loginOp : ∀ {s : State} {p : CounterPort} (n : Nat), I s → LogAt s p → I (loginOp p n s)
  logoutOp : ∀ {s : State} {p : CounterPort}, I s → LogAt s p → I (logoutOp p s)
  pluOp : ∀ {s : State} {p : CounterPort} (n : Nat), I s → KeyAt s p → I (pluOp p n s)
  printOp : ∀ {s : State} {p : CounterPort}, I s → KeyAt s p → I (printOp p s)
  cancelOp : ∀ {s : State} {p : CounterPort}, I s → KeyAt s p → I (cancelOp p s)
  voidOp : ∀ {s : State} {p : CounterPort} (n : Nat), I s → IdleAt s p → I (voidOp p n s)
  reprintOp : ∀ {s : State} {p : CounterPort} (n : Nat), I s → IdleAt s p → I (reprintOp p n s)
  nextOp : ∀ {s : State} {p : CounterPort}, I s → IdleAt s p → I (nextOp p s)
  serveOp : ∀ {s : State} {p : CounterPort}, I s → IdleAt s p → I (serveOp p s)
  recallOp : ∀ {s : State} {p : CounterPort}, I s → IdleAt s p → I (recallOp p s)
  skipOp : ∀ {s : State} {p : CounterPort}, I s → IdleAt s p → I (skipOp p s)
  recallSkippedOp : ∀ {s : State} {p : CounterPort} (n : Nat), I s → IdleAt s p → I (recallSkippedOp p n s)
  cancelNextOp : ∀ {s : State} {p : CounterPort}, I s → IdleAt s p → I (cancelNextOp p s)
  parkOp : ∀ {s : State} {p : CounterPort}, I s → IdleAt s p → I (withOpenOrder p (parkOrder p) s)
  pickupOp : ∀ {s : State} {p : CounterPort} (n : Nat), I s → IdleAt s p → I (pickupOp p n s)
  closeOrderOp : ∀ {s : State} {p : CounterPort}, I s → IdleAt s p → I (withOpenOrder p (closeOrder p) s)
  takeRequestOp : ∀ {s : State} {p : CounterPort}, I s → I (takeRequestOp p s)
  takeDecision : ∀ {s : State}, I s → I (takeDecision s)
  discard : ∀ {s : State} {c : Composition}, I s → s.composer.current = some c → c.dropped = true →
    I (freeComposer s)
  completeJob : ∀ {s t : State} {c : Composition}, I s → s.composer.current = some c → c.dropped = false →
    completeJob c (freeComposer s) = .ok t → I t
  skipTicket : ∀ {s : State} {k : TicketNo} {p : CounterPort} {n : Nat}, I s →
    (s.ticket k).state = .called p n → I (skipTicket k p s)
  abandonOrder : ∀ {s : State} {n : Nat} {o : Order}, I s → orderOf s.orders n = some o → o.state = .parked →
    I (abandonOrder o s)
  tickCounts : ∀ {s : State}, I s → I (tickCounts s)
  activationTest : ∀ {s : State}, I s → I (activationTest s)
  commitDrainExpired : ∀ {s : State}, I s → I (commitDrainExpired s)
  completeIfDrained : ∀ {s : State}, I s → I (completeIfDrained s)
  closeDrainExpired : ∀ {s : State}, I s → I (closeDrainExpired s)
  acceptCommit : ∀ {s : State} (a : Option (Date × Nat)), I s → I (acceptCommit a s)
  abortCommit : ∀ {s : State}, I s → I { s with commit := .editing }
  beginClose : ∀ {s : State}, I s → I (beginClose s)
  reset : ∀ {s : State} (l : List Instr) (r : Retained) (c : Clock) (q : NoticeQueue) (n : Nat), I s →
    r.generation = s.ret.generation ∨ r.generation = 0 → I (State.afterReset l r c q n)

/-! ### A station that has gone OFFLINE -/

theorem online_of_flow {s t : State} (p : CounterPort)
    (h : (t.floor.flow.links p).online = (s.floor.flow.links p).online) :
    (t.port p).online = (s.port p).online := h

theorem closeSnapshot_online (p q : CounterPort) (s : State) :
    ((closeSnapshot p s).port q).online = (s.port q).online := by
  refine online_of_flow q ?_
  rw [closeSnapshot, closeSnapshotFor_links, Flow.emptied, Flow.relink_links]
  split
  · next h => rw [h]
  · rfl

/-- The cancel of an open snapshot counted at its station's offline event, and the free value of log 18 taken. -/
def offlineCounted (p : CounterPort) (s : State) : State :=
  let s1 := if closeCompletes p s then { s with free := s.free + 1 } else s
  if (s.port p).snapshot.isSome then countBoth p { offlineCancels := 1 } { offlineCancels := 1 } s1 else s1

/-- The first part of a scale's offline event, with the close where it comes first (log 18). -/
def offlineStart (p : CounterPort) (s : State) : State :=
  if closeCompletes p s && Config.freeBit s.free then closeSnapshot p (offlineCounted p s) else offlineCounted p s

theorem offlineScale_eq (p : CounterPort) (s : State) : offlineScale p s =
    offlineContext p (closeSnapshot p (offlineComposer p (offlineOrder p (returnTicket p (leaveCalling p
      (offlineSlots p (offlineStart p s))))))) := rfl

@[simp] theorem floor_offlineCounted (p : CounterPort) (s : State) : (offlineCounted p s).floor = s.floor := by
  have hfree : (if closeCompletes p s then { s with free := s.free + 1 } else s).floor = s.floor := by
    split <;> rfl
  unfold offlineCounted
  dsimp only
  split
  · exact (floor_countBoth p _ _ _).trans hfree
  · exact hfree

theorem offlineStart_online (p q : CounterPort) (s : State) :
    ((offlineStart p s).port q).online = (s.port q).online := by
  have hcounted : ((offlineCounted p s).port q).online = (s.port q).online :=
    online_of_flow q (by rw [floor_offlineCounted])
  unfold offlineStart
  split
  · rw [closeSnapshot_online, hcounted]
  · exact hcounted

theorem offlineScale_online (p q : CounterPort) (s : State) :
    ((offlineScale p s).port q).online = (s.port q).online := by
  rw [offlineScale_eq, online_of_flow (s := closeSnapshot p _) q (by rw [flow_offlineContext]),
    closeSnapshot_online, online_of_flow (s := offlineStart p s) q (by simp), offlineStart_online]

theorem goOffline_offline (p : CounterPort) (cause : StationCause) (s : State) :
    ((goOffline p cause s).port p).online = false := by
  have hlink : ((offlineLink p s).port p).online = false := by simp [offlineLink]
  unfold goOffline
  dsimp only
  rw [notify_port]
  split
  · rw [offlineScale_online]; exact hlink
  · exact hlink

theorem emptyArea_generation (r : Retained) (a : Area) :
    (emptyArea r a).generation = r.generation ∨ (emptyArea r a).generation = 0 := by
  cases a <;> simp [emptyArea]

namespace KeptByOps
variable {I : State → Prop} (hI : KeptByOps I) {s t : State} {p : CounterPort}
include hI

theorem flush (h : I s) : I (flush s) := hI.congr h (floor_flush s)

/-! ### Frames and keys -/

theorem handOn {accepts : Option DeviceKind → Bool} {own : State → State} (h : I s)
    (hown : ∀ u, I u → (u.port p).state = .up → (u.port p).online = true → accepts (u.port p).kind = true →
      I (own u)) : I (handOn p accepts own s) := by
  unfold Machine.handOn
  dsimp only
  split
  · exact hI.congr h (floor_modPort (fun _ => by rfl) p s)
  · exact hI.congr h (floor_protocolError p s)
  · next hup =>
    split
    · next honline =>
      split
      · next hkind =>
        refine hown _ (hI.congr h (floor_reloadSupervision p s)) ?_ ?_ ?_ <;>
          simp [reloadSupervision, hup, honline, hkind]
      · exact hI.congr h (floor_protocolError p s)
    · exact h

theorem keyEvent {gate : Port → Option MsgCode} {own : State → State} (h : I s)
    (hown : ∀ u, I u → ScaleOnline u p → gate (u.port p) = none → I (own u)) : I (keyEvent p gate own s) := by
  refine hI.flush (hI.handOn h fun u hu hup honline hkind => ?_)
  refine hI.congr (s := match gate (u.port p) with | some m => refuseKey p m u | none => own u) ?_
    (floor_markDisplay p _)
  split
  · exact hI.congr hu (floor_refuseKey p _ u)
  · next hgate => exact hown u hu ⟨hup, honline, by simpa [scaleOnly] using hkind⟩ hgate

theorem salesKey {own : State → State} (h : I s) (hown : ∀ u, I u → KeyAt u p → I (own u)) :
    I (Machine.keyEvent p salesGate own s) := by
  refine hI.keyEvent h fun u hu hp hgate => hown u hu ⟨hp, ?_⟩
  unfold salesGate at hgate
  split at hgate <;> simp_all

theorem idleKey {own : State → State} (h : I s) (hown : ∀ u, I u → IdleAt u p → I (own u)) :
    I (Machine.keyEvent p salesGate (idleOnly p own) s) := by
  refine hI.salesKey h fun u hu ⟨hp, hsale⟩ => ?_
  unfold idleOnly
  split
  · exact hI.congr hu (floor_refuseKey p .busy u)
  · next hitem => exact hown u hu ⟨hp, hsale.resolve_right hitem⟩

theorem logKey {own : State → State} {b : Bool} (h : I s) (hown : ∀ u, I u → LogAt u p → I (own u)) :
    I (Machine.keyEvent p (logGate · b) own s) := by
  refine hI.keyEvent h fun u hu hp hgate => hown u hu ⟨hp, ?_⟩
  unfold logGate at hgate
  split at hgate <;> simp_all

/-! ### Requests -/

theorem arrive {own : State → State} {i : Instr} (h : I s) (hown : ∀ u, I u → I (own u)) :
    I (arrive i own s) := by
  unfold Machine.arrive
  split
  · exact h
  · split
    · exact hI.flush (hown _ (hI.congr h rfl))
    · split
      · exact hI.congr h rfl
      · exact hI.congr h rfl

theorem requestOp (i : Instr) (h : I s) : I (requestOp i s) := by
  by_cases hoff : OffFloor i
  · exact hI.congr h (floor_requestOp hoff s)
  · cases i
    case commit tag a =>
      change I (commitOp tag a s)
      unfold commitOp
      split
      · exact hI.congr h (floor_refuseRequest _ _ s)
      · exact hI.congr (hI.acceptCommit a h) (floor_reply _ _ _ _)
    case commitAbort tag =>
      change I (commitAbortOp tag s)
      unfold commitAbortOp
      split
      · exact hI.congr h (floor_refuseRequest _ _ s)
      · exact hI.congr (hI.abortCommit h) (floor_reply _ _ _ _)
    case dayClose tag =>
      change I (dayCloseOp tag s)
      unfold dayCloseOp
      split
      · exact hI.congr h (floor_refuseRequest _ _ s)
      · exact hI.congr (hI.beginClose h) (floor_reply _ _ _ _)
    case timeSet tag d n =>
      change I (timeSetOp tag d n s)
      unfold timeSetOp
      split
      · exact hI.congr h (floor_refuseRequest _ _ s)
      · exact hI.activationTest (hI.congr h rfl)
    all_goals exact absurd trivial hoff

theorem takeWaiting (h : I s) : I (takeWaiting s) := by
  unfold Machine.takeWaiting
  split
  · exact h
  · split
    · exact hI.flush (hI.requestOp _ (hI.congr h rfl))
    · exact h

theorem transmit (h : I s) : I (transmit s) := by
  unfold Machine.transmit
  split
  · split
    · unfold sendReply replySent
      dsimp only
      split
      · exact hI.congr h rfl
      · split
        · refine hI.congr (s := State.afterReset s.pending s.ret s.clock NoticeQueue.fresh s.free) ?_ rfl
          exact hI.reset _ _ _ _ _ h (.inl rfl)
        · exact hI.takeWaiting (hI.congr h rfl)
    · exact hI.congr h rfl
    · exact h
  · exact h

theorem powerUp (found : List (Area × Nat)) (h : I s) : I (powerUp found s) := by
  have hkept (l : List Area) (r : Retained) : (l.foldl emptyArea r).generation = r.generation ∨
      (l.foldl emptyArea r).generation = 0 := by
    induction l generalizing r with
    | nil => exact .inl rfl
    | cons a l ih =>
      obtain h' | h' := ih (emptyArea r a)
      · rw [List.foldl_cons, h']
        exact emptyArea_generation r a
      · exact .inr h'
  unfold Machine.powerUp
  dsimp only
  refine hI.reset _ _ _ _ _ h ?_
  generalize failedAreas found s.ret = l
  exact hkept l s.ret

/-! ### Lines and supervision -/

theorem lineDrop (h : I s) (ht : execLineDrop p s = .next t) : I t := by
  have hoffline (honline : ¬ (s.port p).online = true) : I (Machine.portDown p s) :=
    hI.portDown h (by simpa using honline)
  unfold execLineDrop at ht
  split at ht
  · cases ht; exact h
  · next hrefused =>
    cases ht
    exact hoffline fun honline => by simp [hI.upOnline h honline] at hrefused
  · obtain ⟨honline, rfl⟩ | ⟨honline, rfl⟩ := next_of_ite ht
    · refine hI.flush (hI.dayTest (hI.portDown (hI.goOffline _ h honline) ?_))
      exact goOffline_offline p _ s
    · exact hoffline honline

theorem helloOp (k : DeviceKind) (sw : Switch) (pr : PrinterCondition) (h : I s) : I (helloOp p k sw pr s) := by
  unfold Machine.helloOp
  split
  · exact hI.congr h (floor_modPort (fun _ => by rfl) p s)
  · next hdown =>
    refine hI.attach k sw pr h (Bool.eq_false_iff.mpr fun honline => ?_)
    simp [hI.upOnline h honline] at hdown
  · split
    · next honline =>
      refine hI.attach k sw pr (hI.dayTest (hI.goOffline _ h honline)) ?_
      rw [online_of_flow (s := Machine.goOffline p .restart s) p (by rw [flow_dayTest])]
      exact goOffline_offline p _ s
    · next honline => exact hI.attach k sw pr h (by simpa using honline)

theorem supervisionRunOut (h : I s) (honline : (s.port p).online = true) : I (supervisionRunOut p s) := by
  have hzero : (modPort p (fun c => { c with supervision := 0 }) s).floor = s.floor :=
    floor_modPort (fun _ => by rfl) p s
  refine hI.dayTest (hI.goOffline _ (hI.congr h hzero) ?_)
  exact (online_of_flow (s := s) p (by rw [hzero])).trans honline

/-! ### The tick -/

theorem takeTickEvent (e : TickEvent) (h : I s) : I (takeTickEvent s e) := by
  unfold Machine.takeTickEvent
  split
  · next hdue =>
    refine hI.flush ?_
    cases e with
    | supervision p =>
      simp only [tickDue, Bool.and_eq_true, decide_eq_true_eq] at hdue
      exact hI.supervisionRunOut h hdue.1
    | call k =>
      simp only [runTickEvent]
      split
      · next p hp =>
        refine hI.skipTicket (n := 0) h ?_
        unfold timedOut at hp
        split at hp
        · next hstate => cases hp; exact hstate
        · cases hp
      · exact h
    | abandon n =>
      simp only [runTickEvent]
      split
      · next o ho =>
        simp only [tickDue, ho, Option.any_some, parkedOut, Bool.and_eq_true, decide_eq_true_eq] at hdue
        exact hI.abandonOrder h ho hdue.1
      · exact h
    | activation => exact hI.activationTest h
    | commitDrain => exact hI.commitDrainExpired h
    | closeDrain => exact hI.closeDrainExpired h
  · exact h

theorem clockTick (h : I s) : I (clockTick s) := by
  have hclock : I (tickClock s) := by
    refine hI.congr h ?_
    unfold tickClock
    dsimp only
    split
    · rw [floor_notify]; rfl
    · rfl
  have hfold (l : List TickEvent) : ∀ u, I u → I (l.foldl Machine.takeTickEvent u) := by
    induction l with
    | nil => exact fun _ hu => hu
    | cons e l ih => exact fun u hu => ih _ (hI.takeTickEvent e hu)
  exact hfold _ _ (hI.congr (hI.tickCounts hclock) rfl)

/-! ### Every command -/

theorem compositionComplete (h : I s) (ht : execCompositionComplete s = .next t) : I t := by
  unfold execCompositionComplete at ht
  split at ht
  · cases ht; exact h
  · next c hc =>
    dsimp only at ht
    split at ht
    · next hdropped =>
      cases ht
      exact hI.flush (hI.dayTest (hI.discard h hc hdropped))
    · next hdropped =>
      split at ht
      · next hjob =>
        cases ht
        exact hI.flush (hI.dayTest (hI.completeJob h hc (by simpa using hdropped) hjob))
      · cases ht

theorem callTimeout {k : TicketNo} (h : I s) (ht : execCallTimeout k s = .next t) : I t := by
  unfold execCallTimeout at ht
  split at ht
  · next hcalled =>
    obtain ⟨-, rfl⟩ | ⟨-, rfl⟩ := next_of_ite ht
    · exact hI.skipTicket h hcalled
    · exact h
  · cases ht; exact h

theorem orderAbandoned {n : Nat} (h : I s) (ht : execOrderAbandoned n s = .next t) : I t := by
  unfold execOrderAbandoned at ht
  split at ht
  · cases ht; exact h
  · next ho =>
    obtain ⟨hparked, rfl⟩ | ⟨-, rfl⟩ := next_of_ite ht
    · exact hI.abandonOrder h ho hparked.1
    · exact h

omit hI in
theorem ite {c : Prop} [Decidable c] {a : State} (h : I s) (ha : c → I a)
    (ht : (if c then (.next a : Host.Outcome State Fault Refusal) else .next s) = .next t) : I t := by
  obtain ⟨hc, rfl⟩ | ⟨-, rfl⟩ := next_of_ite ht
  · exact ha hc
  · exact h

theorem exec {i : Instr} (h : I s) (ht : exec i s = .next t) : I t := by
  have req : ∀ {own : State → State}, Machine.exec i s = .next (Machine.arrive i own s) →
      own = Machine.requestOp i → I t := by
    rintro own he rfl
    cases he.symm.trans ht
    exact hI.arrive h fun u hu => hI.requestOp i hu
  cases i
  case lineDrop => exact hI.lineDrop h ht
  case lineReturn => cases ht; exact h
  case uplinkLineDrop =>
    have hdrop := hI.congr h (floor_uplinkDrop s)
    obtain ⟨-, rfl⟩ | ⟨-, rfl⟩ := next_of_ite ht
    · exact hI.reset _ _ _ _ _ hdrop (.inl rfl)
    · exact hdrop
  case frameDiscard => cases ht; exact hI.congr h (floor_discardFrame _ _ _ s)
  case malformedFrame => exact ite h (fun _ => hI.congr h (floor_protocolError _ s)) ht
  case malformedRequest =>
    exact ite h (fun _ => hI.arrive h fun u hu => hI.congr hu (floor_badFrame _ u)) ht
  case hello p k sw pr =>
    cases k with
    | none => cases ht; exact hI.congr h (floor_protocolError _ s)
    | some k => cases ht; exact hI.flush (hI.helloOp k sw pr h)
  case statusFrame p sw pr =>
    cases ht
    refine hI.flush (hI.handOn h fun u hu hup honline _ => ?_)
    unfold statusOp
    split
    · next hkind => exact hI.congr (hI.switchReport sw hu ⟨hup, honline, hkind⟩) (floor_printerReport p pr _)
    · exact hu
  case sample => cases ht; exact hI.flush (hI.handOn h fun u hu _ _ _ => hI.congr hu (floor_sampleOp _ _ u))
  case sampleGapExpiry => exact ite h (fun _ => hI.flush (hI.congr h (floor_handResult _ _ _ s))) ht
  case supervisionExpiry => exact ite h (fun hp => hI.flush (hI.supervisionRunOut h hp.1)) ht
  case login => cases ht; exact hI.logKey h fun u hu hp => hI.loginOp _ hu hp
  case logout => cases ht; exact hI.logKey h fun u hu hp => hI.logoutOp hu hp
  case zero => cases ht; exact hI.salesKey h fun u hu _ => hI.congr hu (floor_zeroOp _ u)
  case tare => cases ht; exact hI.salesKey h fun u hu _ => hI.congr hu (floor_tareOutcome _ _ u)
  case keyedTare => cases ht; exact hI.salesKey h fun u hu _ => hI.congr hu (floor_tareOutcome _ _ u)
  case plu => cases ht; exact hI.salesKey h fun u hu hp => hI.pluOp _ hu hp
  case qty => cases ht; exact hI.salesKey h fun u hu _ => hI.congr hu (floor_qtyOp _ _ u)
  case print => cases ht; exact hI.salesKey h fun u hu hp => hI.printOp hu hp
  case cancel => cases ht; exact hI.salesKey h fun u hu hp => hI.cancelOp hu hp
  case void => cases ht; exact hI.idleKey h fun u hu hp => hI.voidOp _ hu hp
  case reprint => cases ht; exact hI.idleKey h fun u hu hp => hI.reprintOp _ hu hp
  case next => cases ht; exact hI.idleKey h fun u hu hp => hI.nextOp hu hp
  case serve => cases ht; exact hI.idleKey h fun u hu hp => hI.serveOp hu hp
  case skip => cases ht; exact hI.idleKey h fun u hu hp => hI.skipOp hu hp
  case recallSkipped => cases ht; exact hI.idleKey h fun u hu hp => hI.recallSkippedOp _ hu hp
  case cancelNext => cases ht; exact hI.idleKey h fun u hu hp => hI.cancelNextOp hu hp
  case park => cases ht; exact hI.idleKey h fun u hu hp => hI.parkOp hu hp
  case pickup => cases ht; exact hI.idleKey h fun u hu hp => hI.pickupOp _ hu hp
  case closeOrder => cases ht; exact hI.idleKey h fun u hu hp => hI.closeOrderOp hu hp
  case printDone =>
    cases ht
    exact hI.flush (hI.handOn h fun u hu _ _ _ => hI.congr hu (floor_printDoneOp _ _ _ u))
  case takeRequest => cases ht; exact hI.flush (hI.handOn h fun u hu _ _ _ => hI.takeRequestOp hu)
  case takeDecision => cases ht; exact hI.flush (hI.takeDecision h)
  case compositionComplete => exact hI.compositionComplete h ht
  case callTimeout => exact hI.callTimeout h ht
  case orderAbandoned => exact hI.orderAbandoned h ht
  case clockTick => cases ht; exact hI.clockTick h
  case commitActivation => exact ite h (fun _ => hI.flush (hI.activationTest h)) ht
  case commitDrainExpiry => exact ite h (fun _ => hI.flush (hI.commitDrainExpired h)) ht
  case commitCompletion => cases ht; exact hI.flush (hI.completeIfDrained h)
  case closeDrainExpiry => exact ite h (fun _ => hI.flush (hI.closeDrainExpired h)) ht
  case dayCloseCompletion => cases ht; exact hI.flush (hI.dayTest h)
  case warmReset => cases ht; exact hI.reset _ _ _ _ _ h (.inl rfl)
  case powerUp => cases ht; exact hI.powerUp _ h
  case uplinkTransmit => cases ht; exact hI.transmit h
  case status | statusClear | noticeEnable | hubReset | operatorWrite | calWrite | calRead | pluRead | pluStage | stageDiscard
    | commit | commitAbort | templateWrite | translateWrite | orderRead | totalsRead | dayClose | dayRecordRead
    | configWrite | timeSet => exact req rfl rfl
  -- RECALL, which stands last because its constructor's name is a keyword
  · cases ht; exact hI.idleKey h fun u hu hp => hI.recallOp hu hp

/-- Every step keeps an invariant that the operations keep. -/
theorem step (h : I s) (ht : step s = .next t) : I t := by
  unfold Machine.step at ht
  split at ht
  · cases ht
    exact hI.congr h (floor_sendFrames s)
  · exact hI.exec (hI.congr (s := s) h (by rfl)) ht

end KeptByOps

end Sys2Proof.Machine
end

section
/-! PROOFS. Generations at every step: the offline event, the attach and the resets, and the walk. -/

namespace Sys2Proof.Machine

theorem link_carried_of_offline {s : State} (h : GenerationsSound s) {p : CounterPort}
    (hp : (s.port p).online = false) : (s.floor.flow.links p).carried = none := by
  by_contra hsome
  have honline : (s.port p).online = true := (h.flowSound.placed p id hsome).1
  rw [hp] at honline
  cases honline

theorem portDown_generations {s : State} (h : GenerationsSound s) {p : CounterPort}
    (hp : (s.port p).online = false) : GenerationsSound (portDown p s) := by
  refine FlowSound.generationsSound ?_
  rw [portDown, modPort, flow_setPort]
  have hnone := link_carried_of_offline h hp
  exact h.flowSound.relink hnone hnone fun honline => by
    rw [show (s.port p).online = true from honline] at hp
    cases hp

theorem attach_generations {s : State} (h : GenerationsSound s) {p : CounterPort} (k : DeviceKind) (sw : Switch)
    (pr : PrinterCondition) (hp : (s.port p).online = false) : GenerationsSound (attach p k sw pr s) := by
  have hnone := link_carried_of_offline h hp
  refine FlowSound.generationsSound ?_
  unfold attach
  split
  · rw [floor_notify, flow_setPort]
    refine h.flowSound.relink hnone ?_ fun _ => ?_ <;> cases k <;> rfl
  · rw [floor_notify, modPort, flow_setPort]
    exact h.flowSound.relink hnone hnone fun honline => by
      rw [show (s.port p).online = true from honline] at hp
      cases hp

theorem closeSnapshot_flowSound {s : State} {p : CounterPort} (h : FlowSound (· = p) s.floor.flow) :
    FlowSound nobody (closeSnapshot p s).floor.flow :=
  (closeSnapshotFor_flowSound [] p h).excuse fun _ ⟨he, hne⟩ => hne he

theorem offlineScale_flowSound {s : State} {p : CounterPort} (h : FlowSound (· = p) s.floor.flow) :
    FlowSound nobody (offlineScale p s).floor.flow := by
  have hstart : FlowSound (· = p) (offlineStart p s).floor.flow := by
    unfold offlineStart
    split
    · exact (closeSnapshot_flowSound (by rw [floor_offlineCounted]; exact h)).excuse fun _ he => he.elim
    · rw [floor_offlineCounted]; exact h
  rw [offlineScale_eq, flow_offlineContext]
  exact closeSnapshot_flowSound (by simpa using hstart)

theorem goOffline_generations {s : State} (h : GenerationsSound s) (p : CounterPort) (cause : StationCause) :
    GenerationsSound (goOffline p cause s) := by
  refine FlowSound.generationsSound ?_
  unfold goOffline
  dsimp only
  rw [floor_notify]
  have hlink : (offlineLink p s).floor.flow = s.floor.flow.relink p { s.floor.flow.links p with online := false } := by
    rw [offlineLink, modPort, flow_setPort]
    rfl
  split
  · refine offlineScale_flowSound ?_
    rw [hlink]
    refine h.flowSound.relinked (fun hl => by cases hl) (fun hp => absurd rfl hp) (h.flowSound.carried p)
      (fun d _ => ?_) fun _ _ he => he.elim
    ext q
    rw [Flow.mem_stale, Flow.mem_stale, Flow.relink_links]
    split
    · next hq => rw [hq]; rfl
    · rfl
  · next hkind =>
    rw [hlink]
    have hnone : (s.floor.flow.links p).carried = none := by
      by_contra hsome
      exact hkind (h.flowSound.placed p id hsome).2
    exact h.flowSound.relink hnone hnone fun hl => by cases hl

theorem afterReset_generations (l : List Instr) (r : Retained) (c : Clock) (q : NoticeQueue) (n : Nat)
    (h : r.generation < 65536) : GenerationsSound (State.afterReset l r c q n) where
  range := h
  upOnline := fun p honline => by
    rw [afterReset_port] at honline
    cases honline
  snapshots := fun p sn hsn => by
    rw [afterReset_port] at hsn
    cases hsn
  awaited := fun d hd => by cases hd

theorem tickCounts_flow (s : State) : (tickCounts s).floor.flow = { s.floor.flow with commit := s.commit.tick } := by
  have hlinks (p : CounterPort) : ((tickCounts s).port p).station.link = (s.port p).station.link := by
    rw [tickCounts_port]
    split <;> rfl
  simp only [Floor.flow, State.floor, hlinks]
  rfl

theorem tickCounts_generations {s : State} (h : GenerationsSound s) : GenerationsSound (tickCounts s) := by
  refine FlowSound.generationsSound ?_
  rw [tickCounts_flow]
  cases hc : s.commit with
  | waiting d =>
    refine h.flowSound.recounted hc ?_
    split <;> rfl
  | _ => exact h.flowSound.editing fun _ hd => by cases hd

/-- Every operation keeps the generations sound. -/
theorem generationsSound_kept : KeptByOps GenerationsSound where
  congr h hfloor := h.congr (congrArg Floor.flow hfloor)
  upOnline h := h.upOnline _
  portDown h hp := portDown_generations h hp
  goOffline cause h _ := goOffline_generations h _ cause
  dayTest h := h.congr (flow_dayTest _)
  attach k sw pr h hp := attach_generations h k sw pr hp
  switchReport sw h _ := h.congr (flow_switchReport _ sw _)
  loginOp n h _ := h.congr (flow_loginOp _ n _)
  logoutOp h _ := h.congr (flow_logoutOp _ _)
  pluOp n h hp := pluOp_generations h hp.1 n
  printOp h _ := h.congr (flow_printOp _ _)
  cancelOp h _ := cancelOp_generations h _
  voidOp n h _ := h.congr (flow_voidOp _ n _)
  reprintOp n h _ := h.congr (flow_reprintOp _ n _)
  nextOp h _ := h.congr (flow_nextOp _ _)
  serveOp h _ := h.congr (flow_serveOp _ _)
  recallOp h _ := h.congr (flow_recallOp _ _)
  skipOp h _ := h.congr (flow_skipOp _ _)
  recallSkippedOp n h _ := h.congr (flow_recallSkippedOp _ n _)
  cancelNextOp h _ := h.congr (flow_cancelNextOp _ _)
  parkOp h _ := h.congr (flow_withOpenOrder (flow_parkOrder _) _ _)
  pickupOp n h _ := h.congr (flow_pickupOp _ n _)
  closeOrderOp h _ := h.congr (flow_withOpenOrder (flow_closeOrder _) _ _)
  takeRequestOp h := h.congr (flow_takeRequestOp _ _)
  takeDecision h := takeDecision_generations h
  discard h _ _ := h.congr (flow_freeComposer _)
  completeJob h _ _ ht := completeJob_generations (h.congr (flow_freeComposer _)) ht
  skipTicket h _ := h.congr (flow_skipTicket _ _ _)
  abandonOrder h _ _ := h.congr (flow_abandonOrder _ _)
  tickCounts h := tickCounts_generations h
  activationTest h := activationTest_generations h
  commitDrainExpired h := commitDrainExpired_generations h
  completeIfDrained h := (completeIfDrained_of_generations h).symm ▸ h
  closeDrainExpired h := closeDrainExpired_generations h
  acceptCommit a h := by
    cases a with
    | none => exact enterWaiting_generations h
    | some a => exact h.editing fun _ hd => by cases hd
  abortCommit h := h.editing fun _ hd => by cases hd
  beginClose h := h.congr (flow_beginClose _)
  reset l r c q n h hr := afterReset_generations l r c q n (by have := h.range; omega)

/-- Settles O9: every operation keeps the generations sound, and every elementary update the item table. -/
theorem stepKeepsGenerations : Obligations.StepKeepsGenerations :=
  ⟨fun _ _ hs h => generationsSound_kept.step hs h, fun _ _ hs h => step_keeps_tableSound hs h⟩

end Sys2Proof.Machine
end

section
/-! PROOFS. The service line in its parts (R127, R130, R146): which lists, tickets, orders and service states agree,
and how each part goes over from one state of the line to the next. -/

namespace Sys2Proof.Machine

/-! ### Asking stations -/

/-- The calling list holds the asking stations, each once. -/
structure Asking (sv : CounterPort → ServiceState) (calling : List CounterPort) : Prop where
  iff : ∀ p, sv p = .asking ↔ p ∈ calling
  nodup : calling.Nodup

namespace Asking
variable {sv sv' : CounterPort → ServiceState} {calling : List CounterPort} {p : CounterPort}

theorem leave (h : Asking sv calling) (hp : sv' p ≠ .asking) (hrest : ∀ q, q ≠ p → sv' q = sv q) :
    Asking sv' (calling.filter (· ≠ p)) where
  iff q := by
    by_cases hq : q = p
    · subst hq; simp [hp]
    · simp [hrest q hq, h.iff, hq]
  nodup := h.nodup.filter _

theorem join (h : Asking sv calling) (hold : sv p ≠ .asking) (hp : sv' p = .asking)
    (hrest : ∀ q, q ≠ p → sv' q = sv q) : Asking sv' (calling ++ [p]) where
  iff q := by
    by_cases hq : q = p
    · subst hq; simp [hp]
    · simp [hrest q hq, h.iff, hq]
  nodup := by
    rw [List.nodup_append]
    refine ⟨h.nodup, List.nodup_singleton p, fun a ha b hb => ?_⟩
    rw [List.mem_singleton] at hb
    subst hb
    intro e
    exact hold ((h.iff b).mpr (e ▸ ha))

theorem same (h : Asking sv calling) (hold : sv p ≠ .asking) (hp : sv' p ≠ .asking)
    (hrest : ∀ q, q ≠ p → sv' q = sv q) : Asking sv' calling where
  iff q := by
    by_cases hq : q = p
    · subst hq
      exact iff_of_false hp fun hmem => hold ((h.iff q).mpr hmem)
    · rw [hrest q hq, h.iff]
  nodup := h.nodup

/-- The oldest asking station leaves. -/
theorem leave_head {rest : List CounterPort} (h : Asking sv (p :: rest)) (hp : sv' p ≠ .asking)
    (hrest : ∀ q, q ≠ p → sv' q = sv q) : Asking sv' rest := by
  have hnotin : p ∉ rest := (List.nodup_cons.mp h.nodup).1
  have hfilter : (p :: rest).filter (· ≠ p) = rest := by
    rw [List.filter_cons_of_neg (by simp), List.filter_eq_self]
    intro q hq
    simpa using fun e : q = p => hnotin (e ▸ hq)
  exact hfilter ▸ h.leave hp hrest

end Asking

/-! ### Called tickets -/

/-- A station is CALLED exactly while a ticket is called to it, and then one alone is. -/
structure Called (sv : CounterPort → ServiceState) (ts : TicketNo → TicketRec) : Prop where
  iff : ∀ p, sv p = .called ↔ ∃ k n, (ts k).state = .called p n
  once : ∀ p j k m n, (ts j).state = .called p m → (ts k).state = .called p n → j = k

/-- A ticket record that is not CALLED anywhere. -/
def TicketRec.Uncalled (r : TicketRec) : Prop := ∀ p n, r.state ≠ .called p n

namespace Called
variable {sv sv' : CounterPort → ServiceState} {ts ts' : TicketNo → TicketRec} {p : CounterPort} {k : TicketNo}

theorem service (h : Called sv ts) (hold : sv p ≠ .called) (hp : sv' p ≠ .called)
    (hrest : ∀ q, q ≠ p → sv' q = sv q) : Called sv' ts where
  iff q := by
    by_cases hq : q = p
    · subst hq
      exact iff_of_false hp fun hcalled => hold ((h.iff q).mpr hcalled)
    · rw [hrest q hq, h.iff]
  once := h.once

/-- Tickets change their records, but none is called that was not, none elsewhere, none no longer. -/
theorem tickets (h : Called sv ts)
    (hts : ∀ j q, (∃ n, (ts' j).state = .called q n) ↔ ∃ n, (ts j).state = .called q n) : Called sv ts' where
  iff q := by simp only [h.iff, hts]
  once q i j m n hi hj := by
    obtain ⟨m', hi'⟩ := (hts i q).mp ⟨m, hi⟩
    obtain ⟨n', hj'⟩ := (hts j q).mp ⟨n, hj⟩
    exact h.once q i j m' n' hi' hj'

theorem ticket (h : Called sv ts) (hold : (ts k).Uncalled) (hk : (ts' k).Uncalled)
    (hrest : ∀ j, j ≠ k → ts' j = ts j) : Called sv ts' :=
  h.tickets fun j q => by
    by_cases hj : j = k
    · subst hj
      exact iff_of_false (fun ⟨n, hn⟩ => hk q n hn) fun ⟨n, hn⟩ => hold q n hn
    · rw [hrest j hj]

/-- A ticket is called to a station that no other ticket is called to. -/
theorem call {n : Nat} (h : Called sv ts) (hk : (ts' k).state = .called p n) (hp : sv' p = .called)
    (hold : ∀ q m, (ts k).state = .called q m → q = p) (halone : ∀ j m, (ts j).state = .called p m → j = k)
    (hts : ∀ j, j ≠ k → ts' j = ts j) (hsv : ∀ q, q ≠ p → sv' q = sv q) : Called sv' ts' where
  iff q := by
    by_cases hq : q = p
    · subst hq
      exact iff_of_true hp ⟨k, n, hk⟩
    · rw [hsv q hq, h.iff]
      constructor
      · rintro ⟨j, m, hj⟩
        have hne : j ≠ k := fun e => hq (hold q m (e ▸ hj))
        exact ⟨j, m, by rw [hts j hne]; exact hj⟩
      · rintro ⟨j, m, hj⟩
        have hne : j ≠ k := by
          rintro rfl
          rw [hk] at hj
          cases hj
          exact hq rfl
        exact ⟨j, m, by rw [← hts j hne]; exact hj⟩
  once q i j m m' hi hj := by
    have hback (j : TicketNo) (m : Nat) (hne : j ≠ k) (hj : (ts' j).state = .called q m) :
        (ts j).state = .called q m := by rw [← hts j hne]; exact hj
    have hat (hq : (ts' k).state = .called q m ∨ (ts' k).state = .called q m') : q = p := by
      rw [hk] at hq
      obtain hq | hq := hq <;> cases hq <;> rfl
    by_cases hik : i = k <;> by_cases hjk : j = k
    · rw [hik, hjk]
    · have hqp : q = p := hat (.inl (hik ▸ hi))
      exact hik.trans (halone j m' (hqp ▸ hback j m' hjk hj)).symm
    · have hqp : q = p := hat (.inr (hjk ▸ hj))
      exact (halone i m (hqp ▸ hback i m hik hi)).trans hjk.symm
    · exact h.once q i j m m' (hback i m hik hi) (hback j m' hjk hj)

/-- The ticket called to a station is called no longer. -/
theorem uncall {n : Nat} (h : Called sv ts) (hold : (ts k).state = .called p n) (hk : (ts' k).Uncalled)
    (hp : sv' p ≠ .called) (hts : ∀ j, j ≠ k → ts' j = ts j) (hsv : ∀ q, q ≠ p → sv' q = sv q) :
    Called sv' ts' where
  iff q := by
    by_cases hq : q = p
    · subst hq
      refine iff_of_false hp ?_
      rintro ⟨j, m, hj⟩
      have hne : j ≠ k := fun e => hk q m (e ▸ hj)
      rw [hts j hne] at hj
      exact hne (h.once q j k m n hj hold)
    · rw [hsv q hq, h.iff]
      have hcalled (j : TicketNo) (m : Nat) : (ts' j).state = .called q m ↔ (ts j).state = .called q m := by
        by_cases hj : j = k
        · subst hj
          refine iff_of_false (hk q m) fun hj => ?_
          rw [hold] at hj
          cases hj
          exact hq rfl
        · rw [hts j hj]
      simp only [hcalled]
  once q i j m m' hi hj := by
    have hback (j : TicketNo) (m : Nat) (hj : (ts' j).state = .called q m) : (ts j).state = .called q m := by
      rw [← hts j fun e => hk q m (e ▸ hj)]
      exact hj
    exact h.once q i j m m' (hback i m hi) (hback j m' hj)

end Called

/-! ### Open orders -/

/-- A station is SERVING exactly while an order is OPEN at it, and then one alone is. -/
structure Serving (sv : CounterPort → ServiceState) (os : List Order) : Prop where
  iff : ∀ p, sv p = .serving ↔ ∃ o ∈ os, o.state = .openAt p
  once : ∀ o ∈ os, ∀ x ∈ os, ∀ p, o.state = .openAt p → x.state = .openAt p → o = x

namespace Serving
variable {sv sv' : CounterPort → ServiceState} {os os' : List Order} {p : CounterPort}

theorem service (h : Serving sv os) (hold : sv p ≠ .serving) (hp : sv' p ≠ .serving)
    (hrest : ∀ q, q ≠ p → sv' q = sv q) : Serving sv' os where
  iff q := by
    by_cases hq : q = p
    · subst hq
      exact iff_of_false hp fun hopen => hold ((h.iff q).mpr hopen)
    · rw [hrest q hq, h.iff]
  once := h.once

/-- Orders change their contents, not where they stand. -/
theorem map (h : Serving sv os) {f : Order → Order} (hf : ∀ o, (f o).state = o.state) :
    Serving sv (os.map f) where
  iff q := by simp [h.iff, hf]
  once := by
    intro o' ho' x' hx' q hoq hxq
    obtain ⟨o, ho, rfl⟩ := List.mem_map.mp ho'
    obtain ⟨x, hx, rfl⟩ := List.mem_map.mp hx'
    rw [hf] at hoq hxq
    rw [h.once o ho x hx q hoq hxq]

/-- The order OPEN at a station is there no longer, whatever became of it; the others stay. -/
theorem close (h : Serving sv os) (hp : sv' p ≠ .serving) (hsv : ∀ q, q ≠ p → sv' q = sv q)
    (hgone : ∀ o ∈ os', o.state ≠ .openAt p)
    (hrest : ∀ o q, q ≠ p → o.state = .openAt q → (o ∈ os' ↔ o ∈ os)) : Serving sv' os' where
  iff q := by
    by_cases hq : q = p
    · subst hq
      exact iff_of_false hp fun ⟨o, ho, hoq⟩ => hgone o ho hoq
    · rw [hsv q hq, h.iff]
      exact ⟨fun ⟨o, ho, hoq⟩ => ⟨o, (hrest o q hq hoq).mpr ho, hoq⟩,
        fun ⟨o, ho, hoq⟩ => ⟨o, (hrest o q hq hoq).mp ho, hoq⟩⟩
  once o ho x hx q hoq hxq := by
    have hq : q ≠ p := fun e => hgone o ho (e ▸ hoq)
    exact h.once o ((hrest o q hq hoq).mp ho) x ((hrest x q hq hxq).mp hx) q hoq hxq

/-- An order is OPEN at a station that served none. -/
theorem opens (h : Serving sv os) (hold : sv p ≠ .serving) (hp : sv' p = .serving)
    (hsv : ∀ q, q ≠ p → sv' q = sv q) {n : Order} (hn : n ∈ os' ∧ n.state = .openAt p)
    (honly : ∀ o ∈ os', o.state = .openAt p → o = n)
    (hrest : ∀ o q, q ≠ p → o.state = .openAt q → (o ∈ os' ↔ o ∈ os)) : Serving sv' os' where
  iff q := by
    by_cases hq : q = p
    · subst hq
      exact iff_of_true hp ⟨n, hn⟩
    · rw [hsv q hq, h.iff]
      exact ⟨fun ⟨o, ho, hoq⟩ => ⟨o, (hrest o q hq hoq).mpr ho, hoq⟩,
        fun ⟨o, ho, hoq⟩ => ⟨o, (hrest o q hq hoq).mp ho, hoq⟩⟩
  once o ho x hx q hoq hxq := by
    by_cases hq : q = p
    · subst hq
      rw [honly o ho hoq, honly x hx hxq]
    · exact h.once o ((hrest o q hq hoq).mp ho) x ((hrest x q hq hxq).mp hx) q hoq hxq

end Serving

/-! ### The ticket lists -/

/-- The waiting queue and the skipped list hold the tickets so marked, each once, and a free number is fresh. -/
structure Listed (ts : TicketNo → TicketRec) (w l : List TicketNo) : Prop where
  waiting : ∀ k, (ts k).state = .waiting ↔ k ∈ w
  skipped : ∀ k, (ts k).state = .skipped ↔ k ∈ l
  waitingNodup : w.Nodup
  skippedNodup : l.Nodup
  freeFresh : ∀ k, (ts k).state = .free → ts k = TicketRec.fresh

/-- One ticket's record and place change. -/
theorem Listed.ticket {ts ts' : TicketNo → TicketRec} {w w' l l' : List TicketNo} {k : TicketNo}
    (h : Listed ts w l) (hts : ∀ j, j ≠ k → ts' j = ts j) (hwait : (ts' k).state = .waiting ↔ k ∈ w')
    (hskip : (ts' k).state = .skipped ↔ k ∈ l') (hw : ∀ j, j ≠ k → (j ∈ w' ↔ j ∈ w))
    (hl : ∀ j, j ≠ k → (j ∈ l' ↔ j ∈ l)) (hwn : w'.Nodup) (hln : l'.Nodup)
    (hfree : (ts' k).state = .free → ts' k = TicketRec.fresh) : Listed ts' w' l' where
  waiting j := by
    by_cases hj : j = k
    · subst hj; exact hwait
    · rw [hts j hj, h.waiting, hw j hj]
  skipped j := by
    by_cases hj : j = k
    · subst hj; exact hskip
    · rw [hts j hj, h.skipped, hl j hj]
  waitingNodup := hwn
  skippedNodup := hln
  freeFresh j := by
    by_cases hj : j = k
    · subst hj; exact hfree
    · rw [hts j hj]; exact h.freeFresh j

/-- A ticket on neither list takes another place on neither. -/
theorem Listed.off {ts ts' : TicketNo → TicketRec} {w l : List TicketNo} {k : TicketNo} (h : Listed ts w l)
    (hts : ∀ j, j ≠ k → ts' j = ts j) (hold : (ts k).state ≠ .waiting ∧ (ts k).state ≠ .skipped)
    (hnew : (ts' k).state ≠ .waiting ∧ (ts' k).state ≠ .skipped)
    (hfree : (ts' k).state = .free → ts' k = TicketRec.fresh) : Listed ts' w l :=
  h.ticket hts (iff_of_false hnew.1 fun hk => hold.1 ((h.waiting k).mpr hk))
    (iff_of_false hnew.2 fun hk => hold.2 ((h.skipped k).mpr hk)) (fun _ _ => .rfl) (fun _ _ => .rfl)
    h.waitingNodup h.skippedNodup hfree

/-! ### Orders and their tickets -/

theorem insertOrder_perm (o : Order) (l : List Order) : (insertOrder o l).Perm (o :: l) := by
  induction l with
  | nil => exact .refl _
  | cons x xs ih =>
    rw [insertOrder]
    split
    · exact .refl _
    · exact (ih.cons x).trans (.swap o x xs)

/-- The tickets IN_SERVICE are those of the live orders, of which there are at most 32, no number and no ticket
twice. -/
structure Numbered (ts : TicketNo → TicketRec) (os : List Order) : Prop where
  iff : ∀ k, (ts k).state = .inService ↔ ∃ o ∈ os, o.ticket = k
  room : os.length ≤ Config.maxOrders
  numbers : (os.map (·.number)).Nodup
  tickets : (os.map (·.ticket)).Nodup

namespace Numbered
variable {ts ts' : TicketNo → TicketRec} {os : List Order} {k : TicketNo}

theorem ticket (h : Numbered ts os) (hts : ∀ j, j ≠ k → ts' j = ts j) (hold : (ts k).state ≠ .inService)
    (hnew : (ts' k).state ≠ .inService) : Numbered ts' os :=
  { h with iff := fun j => by
            by_cases hj : j = k
            · subst hj
              exact iff_of_false hnew fun ho => hold ((h.iff j).mpr ho)
            · rw [hts j hj, h.iff] }

/-- Orders change their contents, not their numbers or tickets. -/
theorem map (h : Numbered ts os) {f : Order → Order}
    (hf : ∀ o, (f o).number = o.number ∧ (f o).ticket = o.ticket) : Numbered ts (os.map f) where
  iff j := by simp [h.iff, hf]
  room := by rw [List.length_map]; exact h.room
  numbers := by
    have hnumber : (fun o => (f o).number) = (·.number) := funext fun o => (hf o).1
    rw [List.map_map]
    exact (congrArg (fun g => (os.map g).Nodup) hnumber).mpr h.numbers
  tickets := by
    have hticket : (fun o => (f o).ticket) = (·.ticket) := funext fun o => (hf o).2
    rw [List.map_map]
    exact (congrArg (fun g => (os.map g).Nodup) hticket).mpr h.tickets

/-- Two live orders of one number are one order. -/
theorem eq_of_number (h : Numbered ts os) {o x : Order} (ho : o ∈ os) (hx : x ∈ os) (he : o.number = x.number) :
    o = x := List.inj_on_of_nodup_map h.numbers ho hx he

theorem eq_of_ticket (h : Numbered ts os) {o x : Order} (ho : o ∈ os) (hx : x ∈ os) (he : o.ticket = x.ticket) :
    o = x := List.inj_on_of_nodup_map h.tickets ho hx he

/-- An order is removed and its ticket goes elsewhere. -/
theorem remove (h : Numbered ts os) {o : Order} (ho : o ∈ os) (hts : ∀ j, j ≠ o.ticket → ts' j = ts j)
    (hnew : (ts' o.ticket).state ≠ .inService) : Numbered ts' (os.filter fun x => x.number ≠ o.number) where
  iff j := by
    by_cases hj : j = o.ticket
    · subst hj
      refine iff_of_false hnew ?_
      rintro ⟨x, hx, hticket⟩
      obtain ⟨hx, hne⟩ := List.mem_filter.mp hx
      simp [h.eq_of_ticket hx ho hticket] at hne
    · rw [hts j hj, h.iff]
      constructor
      · rintro ⟨x, hx, rfl⟩
        refine ⟨x, List.mem_filter.mpr ⟨hx, ?_⟩, rfl⟩
        simpa using fun e => hj (congrArg Order.ticket (h.eq_of_number hx ho e))
      · rintro ⟨x, hx, rfl⟩
        exact ⟨x, List.mem_of_mem_filter hx, rfl⟩
  room := (List.length_filter_le _ _).trans h.room
  numbers := h.numbers.sublist (List.filter_sublist.map _)
  tickets := h.tickets.sublist (List.filter_sublist.map _)

theorem insert (h : Numbered ts os) {o : Order} (hroom : os.length < Config.maxOrders)
    (hnumber : ∀ x ∈ os, x.number ≠ o.number) (hold : (ts o.ticket).state ≠ .inService)
    (hts : ∀ j, j ≠ o.ticket → ts' j = ts j) (hnew : (ts' o.ticket).state = .inService) :
    Numbered ts' (insertOrder o os) where
  iff j := by
    by_cases hj : j = o.ticket
    · subst hj
      exact iff_of_true hnew ⟨o, (insertOrder_mem o o os).mpr (.inl rfl), rfl⟩
    · rw [hts j hj, h.iff]
      constructor
      · rintro ⟨x, hx, rfl⟩
        exact ⟨x, (insertOrder_mem o x os).mpr (.inr hx), rfl⟩
      · rintro ⟨x, hx, rfl⟩
        obtain rfl | hx := (insertOrder_mem o x os).mp hx
        · exact absurd rfl hj
        · exact ⟨x, hx, rfl⟩
  room := by rw [insertOrder_length]; exact hroom
  numbers := by
    have hperm := (insertOrder_perm o os).map (·.number)
    rw [hperm.nodup_iff, List.map_cons, List.nodup_cons]
    exact ⟨by simpa using hnumber, h.numbers⟩
  tickets := by
    have hperm := (insertOrder_perm o os).map (·.ticket)
    rw [hperm.nodup_iff, List.map_cons, List.nodup_cons]
    refine ⟨fun hmem => hold ((h.iff _).mpr ?_), h.tickets⟩
    obtain ⟨x, hx, hticket⟩ := List.mem_map.mp hmem
    exact ⟨x, hx, hticket⟩

end Numbered

end Sys2Proof.Machine
end

section
/-! PROOFS. The line: the part of the floor that the service line and the orders depend on, the invariant over it,
and the operations that leave it. -/

namespace Sys2Proof.Machine

/-! ### The line -/

/-- A station's link with its sale and service states. -/
structure Post where
  state : PortState
  online : Bool
  kind : Option DeviceKind
  sale : SaleState
  service : ServiceState

def Station.post (c : Station) : Post := ⟨c.state, c.online, c.kind, c.sale, c.service⟩

structure Line where
  tickets : TicketUnit
  orders : List Order
  composer : Composer
  posts : CounterPort → Post

def Floor.line (f : Floor) : Line := ⟨f.tickets, f.orders, f.composer, fun p => (f.stations p).post⟩

/-! ### Jobs that are bound to an order -/

/-- A job that waits or is being composed and not dropped. -/
def Composer.Live (c : Composer) (j : Job) : Prop :=
  j ∈ c.queue ∨ ∃ d, c.current = some d ∧ d.dropped = false ∧ d.job = j

/-- A summary, or (where the figures of orders are asked for) an item that joins an order. -/
def Job.Bound (figures : Prop) (j : Job) : Prop :=
  (∃ n k w, j.source = .summary n k w) ∨ (figures ∧ ∃ sr n k, j.source = .item sr ∧ sr.order = some (n, k))

/-- The order of a bound job: OPEN at the job's station, with room for the item's line. -/
structure Serves (figures : Prop) (o : Order) (j : Job) : Prop where
  here : o.state = .openAt j.station
  summary : ∀ n k w, j.source = .summary n k w → o.number = n
  item : figures → ∀ sr n k, j.source = .item sr → sr.order = some (n, k) →
    o.number = n ∧ o.lines.length < Config.maxLines ∧ o.total + sr.amounts.final ≤ Config.maxOrderTotal

/-- Bound jobs stand at PRINTING stations with their orders, and no job waits for a station whose own is being
composed. -/
structure Jobs (figures : Prop) (sale : CounterPort → SaleState) (os : List Order) (c : Composer) : Prop where
  placed : ∀ j, c.Live j → j.Bound figures → sale j.station = .printing ∧ ∃ o ∈ os, Serves figures o j
  apart : ∀ d, c.current = some d → d.dropped = false → ∀ j ∈ c.queue, j.station ≠ d.job.station

/-- No bound job stands at a station. -/
def Unbound (figures : Prop) (c : Composer) (p : CounterPort) : Prop :=
  ∀ j, c.Live j → j.Bound figures → j.station ≠ p

/-! ### The invariant -/

/-- The sum of the finals of an order's unvoided lines, and its bounds (R56, R146). -/
def Order.Figured (o : Order) : Prop :=
  o.lines.length ≤ Config.maxLines ∧ o.total = ((o.lines.filter fun l => !l.voided).map (·.final)).sum ∧
    o.total ≤ Config.maxOrderTotal

/-- What the obligation asks of the line, with the figures of orders where they are asked for. An excused port need
not be ONLINE, as in the middle of its offline event. -/
structure LineSound (excused : CounterPort → Prop) (figures : Prop) (l : Line) : Prop where
  upOnline : ∀ p, (l.posts p).online = true → (l.posts p).state = .up
  attended : ∀ p, ¬ excused p → (l.posts p).service ≠ .free → (l.posts p).online = true ∧ (l.posts p).kind = some .scale
  asking : Asking (fun p => (l.posts p).service) l.tickets.calling
  called : Called (fun p => (l.posts p).service) fun k => l.tickets.recs[k]
  serving : Serving (fun p => (l.posts p).service) l.orders
  listed : Listed (fun k => l.tickets.recs[k]) l.tickets.waiting l.tickets.skipped
  numbered : Numbered (fun k => l.tickets.recs[k]) l.orders
  jobs : Jobs figures (fun p => (l.posts p).sale) l.orders l.composer
  figured : figures → ∀ o ∈ l.orders, o.Figured

theorem LineSound.serviceSound {figures : Prop} {s : State} (h : LineSound nobody figures s.floor.line) : ServiceSound s where
  upOnline := h.upOnline
  attended p := h.attended p id
  asking := h.asking.iff
  called := h.called.iff
  calledOnce := h.called.once
  serving := h.serving.iff
  waiting := h.listed.waiting
  skipped := h.listed.skipped
  inService := h.numbered.iff
  freeFresh := h.listed.freeFresh
  lists := ⟨h.asking.nodup, h.listed.waitingNodup, h.listed.skippedNodup⟩
  orders := ⟨h.numbered.room, h.numbered.numbers, h.numbered.tickets⟩
  openOnce := h.serving.once
  summaries := fun j n k w hlive hsource => by
    obtain ⟨hsale, o, ho, hserves⟩ := h.jobs.placed j hlive (.inl ⟨n, k, w, hsource⟩)
    exact ⟨hsale, o, ho, hserves.summary n k w hsource, hserves.here⟩

theorem LineSound.ordersSound {figures : Prop} {s : State} (h : LineSound nobody figures s.floor.line) (hf : figures) :
    OrdersSound s where
  figures := h.figured hf
  room := fun j sr n k hlive hsource horder => by
    obtain ⟨hsale, o, ho, hserves⟩ := h.jobs.placed j hlive (.inr ⟨hf, sr, n, k, hsource, horder⟩)
    obtain ⟨hnumber, hlines, htotal⟩ := hserves.item hf sr n k hsource horder
    exact ⟨hsale, o, ho, hnumber, hserves.here, hlines, htotal⟩

theorem lineSound_of {figures : Prop} {s : State} (hc : ComposerSound s) (hs : ServiceSound s)
    (ho : figures → OrdersSound s) : LineSound nobody figures s.floor.line where
  upOnline := hs.upOnline
  attended p _ := hs.attended p
  asking := ⟨hs.asking, hs.lists.1⟩
  called := ⟨hs.called, hs.calledOnce⟩
  serving := ⟨hs.serving, hs.openOnce⟩
  listed := ⟨hs.waiting, hs.skipped, hs.lists.2.1, hs.lists.2.2, hs.freeFresh⟩
  numbered := ⟨hs.inService, hs.orders.1, hs.orders.2.1, hs.orders.2.2⟩
  jobs := by
    refine ⟨fun j hlive hbound => ?_, hc.notTwice⟩
    obtain ⟨n, k, w, hsource⟩ | ⟨hf, sr, n, k, hsource, horder⟩ := hbound
    · obtain ⟨hsale, o, ho', hnumber, hhere⟩ := hs.summaries j n k w hlive hsource
      refine ⟨hsale, o, ho', hhere, fun n' k' w' he => ?_, fun _ sr n' k' he => ?_⟩
      · rw [hsource] at he
        cases he
        exact hnumber
      · rw [hsource] at he
        cases he
    · obtain ⟨hsale, o, ho', hnumber, hhere, hlines, htotal⟩ := (ho hf).room j sr n k hlive hsource horder
      refine ⟨hsale, o, ho', hhere, fun n' k' w' he => ?_, fun _ sr' n' k' he horder' => ?_⟩
      · rw [hsource] at he
        cases he
      · rw [hsource] at he
        cases he
        rw [horder] at horder'
        cases horder'
        exact ⟨hnumber, hlines, htotal⟩
  figured hf := (ho hf).figures

/-! ### Operations that leave the line -/

theorem line_eq {s t : State} (htickets : t.tickets = s.tickets) (horders : t.orders = s.orders)
    (hcomposer : t.composer = s.composer) (hposts : ∀ p, (t.port p).station.post = (s.port p).station.post) :
    t.floor.line = s.floor.line := by
  simp only [Floor.line, State.floor, htickets, horders, hcomposer, hposts]

theorem line_modPort {f : Port → Port} (h : ∀ c, (f c).station.post = c.station.post) (p : CounterPort)
    (s : State) : (modPort p f s).floor.line = s.floor.line :=
  line_eq rfl rfl rfl fun q => by
    rw [modPort_port]
    split
    · next hq => rw [h, hq]
    · rfl

@[simp] theorem line_completeCommit (named : List Nat) (s : State) :
    (completeCommit named s).floor.line = s.floor.line := by
  unfold completeCommit
  split
  · dsimp only
    rw [floor_markAllDisplays, floor_notify]
    exact line_eq rfl rfl rfl fun _ => rfl
  · rfl

theorem line_commit (s : State) (c : CommitState) : ({ s with commit := c } : State).floor.line = s.floor.line :=
  line_eq rfl rfl rfl fun _ => rfl

@[simp] theorem line_reportClose (named : List Nat) (g : Nat) (s : State) :
    (reportClose named g s).floor.line = s.floor.line := by
  obtain h | ⟨d, -, -, ⟨-, h⟩ | ⟨-, h⟩⟩ := reportClose_cases named g s <;> rw [h]
  · rw [line_commit]
  · rw [line_completeCommit, line_commit]

@[simp] theorem line_closeSnapshotFor (named : List Nat) (p : CounterPort) (s : State) :
    (closeSnapshotFor named p s).floor.line = s.floor.line := by
  unfold closeSnapshotFor
  split
  · rfl
  · rw [line_reportClose, floor_removePreset]
    exact line_modPort (fun _ => by rfl) p s

@[simp] theorem line_closeSnapshot (p : CounterPort) (s : State) : (closeSnapshot p s).floor.line = s.floor.line :=
  line_closeSnapshotFor [] p s

@[simp] theorem line_enterWaiting (s : State) : (enterWaiting s).floor.line = s.floor.line := by
  unfold enterWaiting
  dsimp only
  split
  · rw [line_completeCommit, line_commit]
  · rw [line_commit]

theorem line_activationTest (s : State) : (activationTest s).floor.line = s.floor.line := by
  unfold activationTest activateCommit
  split
  · split
    · exact line_enterWaiting s
    · rw [floor_notify, line_commit]
  · rfl

theorem line_completeIfDrained (s : State) : (completeIfDrained s).floor.line = s.floor.line := by
  unfold completeIfDrained
  split
  · split
    · exact line_completeCommit [] s
    · rfl
  · rfl

theorem line_acceptCommit (a : Option (Date × Nat)) (s : State) :
    (acceptCommit a s).floor.line = s.floor.line := by
  unfold acceptCommit
  split
  · exact line_enterWaiting s
  · exact line_commit s _

/-! ### Elementary changes of the line -/

def Line.at (l : Line) (p : CounterPort) (c : Post) : Line := { l with posts := Function.update l.posts p c }

theorem Line.at_posts (l : Line) (p q : CounterPort) (c : Post) :
    (l.at p c).posts q = if q = p then c else l.posts q := Function.update_apply l.posts p c q

theorem line_setPort (s : State) (p : CounterPort) (c : Port) :
    (s.setPort p c).floor.line = s.floor.line.at p c.station.post := by
  have hposts : (fun q => ((s.setPort p c).port q).station.post) =
      Function.update (fun q => (s.port q).station.post) p c.station.post := by
    funext q
    rw [State.port_setPort, Function.update_apply]
    split <;> rfl
  exact congrArg (Line.mk s.tickets s.orders s.composer) hposts

@[simp] theorem line_setSale (p : CounterPort) (v : SaleState) (m : Option MsgCode) (s : State) :
    (setSale p v m s).floor.line = s.floor.line.at p { s.floor.line.posts p with sale := v } :=
  line_setPort s p _

@[simp] theorem line_setService (p : CounterPort) (v : ServiceState) (s : State) :
    (setService p v s).floor.line = s.floor.line.at p { s.floor.line.posts p with service := v } :=
  line_setPort s p _

@[simp] theorem line_setTicket (k : TicketNo) (r : TicketRec) (s : State) :
    (setTicket k r s).floor.line =
      { s.floor.line with tickets := { s.tickets with recs := s.tickets.recs.set k r } } := rfl

end Sys2Proof.Machine
end

section
/-! PROOFS. From one state of the line to the next: what keeps it sound. -/

namespace Sys2Proof.Machine

/-! ### Jobs and orders -/

theorem Unbound.of_sale {figures : Prop} {sale : CounterPort → SaleState} {os : List Order} {c : Composer}
    (h : Jobs figures sale os c) {p : CounterPort} (hp : sale p ≠ .printing) : Unbound figures c p :=
  fun j hlive hbound hj => hp (hj ▸ (h.placed j hlive hbound).1)

/-- Fewer live jobs are no more to place. -/
theorem Unbound.mono {figures : Prop} {c c' : Composer} {p : CounterPort} (h : Unbound figures c p)
    (hc : ∀ j, c'.Live j → c.Live j) : Unbound figures c' p := fun j hj => h j (hc j hj)

namespace Jobs
variable {figures : Prop} {sale sale' : CounterPort → SaleState} {os os' : List Order} {c c' : Composer}

theorem sales (h : Jobs figures sale os c) {p : CounterPort} (hp : Unbound figures c p)
    (hsale : ∀ q, q ≠ p → sale' q = sale q) : Jobs figures sale' os c :=
  { h with placed := fun j hlive hbound => by
            rw [hsale _ (hp j hlive hbound)]
            exact h.placed j hlive hbound }

/-- The orders of bound jobs stay, with no less room. -/
theorem orders (h : Jobs figures sale os c)
    (hos : ∀ j, c.Live j → j.Bound figures → ∀ o ∈ os, Serves figures o j → ∃ x ∈ os', Serves figures x j) :
    Jobs figures sale os' c :=
  { h with placed := fun j hlive hbound => by
            obtain ⟨hsale, o, ho, hserves⟩ := h.placed j hlive hbound
            exact ⟨hsale, hos j hlive hbound o ho hserves⟩ }

theorem fewer (h : Jobs figures sale os c) (hlive : ∀ j, c'.Live j → c.Live j)
    (hapart : ∀ d, c'.current = some d → d.dropped = false → ∀ j ∈ c'.queue, j.station ≠ d.job.station) :
    Jobs figures sale os c' :=
  ⟨fun j hj => h.placed j (hlive j hj), hapart⟩

end Jobs

theorem Serves.mono {figures : Prop} {o x : Order} {j : Job} (h : Serves figures o j) (hstate : x.state = o.state)
    (hnumber : x.number = o.number) (hlines : figures → x.lines.length ≤ o.lines.length)
    (htotal : figures → x.total ≤ o.total) : Serves figures x j where
  here := hstate.trans h.here
  summary n k w he := hnumber.trans (h.summary n k w he)
  item hf sr n k he horder := by
    obtain ⟨h1, h2, h3⟩ := h.item hf sr n k he horder
    exact ⟨hnumber.trans h1, (hlines hf).trans_lt h2, (Nat.add_le_add_right (htotal hf) _).trans h3⟩

/-! ### Transitions -/

namespace LineSound
variable {excused : CounterPort → Prop} {figures : Prop} {l : Line} {p : CounterPort}

theorem excuse {excused' : CounterPort → Prop} (h : LineSound excused figures l)
    (hle : ∀ q, excused q → excused' q ∨ (l.posts q).service = .free) : LineSound excused' figures l :=
  { h with attended := fun q hq hservice =>
      h.attended q (fun he => (hle q he).elim hq hservice) hservice }

theorem service_at (l : Line) (p q : CounterPort) (c : Post) (hq : q ≠ p) :
    ((l.at p c).posts q).service = (l.posts q).service := by rw [Line.at_posts, if_neg hq]

theorem at_self (l : Line) (p : CounterPort) (c : Post) : (l.at p c).posts p = c := by
  rw [Line.at_posts, if_pos rfl]

/-- A port changes what is no service state; its sale only while no bound job stands there. -/
theorem repost {excused' : CounterPort → Prop} (h : LineSound excused figures l) {c : Post}
    (hservice : c.service = (l.posts p).service)
    (hup : c.online = true → c.state = .up)
    (hatt : ¬ excused' p → c.service ≠ .free → c.online = true ∧ c.kind = some .scale)
    (hexcused : ∀ q, q ≠ p → excused q → excused' q)
    (hsale : c.sale = (l.posts p).sale ∨ Unbound figures l.composer p) : LineSound excused' figures (l.at p c) := by
  have hsv : (fun q => ((l.at p c).posts q).service) = fun q => (l.posts q).service := by
    funext q
    rw [Line.at_posts]
    split
    · next hq => rw [hservice, hq]
    · rfl
  refine ⟨fun q => ?_, fun q hq => ?_, hsv ▸ h.asking, hsv ▸ h.called, hsv ▸ h.serving, h.listed, h.numbered,
    ?_, h.figured⟩
  · rw [Line.at_posts]
    split
    · exact hup
    · exact h.upOnline q
  · rw [Line.at_posts]
    split
    · next hqp => exact hatt (hqp ▸ hq)
    · next hqp => exact h.attended q fun he => hq (hexcused q hqp he)
  · obtain hsame | hfree := hsale
    · have hsales : (fun q => ((l.at p c).posts q).sale) = fun q => (l.posts q).sale := by
        funext q
        rw [Line.at_posts]
        split
        · next hq => rw [hsame, hq]
        · rfl
      exact hsales ▸ h.jobs
    · exact h.jobs.sales hfree fun q hq => by rw [Line.at_posts, if_neg hq]

/-- A station's sale state changes while no bound job stands there. -/
theorem resale (h : LineSound excused figures l) (v : SaleState) (hfree : Unbound figures l.composer p) :
    LineSound excused figures (l.at p { l.posts p with sale := v }) :=
  h.repost rfl (h.upOnline p) (h.attended p) (fun _ _ => id) (.inr hfree)

/-- Service states, tickets and orders change together. -/
theorem regroup (h : LineSound excused figures l) {u : TicketUnit} {os : List Order}
    {sv : CounterPort → ServiceState}
    (hatt : ∀ q, ¬ excused q → sv q ≠ .free → (l.posts q).online = true ∧ (l.posts q).kind = some .scale)
    (hasking : Asking sv u.calling) (hcalled : Called sv fun k => u.recs[k]) (hserving : Serving sv os)
    (hlisted : Listed (fun k => u.recs[k]) u.waiting u.skipped) (hnumbered : Numbered (fun k => u.recs[k]) os)
    (hjobs : Jobs figures (fun q => (l.posts q).sale) os l.composer)
    (hfigured : figures → ∀ o ∈ os, o.Figured) :
    LineSound excused figures ⟨u, os, l.composer, fun q => { l.posts q with service := sv q }⟩ :=
  ⟨h.upOnline, hatt, hasking, hcalled, hserving, hlisted, hnumbered, hjobs, hfigured⟩

theorem at_service (l : Line) (u : TicketUnit) (os : List Order) (p : CounterPort) (v : ServiceState) :
    (⟨u, os, l.composer, l.posts⟩ : Line).at p { l.posts p with service := v } =
      ⟨u, os, l.composer, fun q => { l.posts q with service := if q = p then v else (l.posts q).service }⟩ := by
  have hposts : ((⟨u, os, l.composer, l.posts⟩ : Line).at p { l.posts p with service := v }).posts =
      fun q => { l.posts q with service := if q = p then v else (l.posts q).service } := by
    funext q
    rw [Line.at_posts]
    split
    · next hq => rw [hq]
    · rfl
  exact congrArg (Line.mk u os l.composer) hposts

/-- One station's service state changes, with the tickets and orders. -/
theorem place (h : LineSound excused figures l) {u : TicketUnit} {os : List Order} {v : ServiceState}
    (hatt : v ≠ .free → (l.posts p).online = true ∧ (l.posts p).kind = some .scale)
    (hrest : ∀ sv : CounterPort → ServiceState, sv p = v → (∀ q, q ≠ p → sv q = (l.posts q).service) →
      Asking sv u.calling ∧ (Called sv fun k => u.recs[k]) ∧ Serving sv os)
    (hlisted : Listed (fun k => u.recs[k]) u.waiting u.skipped) (hnumbered : Numbered (fun k => u.recs[k]) os)
    (hjobs : Jobs figures (fun q => (l.posts q).sale) os l.composer)
    (hfigured : figures → ∀ o ∈ os, o.Figured) :
    LineSound excused figures ((⟨u, os, l.composer, l.posts⟩ : Line).at p { l.posts p with service := v }) := by
  obtain ⟨hasking, hcalled, hserving⟩ := hrest (fun q => if q = p then v else (l.posts q).service)
    (if_pos rfl) fun q hq => if_neg hq
  rw [at_service]
  refine h.regroup (fun q hq hfree => ?_) hasking hcalled hserving hlisted hnumbered hjobs hfigured
  split at hfree
  · next hqp => exact hqp ▸ hatt hfree
  · exact h.attended q hq hfree

/-- One station's service state and the tickets change, no order being concerned. -/
theorem turn (h : LineSound excused figures l) {u : TicketUnit} {v : ServiceState}
    (hatt : v ≠ .free → (l.posts p).online = true ∧ (l.posts p).kind = some .scale)
    (hold : (l.posts p).service ≠ .serving) (hv : v ≠ .serving)
    (hrest : ∀ sv : CounterPort → ServiceState, sv p = v → (∀ q, q ≠ p → sv q = (l.posts q).service) →
      Asking sv u.calling ∧ (Called sv fun k => u.recs[k]))
    (hlisted : Listed (fun k => u.recs[k]) u.waiting u.skipped)
    (hnumbered : Numbered (fun k => u.recs[k]) l.orders) :
    LineSound excused figures (({ l with tickets := u } : Line).at p { l.posts p with service := v }) :=
  h.place hatt (fun sv hp hsv => ⟨(hrest sv hp hsv).1, (hrest sv hp hsv).2,
    h.serving.service hold (hp ▸ hv) hsv⟩) hlisted hnumbered h.jobs h.figured

/-- The tickets change and no service state does. -/
theorem tickets (h : LineSound excused figures l) {u : TicketUnit}
    (hcalling : u.calling = l.tickets.calling)
    (hcalled : Called (fun q => (l.posts q).service) fun k => u.recs[k])
    (hlisted : Listed (fun k => u.recs[k]) u.waiting u.skipped)
    (hnumbered : Numbered (fun k => u.recs[k]) l.orders) :
    LineSound excused figures { l with tickets := u } :=
  { h with
    asking := hcalling ▸ h.asking
    called := hcalled
    listed := hlisted
    numbered := hnumbered }

/-- The orders change their contents where they stand. -/
theorem reorder (h : LineSound excused figures l) {f : Order → Order}
    (hf : ∀ o, (f o).number = o.number ∧ (f o).ticket = o.ticket ∧ (f o).state = o.state)
    (hserves : ∀ j, l.composer.Live j → j.Bound figures → ∀ o ∈ l.orders, Serves figures o j →
      Serves figures (f o) j)
    (hfigured : figures → ∀ o ∈ l.orders, o.Figured → (f o).Figured) :
    LineSound excused figures { l with orders := l.orders.map f } :=
  { h with
    serving := h.serving.map fun o => (hf o).2.2
    numbered := h.numbered.map fun o => ⟨(hf o).1, (hf o).2.1⟩
    jobs := h.jobs.orders fun j hlive hbound o ho hs =>
      ⟨f o, List.mem_map_of_mem ho, hserves j hlive hbound o ho hs⟩
    figured := fun hfig o ho => by
      obtain ⟨x, hx, rfl⟩ := List.mem_map.mp ho
      exact hfigured hfig x hx (h.figured hfig x hx) }

/-- The composer changes. -/
theorem recompose (h : LineSound excused figures l) {c : Composer}
    (hjobs : Jobs figures (fun p => (l.posts p).sale) l.orders c) :
    LineSound excused figures { l with composer := c } := { h with jobs := hjobs }

end LineSound

end Sys2Proof.Machine
end

section
/-! PROOFS. The operations on stations, tickets and orders keep the line sound. -/

namespace Sys2Proof.Machine

variable {excused : CounterPort → Prop} {figures : Prop} {s : State} {p : CounterPort} {k : TicketNo}

/-- The line of the state is sound. -/
def LineKept (figures : Prop) (s : State) : Prop := LineSound nobody figures s.floor.line

theorem LineKept.congr {t : State} (h : LineKept figures s) (hline : t.floor.line = s.floor.line) :
    LineKept figures t := by
  unfold LineKept
  rw [hline]
  exact h

/-- A service state read off the line. -/
theorem service_ne {v w : ServiceState} (h : (s.port p).service = v) (hne : v ≠ w) :
    (s.floor.line.posts p).service ≠ w := fun e => hne (h.symm.trans e)

/-- A ticket state read off the line. -/
theorem ticket_ne {v w : TicketState} (h : (s.ticket k).state = v) (hne : v ≠ w) :
    (s.floor.line.tickets.recs[k]).state ≠ w := fun e => hne (h.symm.trans e)

theorem getElem_set_ticket {α : Type} (v : Vector α 100) (k j : TicketNo) (a : α) :
    (v.set k a)[j] = if j = k then a else v[j] := by
  by_cases hj : j = k
  · subst hj; simp
  · have hne : (k : Nat) ≠ (j : Nat) := fun e => hj (Fin.ext e.symm)
    simp [hj, hne]

/-! ### Sale states and the calling list -/

theorem setSale_line (h : LineSound excused figures s.floor.line) (hfree : Unbound figures s.composer p)
    (v : SaleState) (m : Option MsgCode) : LineSound excused figures (setSale p v m s).floor.line := by
  rw [line_setSale]
  exact h.resale v hfree

theorem leaveCalling_line (h : LineSound excused figures s.floor.line) :
    LineSound excused figures (leaveCalling p s).floor.line := by
  unfold leaveCalling
  split
  · next hasking =>
    rw [line_setService]
    refine h.turn (u := { s.tickets with calling := s.tickets.calling.filter (· ≠ p) })
      (fun hv => absurd rfl hv) (service_ne hasking (by decide)) (by decide) (fun sv hp hrest => ?_) h.listed h.numbered
    exact ⟨h.asking.leave (by rw [hp]; decide) hrest,
      h.called.service (service_ne hasking (by decide)) (by rw [hp]; decide) hrest⟩
  · exact h

theorem leaveCalling_service (p : CounterPort) (s : State) :
    ((leaveCalling p s).port p).service ≠ .asking := by
  unfold leaveCalling
  split
  · simp [setService]
  · assumption

@[simp] theorem leaveCalling_composer (p : CounterPort) (s : State) : (leaveCalling p s).composer = s.composer := by
  unfold leaveCalling
  split <;> simp

theorem toIdle_line (h : LineSound excused figures s.floor.line) (hfree : Unbound figures s.composer p)
    (m : Option MsgCode) : LineSound excused figures (toIdle p m s).floor.line := by
  unfold toIdle
  split
  · exact setSale_line (leaveCalling_line h) (by rw [leaveCalling_composer]; exact hfree) _ m
  · exact setSale_line h hfree _ m

/-! ### Calls -/

/-- The record of a ticket called to a station (R135). -/
def calledRec (s : State) (k : TicketNo) (p : CounterPort) (n : Nat) : TicketRec :=
  { s.ticket k with state := .called p s.ret.config.callTimeout, count := n }

@[simp] theorem line_callTicket (k : TicketNo) (p : CounterPort) (n : Nat) (cause : CallCause) (s : State) :
    (callTicket k p n cause s).floor.line =
      Line.at
        { s.floor.line with tickets := { s.tickets with recs := s.tickets.recs.set k (calledRec s k p n) } } p
        { s.floor.line.posts p with service := .called } := by
  unfold callTicket
  simp only [floor_notify, floor_showCall, line_setService, line_setTicket]
  rfl

/-- A call of a ticket that leaves its list for it, to a station that no other ticket is called to. -/
theorem LineSound.call {l : Line} (h : LineSound excused figures l) {u : TicketUnit} {r : TicketRec} {m : Nat}
    (hr : r.state = .called p m) (hrecs : ∀ j, j ≠ k → u.recs[j] = l.tickets.recs[j])
    (hatt : (l.posts p).online = true ∧ (l.posts p).kind = some .scale) (hservice : (l.posts p).service ≠ .serving)
    (hasking : ∀ sv : CounterPort → ServiceState, sv p = .called → (∀ q, q ≠ p → sv q = (l.posts q).service) →
      Asking sv u.calling)
    (hold : ∀ q m, (l.tickets.recs[k]).state = .called q m → q = p)
    (halone : ∀ j m, (l.tickets.recs[j]).state = .called p m → j = k) (hserved : (l.tickets.recs[k]).state ≠ .inService)
    (hwaiting : ∀ j, j ∈ u.waiting ↔ j ∈ l.tickets.waiting ∧ j ≠ k) (hwn : u.waiting.Nodup)
    (hskipped : ∀ j, j ∈ u.skipped ↔ j ∈ l.tickets.skipped ∧ j ≠ k) (hsn : u.skipped.Nodup) :
    LineSound excused figures (Line.at { l with tickets := { u with recs := u.recs.set k r } } p
      { l.posts p with service := .called }) := by
  have hset (j : TicketNo) (hj : j ≠ k) : (u.recs.set k r)[j] = l.tickets.recs[j] := by
    rw [getElem_set_ticket, if_neg hj, hrecs j hj]
  have hself : (u.recs.set k r)[k] = r := by rw [getElem_set_ticket, if_pos rfl]
  refine h.turn (u := { u with recs := u.recs.set k r }) (fun _ => hatt) hservice (by decide)
    (fun sv hp hrest => ⟨hasking sv hp hrest, ?_⟩) ?_ ?_
  · exact h.called.call (k := k) ((congrArg TicketRec.state hself).trans hr) hp hold halone hset hrest
  · refine h.listed.ticket (k := k) hset ?_ ?_ (fun j hj => ?_) (fun j hj => ?_) hwn hsn ?_
    · rw [hself, hr]
      exact iff_of_false nofun fun hk => ((hwaiting k).mp hk).2 rfl
    · rw [hself, hr]
      exact iff_of_false nofun fun hk => ((hskipped k).mp hk).2 rfl
    · exact (hwaiting j).trans (and_iff_left hj)
    · exact (hskipped j).trans (and_iff_left hj)
    · rw [hself, hr]
      exact nofun
  · refine h.numbered.ticket (k := k) hset hserved ?_
    rw [hself, hr]
    exact nofun

theorem callTicket_line (h : LineSound excused figures s.floor.line) {u : TicketUnit}
    (hrecs : ∀ j, j ≠ k → u.recs[j] = s.ticket j)
    (hatt : (s.port p).online = true ∧ (s.port p).kind = some .scale) (hservice : (s.port p).service ≠ .serving)
    (hasking : ∀ sv : CounterPort → ServiceState, sv p = .called → (∀ q, q ≠ p → sv q = (s.port q).service) →
      Asking sv u.calling)
    (hold : ∀ q m, (s.ticket k).state = .called q m → q = p)
    (halone : ∀ j m, (s.ticket j).state = .called p m → j = k) (hserved : (s.ticket k).state ≠ .inService)
    (hwaiting : ∀ j, j ∈ u.waiting ↔ j ∈ s.tickets.waiting ∧ j ≠ k) (hwn : u.waiting.Nodup)
    (hskipped : ∀ j, j ∈ u.skipped ↔ j ∈ s.tickets.skipped ∧ j ≠ k) (hsn : u.skipped.Nodup)
    (n : Nat) (cause : CallCause) :
    LineSound excused figures (callTicket k p n cause { s with tickets := u }).floor.line := by
  rw [line_callTicket]
  exact h.call (u := u) rfl hrecs hatt hservice hasking hold halone hserved hwaiting hwn hskipped hsn

theorem calledTicket_some {k : TicketNo} (h : calledTicket s p = some k) : ∃ n, (s.ticket k).state = .called p n := by
  have hk := List.find?_some h
  unfold calledAt at hk
  split at hk
  · next q n hstate =>
    rw [beq_iff_eq] at hk
    exact ⟨n, hk ▸ hstate⟩
  · cases hk

theorem calledTicket_none (h : calledTicket s p = none) (k : TicketNo) (n : Nat) : (s.ticket k).state ≠ .called p n := by
  intro hk
  have hno := List.find?_eq_none.mp h k (List.mem_finRange k)
  rw [hk] at hno
  exact hno (by simp [calledAt])

/-- A ticket called to a station stands on no list. -/
theorem called_off_lists {n : Nat} (h : LineSound excused figures s.floor.line)
    (hk : (s.ticket k).state = .called p n) : k ∉ s.tickets.waiting ∧ k ∉ s.tickets.skipped :=
  ⟨fun hw => ticket_ne hk (by simp) ((h.listed.waiting k).mpr hw),
   fun hl => ticket_ne hk (by simp) ((h.listed.skipped k).mpr hl)⟩

theorem mem_iff_and_ne {α : Type} {l : List α} {a : α} (h : a ∉ l) (b : α) : b ∈ l ↔ b ∈ l ∧ b ≠ a :=
  ⟨fun hb => ⟨hb, fun e => h (e ▸ hb)⟩, fun hb => hb.1⟩

/-! ### Service keys -/

theorem askNext_line (h : LineKept figures s) (hp : ScaleOnline s p) (hfree : (s.port p).service = .free) :
    LineKept figures (askNext p s) := by
  have hnocall (j : TicketNo) (m : Nat) : (s.ticket j).state ≠ .called p m := fun hj =>
    service_ne hfree (by decide) ((h.called.iff p).mpr ⟨j, m, hj⟩)
  unfold askNext
  split
  · next t rest hwaiting =>
    have hnodup : (t :: rest).Nodup := hwaiting ▸ h.listed.waitingNodup
    have hstate : (s.ticket t).state = .waiting := (h.listed.waiting t).mpr (by
      show t ∈ s.tickets.waiting
      rw [hwaiting]; exact List.mem_cons_self)
    have hskip : t ∉ s.tickets.skipped := fun hl => ticket_ne hstate (by decide) ((h.listed.skipped t).mpr hl)
    refine callTicket_line h (k := t) (u := { s.tickets with waiting := rest }) (fun _ _ => rfl) hp.2 (by rw [hfree]; decide) (fun sv hsv hrest => ?_)
      (fun q m hq => ?_) (fun j m hj => absurd hj (hnocall j m)) (by rw [hstate]; decide) (fun j => ?_)
      (List.nodup_cons.mp hnodup).2 (mem_iff_and_ne hskip) h.listed.skippedNodup _ _
    · exact h.asking.same (service_ne hfree (by decide))
        (by rw [hsv]; decide) hrest
    · rw [hstate] at hq
      cases hq
    · rw [hwaiting, List.mem_cons]
      exact ⟨fun hj => ⟨.inr hj, fun e => (List.nodup_cons.mp hnodup).1 (e ▸ hj)⟩, fun ⟨hj, hne⟩ => hj.resolve_left hne⟩
  · unfold LineKept
    rw [line_setService]
    refine h.turn (u := { s.tickets with calling := s.tickets.calling ++ [p] }) (fun _ => hp.2)
      (service_ne hfree (by decide)) (by decide)
      (fun sv hsv hrest => ⟨?_, ?_⟩) h.listed h.numbered
    · exact h.asking.join (service_ne hfree (by decide)) hsv hrest
    · exact h.called.service (service_ne hfree (by decide))
        (by rw [hsv]; decide) hrest

theorem recallTicket_line (h : LineKept figures s) (hp : ScaleOnline s p) {n : Nat}
    (hk : (s.ticket k).state = .called p n) (m : Nat) (cause : CallCause) :
    LineKept figures (callTicket k p m cause s) := by
  have hcalled : (s.port p).service = .called := (h.called.iff p).mpr ⟨k, n, hk⟩
  obtain ⟨hw, hl⟩ := called_off_lists h hk
  refine callTicket_line h (k := k) (u := s.tickets) (fun _ _ => rfl) hp.2 (by rw [hcalled]; decide)
    (fun sv hsv hrest => ?_) (fun q i hq => ?_) (fun j i hj => h.called.once p j k i n hj hk)
    (by rw [hk]; simp) (mem_iff_and_ne hw) h.listed.waitingNodup (mem_iff_and_ne hl) h.listed.skippedNodup m cause
  · exact h.asking.same (service_ne hcalled (by decide)) (by rw [hsv]; decide) hrest
  · rw [hk] at hq
    cases hq
    rfl

theorem clearHeld_station (p q : CounterPort) (s : State) :
    ((clearHeld p s).port q).station = (s.port q).station :=
  congrFun (congrArg Floor.stations (floor_clearHeld p s)) q

theorem callTicket_clearHeld_line (k : TicketNo) (p : CounterPort) (n : Nat) (cause : CallCause) (s : State) :
    (callTicket k p n cause (clearHeld p s)).floor.line = (callTicket k p n cause s).floor.line := by
  rw [line_callTicket, line_callTicket, floor_clearHeld]
  rfl

theorem recallSkipped_line (h : LineKept figures s) (hp : ScaleOnline s p) (hfree : (s.port p).service = .free)
    (n : Nat) : LineKept figures (recallSkipped p n s) := by
  unfold recallSkipped
  split
  · exact h.congr (by simp)
  · next t _ =>
    split
    · next hmem =>
      have hstate : (s.ticket t).state = .skipped := (h.listed.skipped t).mpr (List.contains_iff_mem.mp hmem)
      dsimp only
      refine LineKept.congr ?_ (callTicket_clearHeld_line t p 1 .skipped _)
      refine callTicket_line h (k := t) (u := { s.tickets with skipped := s.tickets.skipped.filter (· ≠ t) })
        (fun _ _ => rfl) hp.2 (by rw [hfree]; decide) (fun sv hsv hrest => ?_) (fun q m hq => ?_)
        (fun j m hj => absurd ((h.called.iff p).mpr ⟨j, m, hj⟩) (service_ne hfree (by decide)))
        (by rw [hstate]; decide) (mem_iff_and_ne fun hw => ticket_ne hstate (by decide) ((h.listed.waiting t).mpr hw))
        h.listed.waitingNodup (fun j => by simp) (h.listed.skippedNodup.filter _) 1 _
      · exact h.asking.same (service_ne hfree (by decide)) (by rw [hsv]; decide) hrest
      · rw [hstate] at hq
        cases hq
    · exact h.congr (by simp)

theorem IdleAt.clearHeld (h : IdleAt s p) : IdleAt (clearHeld p s) p := by
  have hst := clearHeld_station p p s
  obtain ⟨⟨hup, honline, hkind⟩, hsale⟩ := h
  exact ⟨⟨(congrArg Station.state hst).trans hup, (congrArg Station.online hst).trans honline,
    (congrArg Station.kind hst).trans hkind⟩, (congrArg Station.sale hst).trans hsale⟩

theorem LineKept.clearHeld (h : LineKept figures s) (p : CounterPort) : LineKept figures (clearHeld p s) :=
  h.congr (by simp)

theorem nextRefusal_none {v : ServiceState} (h : nextRefusal v = none) : v = .free := by
  cases v <;> simp_all [nextRefusal]

theorem calledRefusal_none {v : ServiceState} (h : calledRefusal v = none) : v = .called := by
  cases v <;> simp_all [calledRefusal]

theorem closedDayFirst_none {m : Option MsgCode} (h : closedDayFirst m s = none) : m = none := by
  unfold closedDayFirst at h
  split at h
  · cases h
  · exact h

theorem serviceKey_line {own : State → State} (h : LineKept figures s) (m : Option MsgCode)
    (hown : m = none → LineKept figures (own s)) : LineKept figures (serviceKey p m own s) := by
  unfold serviceKey
  split
  · exact h.congr (by simp)
  · exact hown rfl

theorem withCalled_line {f : TicketNo → State → State} (h : LineKept figures s)
    (hf : ∀ k n, (s.ticket k).state = .called p n → LineKept figures (f k s)) :
    LineKept figures (withCalled p f s) := by
  unfold withCalled
  split
  · exact h.congr (by simp)
  · next k hk =>
    obtain ⟨n, hn⟩ := calledTicket_some hk
    exact hf k n hn

theorem nextOp_line (h : LineKept figures s) (hp : IdleAt s p) : LineKept figures (nextOp p s) := by
  refine serviceKey_line h _ fun hnone => ?_
  have hfree : (s.port p).service = .free := nextRefusal_none (closedDayFirst_none hnone)
  exact askNext_line (h.clearHeld p) hp.clearHeld.1
    ((congrArg Station.service (clearHeld_station p p s)).trans hfree)

theorem recallSkippedOp_line (h : LineKept figures s) (hp : IdleAt s p) (n : Nat) :
    LineKept figures (recallSkippedOp p n s) :=
  serviceKey_line h _ fun hnone => recallSkipped_line h hp.1 (nextRefusal_none (closedDayFirst_none hnone)) n

theorem recallOp_line (h : LineKept figures s) (hp : IdleAt s p) : LineKept figures (recallOp p s) := by
  refine serviceKey_line h _ fun _ => withCalled_line h fun k n hk => ?_
  unfold recallTicket
  split
  · exact h.congr (by simp)
  · exact LineKept.congr (recallTicket_line h hp.1 hk _ _) (callTicket_clearHeld_line k p _ _ s)

theorem cancelNextOp_line (h : LineKept figures s) : LineKept figures (cancelNextOp p s) := by
  unfold cancelNextOp
  split
  · exact leaveCalling_line (h.clearHeld p)
  · exact h.congr (by simp)

/-! ### Skips and returns -/

/-- The line with a called ticket at the end of the skipped list and its station FREE (R138). -/
def Line.skip (l : Line) (k : TicketNo) (p : CounterPort) : Line :=
  Line.at
    { l with tickets := { l.tickets with
        skipped := l.tickets.skipped ++ [k]
        recs := l.tickets.recs.set k { l.tickets.recs[k] with state := .skipped } } } p
    { l.posts p with service := .free }

theorem LineSound.skip {l : Line} (h : LineSound excused figures l) {n : Nat}
    (hk : l.tickets.recs[k].state = .called p n) : LineSound excused figures (l.skip k p) := by
  have hservice : (l.posts p).service = .called := (h.called.iff p).mpr ⟨k, n, hk⟩
  have hset (j : TicketNo) (r : TicketRec) (hj : j ≠ k) : (l.tickets.recs.set k r)[j] = l.tickets.recs[j] := by
    rw [getElem_set_ticket, if_neg hj]
  have hself (r : TicketRec) : (l.tickets.recs.set k r)[k] = r := by rw [getElem_set_ticket, if_pos rfl]
  have hw : k ∉ l.tickets.waiting := fun hmem => by
    have := (h.listed.waiting k).mpr hmem
    rw [hk] at this
    cases this
  have hl : k ∉ l.tickets.skipped := fun hmem => by
    have := (h.listed.skipped k).mpr hmem
    rw [hk] at this
    cases this
  refine h.turn (fun hv => absurd rfl hv) (by rw [hservice]; decide) (by decide)
    (fun sv hsv hrest => ⟨?_, ?_⟩) ?_ ?_
  · exact h.asking.same (by rw [hservice]; decide) (by rw [hsv]; decide) hrest
  · refine h.called.uncall (k := k) hk (fun q m => ?_) (by rw [hsv]; decide) (fun j hj => hset j _ hj) hrest
    rw [hself]
    exact fun e => by cases e
  · refine h.listed.ticket (k := k) (fun j hj => hset j _ hj) ?_ ?_ (fun _ _ => .rfl) (fun j hj => ?_)
      h.listed.waitingNodup ?_ ?_
    · rw [hself]
      exact iff_of_false (fun e => by cases e) hw
    · rw [hself]
      exact iff_of_true rfl (List.mem_append_right _ (List.mem_singleton_self k))
    · simp [hj]
    · rw [List.nodup_append]
      refine ⟨h.listed.skippedNodup, List.nodup_singleton k, fun a ha b hb e => hl ?_⟩
      rw [List.mem_singleton] at hb
      rwa [← hb, ← e]
    · rw [hself]
      exact fun e => by cases e
  · refine h.numbered.ticket (k := k) (fun j hj => hset j _ hj) ?_ ?_
    · rw [hk]; simp
    · rw [hself]
      exact fun e => by cases e

/-- The oldest skipped ticket is discarded: its number is free. -/
theorem LineSound.discardOldest {l : Line} (h : LineSound excused figures l) {o : TicketNo} {rest : List TicketNo}
    (hlist : l.tickets.skipped = o :: rest) :
    LineSound excused figures { l with tickets := { l.tickets with
      skipped := rest, recs := l.tickets.recs.set o TicketRec.fresh } } := by
  have hnodup : (o :: rest).Nodup := hlist ▸ h.listed.skippedNodup
  have hstate : l.tickets.recs[o].state = .skipped := (h.listed.skipped o).mpr (hlist ▸ List.mem_cons_self)
  have hset (j : TicketNo) (r : TicketRec) (hj : j ≠ o) : (l.tickets.recs.set o r)[j] = l.tickets.recs[j] := by
    rw [getElem_set_ticket, if_neg hj]
  have hself (r : TicketRec) : (l.tickets.recs.set o r)[o] = r := by rw [getElem_set_ticket, if_pos rfl]
  refine h.tickets rfl ?_ ?_ ?_
  · refine h.called.ticket (k := o) (fun q m => ?_) (fun q m => ?_) fun j hj => hset j _ hj
    · rw [hstate]; exact fun e => by cases e
    · rw [hself]; exact fun e => by cases e
  · refine h.listed.ticket (k := o) (fun j hj => hset j _ hj) ?_ ?_ (fun _ _ => .rfl) (fun j hj => ?_)
      h.listed.waitingNodup (List.nodup_cons.mp hnodup).2 fun _ => hself _
    · rw [hself]
      refine iff_of_false (fun e => by cases e) fun hw => ?_
      have hwait := (h.listed.waiting o).mpr hw
      rw [hstate] at hwait
      cases hwait
    · rw [hself]
      exact iff_of_false (fun e => by cases e) (List.nodup_cons.mp hnodup).1
    · rw [hlist, List.mem_cons, or_iff_right hj]
  · refine h.numbered.ticket (k := o) (fun j hj => hset j _ hj) ?_ ?_
    · rw [hstate]; decide
    · rw [hself]; decide

theorem skipTicket_line (h : LineSound excused figures s.floor.line) {n : Nat}
    (hk : (s.ticket k).state = .called p n) : LineSound excused figures (skipTicket k p s).floor.line := by
  by_cases hroom : s.tickets.skipped.length < Config.maxSkipped
  · have hline : (skipTicket k p s).floor.line = s.floor.line.skip k p := by
      rw [skipTicket_room hroom]
      exact congrArg (Line.mk _ _ _) (congrArg Line.posts (line_setService p .free s))
    rw [hline]
    exact h.skip hk
  · obtain ⟨o, rest, hlist⟩ := List.exists_cons_of_length_pos
      (Nat.lt_of_lt_of_le (by decide : 0 < Config.maxSkipped) (Nat.not_lt.mp hroom))
    have hne : k ≠ o := by
      rintro rfl
      refine (called_off_lists h hk).2 ?_
      rw [hlist]
      exact List.mem_cons_self
    have hsame : (s.tickets.recs.set o TicketRec.fresh)[k] = s.ticket k := by
      rw [getElem_set_ticket, if_neg hne]
      rfl
    have hline : (skipTicket k p s).floor.line = Line.skip
        { s.floor.line with tickets := { s.tickets with
            skipped := rest, recs := s.tickets.recs.set o TicketRec.fresh } } k p := by
      rw [skipTicket_full hlist (Nat.not_lt.mp hroom), Line.skip]
      simp only [hsame]
      exact congrArg (Line.mk _ _ _) (congrArg Line.posts (line_setService p .free s))
    rw [hline]
    refine (h.discardOldest hlist).skip (n := n) ?_
    show (s.tickets.recs.set o TicketRec.fresh)[k].state = _
    rw [hsame]
    exact hk

theorem skipOp_line (h : LineKept figures s) : LineKept figures (skipOp p s) :=
  serviceKey_line h _ fun _ => withCalled_line h fun k n hk => by
    refine skipTicket_line (n := n) (h.clearHeld p) ?_
    exact hk

end Sys2Proof.Machine
end

section
/-! PROOFS. Orders: SERVE, PARK, PICKUP, CLOSE_ORDER and the ends of orders keep the line sound. -/

namespace Sys2Proof.Machine

variable {excused : CounterPort → Prop} {figures : Prop} {s : State} {p : CounterPort} {k : TicketNo}

/-! ### The next order number (R147) -/

/-- The i-th number counted up from one, 1 standing behind 9,999. -/
theorem iterate_orderNumberAfter (n : Nat) {i : Nat} (hpos : 0 < i) (hi : i ≤ 9999) :
    orderNumberAfter^[i] n = if min n 9999 + i ≤ 9999 then min n 9999 + i else min n 9999 + i - 9999 := by
  induction i with
  | zero => exact absurd hpos (lt_irrefl 0)
  | succ i ih =>
    rw [Function.iterate_succ_apply']
    obtain rfl | hi0 := Nat.eq_zero_or_pos i
    · rw [Function.iterate_zero, id, orderNumberAfter, Config.maxOrderNumber]
      by_cases hn : 9999 ≤ n
      · rw [if_pos hn, Nat.min_eq_right hn]; rfl
      · rw [if_neg hn, Nat.min_eq_left (by omega), if_pos (by omega)]
    · rw [ih hi0 (by omega)]
      simp only [orderNumberAfter, Config.maxOrderNumber]
      split_ifs <;> omega

theorem iterate_orderNumberAfter_inj (n : Nat) : Set.InjOn (fun i => orderNumberAfter^[i] n) (Set.Iio 32) := by
  intro i hi j hj he
  simp only [Set.mem_Iio] at hi hj
  dsimp only at he
  obtain rfl | hi0 := Nat.eq_zero_or_pos i <;> obtain rfl | hj0 := Nat.eq_zero_or_pos j
  · rfl
  · rw [iterate_orderNumberAfter n hj0 (by omega), Function.iterate_zero, id] at he
    split_ifs at he <;> omega
  · rw [iterate_orderNumberAfter n hi0 (by omega), Function.iterate_zero, id] at he
    split_ifs at he <;> omega
  · rw [iterate_orderNumberAfter n hi0 (by omega), iterate_orderNumberAfter n hj0 (by omega)] at he
    split_ifs at he <;> omega

theorem orderOf_isSome (os : List Order) (n : Nat) : (orderOf os n).isSome = true ↔ n ∈ os.map (·.number) := by
  simp [orderOf]

/-- Where the search ends at a number that is held, it has passed none that is not. -/
theorem freeOrderNumber_held (os : List Order) (m n : Nat) (h : freeOrderNumber os m n ∈ os.map (·.number)) :
    ∀ i < m, orderNumberAfter^[i] n ∈ os.map (·.number) := by
  induction m generalizing n with
  | zero => intro i hi; omega
  | succ m ih =>
    rw [freeOrderNumber] at h
    split at h
    · next hn =>
      intro i hi
      obtain rfl | hi0 := Nat.eq_zero_or_pos i
      · exact (orderOf_isSome os n).mp hn
      · obtain ⟨i, rfl⟩ : ∃ i', i = i' + 1 := ⟨i - 1, by omega⟩
        rw [Function.iterate_succ_apply]
        exact ih _ h i (by omega)
    · next hn => exact absurd ((orderOf_isSome os n).mpr h) hn

/-- With fewer than 32 live orders the number found is held by none. -/
theorem freeOrderNumber_free {os : List Order} (hroom : os.length < Config.maxOrders) (n : Nat) :
    ∀ x ∈ os, x.number ≠ freeOrderNumber os Config.maxOrders n := by
  intro x hx he
  have hall := freeOrderNumber_held os Config.maxOrders n (he ▸ List.mem_map_of_mem hx)
  have hsub : (Finset.range 32).image (fun i => orderNumberAfter^[i] n) ⊆ (os.map (·.number)).toFinset := by
    intro m hm
    obtain ⟨i, hi, rfl⟩ := Finset.mem_image.mp hm
    exact List.mem_toFinset.mpr (hall i (Finset.mem_range.mp hi))
  have hcard : ((Finset.range 32).image (fun i => orderNumberAfter^[i] n)).card = 32 := by
    rw [Finset.card_image_of_injOn, Finset.card_range]
    intro i hi j hj
    exact iterate_orderNumberAfter_inj n (by simpa using hi) (by simpa using hj)
  have hle := (Finset.card_le_card hsub).trans (List.toFinset_card_le _)
  rw [hcard, List.length_map] at hle
  exact absurd hroom (by simpa [Config.maxOrders] using hle)

/-! ### SERVE -/

theorem newOrder_figured (p : CounterPort) (k : TicketNo) (n : Nat) : (newOrder p k n).Figured := by
  simp [Order.Figured, newOrder]

theorem serveTicket_line (h : LineKept figures s) (hp : IdleAt s p) {n : Nat}
    (hk : (s.ticket k).state = .called p n) : LineKept figures (serveTicket p k s) := by
  unfold serveTicket
  split
  · exact h.congr (by simp)
  · next hroom =>
    have hroom : s.orders.length < Config.maxOrders := Nat.not_le.mp hroom
    have hservice : (s.port p).service = .called := (h.called.iff p).mpr ⟨k, n, hk⟩
    have hnumber := freeOrderNumber_free hroom s.ret.day.nextOrder
    generalize hm : freeOrderNumber s.orders Config.maxOrders s.ret.day.nextOrder = m at hnumber
    have hline : (openOrder p k (beginService k (clearHeld p s))).floor.line =
        Line.at ⟨{ s.tickets with recs := s.tickets.recs.set k { s.ticket k with state := .inService } },
          insertOrder (newOrder p k m) s.orders, s.composer, s.floor.line.posts⟩ p
          { s.floor.line.posts p with service := .serving } := by
      have hposts : (clearHeld p s).floor.line.posts = s.floor.line.posts := by rw [floor_clearHeld]
      unfold openOrder
      dsimp only
      rw [line_setService, ← hposts, ← hm]
      rfl
    unfold LineKept
    rw [hline]
    have hset (j : TicketNo) (r : TicketRec) (hj : j ≠ k) : (s.tickets.recs.set k r)[j] = s.tickets.recs[j] := by
      rw [getElem_set_ticket, if_neg hj]
    have hself (r : TicketRec) : (s.tickets.recs.set k r)[k] = r := by rw [getElem_set_ticket, if_pos rfl]
    refine h.place (fun _ => hp.1.2) (fun sv hsv hrest => ⟨?_, ?_, ?_⟩) ?_ ?_ ?_ fun hf o ho => ?_
    · exact h.asking.same (service_ne hservice (by decide)) (by rw [hsv]; decide) hrest
    · refine h.called.uncall (k := k) hk (fun q i => ?_) (by rw [hsv]; decide) (fun j hj => hset j _ hj) hrest
      rw [hself]
      exact fun e => by cases e
    · refine h.serving.opens (n := newOrder p k m) (service_ne hservice (by decide)) hsv hrest
        ⟨(insertOrder_mem _ _ _).mpr (.inl rfl), rfl⟩ (fun o ho hop => ?_) fun o q hq hoq => ?_
      · obtain rfl | ho := (insertOrder_mem _ _ _).mp ho
        · rfl
        · exact absurd ((h.serving.iff p).mpr ⟨o, ho, hop⟩) (service_ne hservice (by decide))
      · rw [insertOrder_mem]
        refine or_iff_right fun e => hq ?_
        rw [e] at hoq
        cases hoq
        rfl
    · obtain ⟨hw, hl⟩ := called_off_lists h hk
      refine h.listed.off (k := k) (fun j hj => hset j _ hj) ?_ ?_ ?_
      · exact ⟨ticket_ne hk (by simp), ticket_ne hk (by simp)⟩
      · rw [hself]; exact ⟨nofun, nofun⟩
      · rw [hself]; exact fun e => by cases e
    · refine h.numbered.insert (o := newOrder p k m) hroom hnumber (ticket_ne hk (by simp)) (fun j hj => hset j _ hj) ?_
      exact congrArg TicketRec.state (hself _)
    · exact h.jobs.orders fun j _ _ o ho hs => ⟨o, (insertOrder_mem _ _ _).mpr (.inr ho), hs⟩
    · obtain rfl | ho := (insertOrder_mem _ _ _).mp ho
      · exact newOrder_figured p k m
      · exact h.figured hf o ho

theorem serveOp_line (h : LineKept figures s) (hp : IdleAt s p) : LineKept figures (serveOp p s) :=
  serviceKey_line h _ fun _ => withCalled_line h fun _ _ hk => serveTicket_line h hp hk

end Sys2Proof.Machine
end

section
/-! PROOFS. PARK, PICKUP, the ends of orders, and the keys that make or void a sale keep the line sound. -/

namespace Sys2Proof.Machine

variable {excused : CounterPort → Prop} {figures : Prop} {s : State} {p : CounterPort} {k : TicketNo} {l : Line}

/-! ### Orders found -/

theorem orderOf_some {os : List Order} {n : Nat} {o : Order} (h : orderOf os n = some o) : o ∈ os ∧ o.number = n :=
  ⟨List.mem_of_find?_eq_some h, by simpa using List.find?_some h⟩

theorem orderOpenAt_some {os : List Order} {o : Order} (h : orderOpenAt os p = some o) :
    o ∈ os ∧ o.state = .openAt p := ⟨List.mem_of_find?_eq_some h, by simpa using List.find?_some h⟩

theorem withOpenOrder_line {f : Order → State → State} (h : LineKept figures s)
    (hf : ∀ o, o ∈ s.orders → o.state = .openAt p → LineKept figures (f o s)) :
    LineKept figures (withOpenOrder p f s) := by
  unfold withOpenOrder
  split
  · split
    · exact h.congr (by simp)
    · next o ho => exact hf o (orderOpenAt_some ho).1 (orderOpenAt_some ho).2
  · exact h.congr (by simp)

theorem IdleAt.unbound (h : LineKept figures s) (hp : IdleAt s p) : Unbound figures s.composer p :=
  Unbound.of_sale h.jobs (by rw [show (s.floor.line.posts p).sale = .idle from hp.2]; decide)

/-- One order's record changed. -/
def withOrder (n : Nat) (f : Order → Order) (x : Order) : Order := if x.number = n then f x else x

/-! ### An order moves or ends -/

/-- An order OPEN at a station is PARKED there (R153, R156). -/
theorem LineSound.park (h : LineSound excused figures l) (hfree : Unbound figures l.composer p) {o : Order}
    (ho : o ∈ l.orders) (hop : o.state = .openAt p) {f : Order → Order}
    (hf : ∀ x, (f x).number = x.number ∧ (f x).ticket = x.ticket ∧ (f x).lines = x.lines ∧ (f x).total = x.total ∧
      (f x).state = .parked) :
    LineSound excused figures (Line.at ⟨l.tickets, l.orders.map (withOrder o.number f), l.composer, l.posts⟩ p
      { l.posts p with service := .free }) := by
  have hother (x : Order) (hx : x ∈ l.orders) {q : CounterPort} (hq : q ≠ p) (hxq : x.state = .openAt q) :
      withOrder o.number f x = x := if_neg fun e => by
    rw [h.numbered.eq_of_number hx ho e, hop] at hxq
    cases hxq
    exact hq rfl
  have hservice : (l.posts p).service = .serving := (h.serving.iff p).mpr ⟨o, ho, hop⟩
  refine h.place (fun hv => absurd rfl hv) (fun sv hsv hrest => ⟨?_, ?_, ?_⟩) h.listed ?_ ?_ fun hfig x hx => ?_
  · exact h.asking.same (by rw [hservice]; decide) (by rw [hsv]; decide) hrest
  · exact h.called.service (by rw [hservice]; decide) (by rw [hsv]; decide) hrest
  · refine h.serving.close (by rw [hsv]; decide) hrest (fun x hx hxp => ?_) fun x q hq hxq => ⟨fun hx => ?_, fun hx => ?_⟩
    · obtain ⟨y, hy, rfl⟩ := List.mem_map.mp hx
      unfold withOrder at hxp
      split at hxp
      · rw [(hf y).2.2.2.2] at hxp
        cases hxp
      · next hne => exact hne (congrArg Order.number (h.serving.once y hy o ho p hxp hop))
    · obtain ⟨y, hy, rfl⟩ := List.mem_map.mp hx
      unfold withOrder at hxq ⊢
      split at hxq
      · rw [(hf y).2.2.2.2] at hxq
        cases hxq
      · next hne => rw [if_neg hne]; exact hy
    · exact List.mem_map.mpr ⟨x, hx, hother x hx hq hxq⟩
  · refine h.numbered.map fun x => ?_
    unfold withOrder
    split
    · exact ⟨(hf x).1, (hf x).2.1⟩
    · exact ⟨rfl, rfl⟩
  · refine h.jobs.orders fun j hlive hbound x hx hs => ⟨x, ?_, hs⟩
    exact List.mem_map.mpr ⟨x, hx, hother x hx (hfree j hlive hbound) hs.here⟩
  · obtain ⟨y, hy, rfl⟩ := List.mem_map.mp hx
    unfold withOrder
    split
    · obtain ⟨-, -, hlines, htotal, -⟩ := hf y
      unfold Order.Figured
      rw [hlines, htotal]
      exact h.figured hfig y hy
    · exact h.figured hfig y hy

/-- A PARKED order is OPEN at a station that served none (R154). -/
theorem LineSound.pickup (h : LineSound excused figures l) (hfree : (l.posts p).service = .free)
    (hp : (l.posts p).online = true ∧ (l.posts p).kind = some .scale) {o : Order}
    (ho : o ∈ l.orders) (hparked : o.state = .parked) {f : Order → Order}
    (hf : ∀ x, (f x).number = x.number ∧ (f x).ticket = x.ticket ∧ (f x).lines = x.lines ∧ (f x).total = x.total ∧
      (f x).state = .openAt p) :
    LineSound excused figures (Line.at ⟨l.tickets, l.orders.map (withOrder o.number f), l.composer, l.posts⟩ p
      { l.posts p with service := .serving }) := by
  have hother (x : Order) (hx : x ∈ l.orders) {q : CounterPort} (hxq : x.state = .openAt q) :
      withOrder o.number f x = x := if_neg fun e => by
    rw [h.numbered.eq_of_number hx ho e, hparked] at hxq
    cases hxq
  refine h.place (fun _ => hp) (fun sv hsv hrest => ⟨?_, ?_, ?_⟩) h.listed ?_ ?_ fun hfig x hx => ?_
  · exact h.asking.same (by rw [hfree]; decide) (by rw [hsv]; decide) hrest
  · exact h.called.service (by rw [hfree]; decide) (by rw [hsv]; decide) hrest
  · refine h.serving.opens (n := f o) (by rw [hfree]; decide) hsv hrest
      ⟨List.mem_map.mpr ⟨o, ho, if_pos rfl⟩, (hf o).2.2.2.2⟩ (fun x hx hxp => ?_)
      fun x q hq hxq => ⟨fun hx => ?_, fun hx => ?_⟩
    · obtain ⟨y, hy, rfl⟩ := List.mem_map.mp hx
      unfold withOrder at hxp ⊢
      split at hxp
      · next he =>
        rw [if_pos he, h.numbered.eq_of_number hy ho he]
      · have hserving := (h.serving.iff p).mpr ⟨y, hy, hxp⟩
        rw [hfree] at hserving
        cases hserving
    · obtain ⟨y, hy, rfl⟩ := List.mem_map.mp hx
      unfold withOrder at hxq ⊢
      split at hxq
      · rw [(hf y).2.2.2.2] at hxq
        cases hxq
        exact absurd rfl hq
      · next hne => rw [if_neg hne]; exact hy
    · exact List.mem_map.mpr ⟨x, hx, hother x hx hxq⟩
  · refine h.numbered.map fun x => ?_
    unfold withOrder
    split
    · exact ⟨(hf x).1, (hf x).2.1⟩
    · exact ⟨rfl, rfl⟩
  · exact h.jobs.orders fun j hlive hbound x hx hs =>
      ⟨x, List.mem_map.mpr ⟨x, hx, hother x hx hs.here⟩, hs⟩
  · obtain ⟨y, hy, rfl⟩ := List.mem_map.mp hx
    unfold withOrder
    split
    · obtain ⟨-, -, hlines, htotal, -⟩ := hf y
      unfold Order.Figured
      rw [hlines, htotal]
      exact h.figured hfig y hy
    · exact h.figured hfig y hy

/-- The tickets and orders with an order gone and its ticket's number freed (R143). -/
def Line.free (l : Line) (o : Order) : Line :=
  { l with
    tickets := { l.tickets with recs := l.tickets.recs.set o.ticket TicketRec.fresh }
    orders := l.orders.filter fun x => x.number ≠ o.number }

@[simp] theorem line_freeOrder (o : Order) (s : State) : (freeOrder o s).floor.line = s.floor.line.free o := rfl

section
variable {o : Order} (h : LineSound excused figures l) (ho : o ∈ l.orders)
include h ho

theorem LineSound.free_called {sv : CounterPort → ServiceState}
    (hcalled : Called sv fun k => l.tickets.recs[k]) : Called sv fun k => (l.free o).tickets.recs[k] := by
  refine hcalled.ticket (k := o.ticket) (fun q m he => ?_) (fun q m he => ?_) fun j hj => ?_
  · have hserved := (h.numbered.iff o.ticket).mpr ⟨o, ho, rfl⟩
    rw [hserved] at he
    cases he
  · rw [Line.free, getElem_set_ticket, if_pos rfl] at he
    cases he
  · rw [Line.free, getElem_set_ticket, if_neg hj]

theorem LineSound.free_listed : Listed (fun k => (l.free o).tickets.recs[k]) l.tickets.waiting l.tickets.skipped := by
  have hserved := (h.numbered.iff o.ticket).mpr ⟨o, ho, rfl⟩
  refine h.listed.off (k := o.ticket) (fun j hj => ?_) ?_ ?_ fun _ => ?_
  · rw [Line.free, getElem_set_ticket, if_neg hj]
  · rw [hserved]; decide
  · rw [Line.free, getElem_set_ticket, if_pos rfl]; decide
  · rw [Line.free, getElem_set_ticket, if_pos rfl]

theorem LineSound.free_numbered : Numbered (fun k => (l.free o).tickets.recs[k]) (l.free o).orders := by
  refine h.numbered.remove ho (fun j hj => ?_) ?_
  · rw [Line.free, getElem_set_ticket, if_neg hj]
  · rw [Line.free, getElem_set_ticket, if_pos rfl]; decide

theorem LineSound.free_jobs
    (hunserved : ∀ j, l.composer.Live j → j.Bound figures → o.state ≠ .openAt j.station) :
    Jobs figures (fun q => (l.posts q).sale) (l.free o).orders l.composer := by
  refine h.jobs.orders fun j hlive hbound x hx hs => ⟨x, List.mem_filter.mpr ⟨hx, ?_⟩, hs⟩
  simpa using fun e => hunserved j hlive hbound (h.numbered.eq_of_number hx ho e ▸ hs.here)

/-- The order OPEN at a station ends and the station is FREE. -/
theorem LineSound.finish (hop : o.state = .openAt p) (hfree : Unbound figures l.composer p) :
    LineSound excused figures ((l.free o).at p { l.posts p with service := .free }) := by
  have hservice : (l.posts p).service = .serving := (h.serving.iff p).mpr ⟨o, ho, hop⟩
  refine h.place (fun hv => absurd rfl hv) (fun sv hsv hrest => ⟨?_, ?_, ?_⟩) (h.free_listed ho)
    (h.free_numbered ho) (h.free_jobs ho fun j hlive hbound e => ?_)
    fun hfig x hx => h.figured hfig x (List.mem_of_mem_filter hx)
  · exact h.asking.same (by rw [hservice]; decide) (by rw [hsv]; decide) hrest
  · exact h.free_called ho (h.called.service (by rw [hservice]; decide) (by rw [hsv]; decide) hrest)
  · refine h.serving.close (by rw [hsv]; decide) hrest (fun x hx hxp => ?_) fun x q hq hxq => ?_
    · obtain ⟨hx, hne⟩ := List.mem_filter.mp hx
      simp [h.serving.once x hx o ho p hxp hop] at hne
    · refine List.mem_filter.trans (and_iff_left_of_imp fun hx => ?_)
      refine decide_eq_true fun e => hq ?_
      rw [h.numbered.eq_of_number hx ho e, hop] at hxq
      cases hxq
      rfl
  · rw [hop] at e
    cases e
    exact hfree j hlive hbound rfl

/-- A PARKED order ends. -/
theorem LineSound.abandon (hparked : o.state = .parked) : LineSound excused figures (l.free o) := by
  refine h.regroup h.attended h.asking (h.free_called ho h.called) ⟨fun q => ?_, ?_⟩ (h.free_listed ho)
    (h.free_numbered ho) (h.free_jobs ho fun j _ _ e => ?_)
    fun hfig x hx => h.figured hfig x (List.mem_of_mem_filter hx)
  · rw [h.serving.iff]
    constructor
    · rintro ⟨x, hx, hxq⟩
      refine ⟨x, List.mem_filter.mpr ⟨hx, ?_⟩, hxq⟩
      refine decide_eq_true fun e => ?_
      rw [h.numbered.eq_of_number hx ho e, hparked] at hxq
      cases hxq
    · rintro ⟨x, hx, hxq⟩
      exact ⟨x, List.mem_of_mem_filter hx, hxq⟩
  · exact fun x hx y hy q => h.serving.once x (List.mem_of_mem_filter hx) y (List.mem_of_mem_filter hy) q
  · rw [hparked] at e
    cases e

end

end Sys2Proof.Machine
end

section
/-! PROOFS. Keys: orders, voids, sales, reprints, log-in, and the STATUS frame keep the line sound. -/

namespace Sys2Proof.Machine

variable {excused : CounterPort → Prop} {figures : Prop} {s : State} {p : CounterPort} {k : TicketNo} {l : Line}

/-! ### Order keys -/

theorem modOrder_line (n : Nat) (f : Order → Order) (s : State) :
    (modOrder n f s).floor.line = { s.floor.line with orders := s.orders.map (withOrder n f) } := rfl

theorem parkOp_line (h : LineKept figures s) (hp : IdleAt s p) :
    LineKept figures (withOpenOrder p (parkOrder p) s) := by
  refine withOpenOrder_line h fun o ho hop => ?_
  unfold LineKept parkOrder
  rw [line_setService, modOrder_line, floor_clearHeld]
  exact h.park (f := fun x => { x with state := .parked, idle := 0 }) (hp.unbound h) ho hop
    fun x => ⟨rfl, rfl, rfl, rfl, rfl⟩

theorem pickupOp_line (h : LineKept figures s) (hp : IdleAt s p) (n : Nat) : LineKept figures (pickupOp p n s) := by
  refine serviceKey_line h _ fun hnone => ?_
  have hfree : (s.port p).service = .free := nextRefusal_none hnone
  unfold pickupOrder
  split
  · exact h.congr (by simp)
  · next o hfound =>
    have hparked : o.state = .parked := by
      have hkey := List.find?_some hfound
      simp only [Bool.and_eq_true, decide_eq_true_eq] at hkey
      exact hkey.1
    unfold LineKept
    rw [line_setService, modOrder_line, floor_clearHeld]
    exact h.pickup (f := fun x => { x with state := .openAt p, idle := 0 }) hfree hp.1.2
      (List.mem_of_find?_eq_some hfound) hparked fun x => ⟨rfl, rfl, rfl, rfl, rfl⟩

theorem closeEmpty_line (h : LineKept figures s) (hp : IdleAt s p) {o : Order} (ho : o ∈ s.orders)
    (hop : o.state = .openAt p) : LineKept figures (closeEmpty p o s) := by
  unfold LineKept closeEmpty
  rw [floor_notify, line_setService, line_freeOrder, floor_clearHeld]
  exact h.finish ho hop (hp.unbound h)

/-! ### Jobs that join (R102) -/

theorem live_append {c : Composer} {j x : Job}
    (h : Composer.Live { c with queue := c.queue ++ [j] } x) : c.Live x ∨ x = j := by
  obtain hx | hx := h
  · obtain hx | hx := List.mem_append.mp hx
    · exact .inl (.inl hx)
    · exact .inr (List.mem_singleton.mp hx)
  · exact .inl (.inr hx)

@[simp] theorem line_joinComposer (j : Job) (s : State) : (joinComposer j s).floor.line =
    { s.floor.line with composer := { s.composer with queue := s.composer.queue ++ [j] } } := by
  obtain ⟨-, h⟩ | ⟨-, h⟩ := joinComposer_cases j s <;> rw [h]
  · rw [floor_holdMessage]
    rfl
  · rfl

/-- A job joins for a station that has none, placed where it is bound to an order. -/
theorem LineSound.join (h : LineSound excused figures l) {j : Job}
    (hqueue : ∀ d, l.composer.current = some d → d.job.station = j.station → d.dropped = true)
    (hplaced : j.Bound figures → (l.posts j.station).sale = .printing ∧ ∃ o ∈ l.orders, Serves figures o j) :
    LineSound excused figures { l with composer := { l.composer with queue := l.composer.queue ++ [j] } } := by
  refine h.recompose ⟨fun x hlive hbound => ?_, fun d hd hdropped x hx => ?_⟩
  · obtain hlive | rfl := live_append hlive
    · exact h.jobs.placed x hlive hbound
    · exact hplaced hbound
  · obtain hx | hx := List.mem_append.mp hx
    · exact h.jobs.apart d hd hdropped x hx
    · rw [List.mem_singleton.mp hx]
      intro e
      rw [hqueue d hd e.symm] at hdropped
      cases hdropped

theorem queueSummary_line (h : LineKept figures s) (hp : IdleAt s p) {o : Order} (ho : o ∈ s.orders)
    (hop : o.state = .openAt p) (hjob : hasJob s p = false) : LineKept figures (queueSummary p o s) := by
  have hunbound := hp.unbound h
  have hflag : LineKept figures (modOrder o.number (fun x => { x with summaryInFlight := true }) s) := by
    refine LineSound.reorder (f := withOrder o.number fun x => { x with summaryInFlight := true }) h
      (fun x => ?_) (fun j _ _ x _ hs => ?_) fun _ x _ hx => ?_
    · unfold withOrder; split <;> exact ⟨rfl, rfl, rfl⟩
    · refine hs.mono ?_ ?_ (fun _ => ?_) fun _ => ?_ <;> unfold withOrder <;> split <;> simp
    · unfold withOrder; split <;> exact hx
  have hsale := setSale_line (p := p) hflag hunbound .printing none
  unfold LineKept queueSummary
  dsimp only
  rw [line_joinComposer]
  refine hsale.join (j := ⟨p, .summary o.number (s.port p).operator s.clock.stamp⟩)
    ((hasJob_false_iff s p).mp hjob).2 fun _ => ⟨?_, withOrder o.number _ o, List.mem_map_of_mem ho, ?_⟩
  · rw [line_setSale, LineSound.at_self]
  · rw [withOrder, if_pos rfl]
    exact ⟨hop, fun n _ _ he => by cases he; rfl, fun _ sr n _ he => by cases he⟩

theorem closeOrderOp_line (h : LineKept figures s) (hp : IdleAt s p) :
    LineKept figures (withOpenOrder p (closeOrder p) s) := by
  refine withOpenOrder_line h fun o ho hop => ?_
  unfold closeOrder
  split
  · exact h.congr (by simp)
  · next hjob =>
    split
    · exact closeEmpty_line h hp ho hop
    · split
      · exact h.congr (by simp)
      · exact queueSummary_line h hp ho hop (by simpa using hjob)

theorem reprintOp_line (h : LineKept figures s) (n : Nat) : LineKept figures (reprintOp p n s) := by
  unfold reprintOp
  split
  · exact h.congr (by simp)
  · next hnone =>
    unfold LineKept
    rw [line_joinComposer, floor_clearHeld]
    refine LineSound.join (j := ⟨p, .reprint n⟩) h ((hasJob_false_iff s p).mp (reprintRefusal_hasJob hnone)).2 ?_
    rintro (⟨_, _, _, he⟩ | ⟨-, _, _, _, he, -⟩) <;> cases he

/-! ### Sales -/

theorem KeyAt.unbound (h : LineKept figures s) (hp : KeyAt s p) : Unbound figures s.composer p := by
  refine Unbound.of_sale h.jobs ?_
  show (s.port p).sale ≠ .printing
  obtain ⟨-, hsale | hsale⟩ := hp <;> rw [hsale] <;> decide

theorem line_modPort_at {f : Port → Port} {g : Post → Post} (h : ∀ c, (f c).station.post = g c.station.post)
    (p : CounterPort) (s : State) :
    (modPort p f s).floor.line = s.floor.line.at p (g (s.floor.line.posts p)) := by
  rw [modPort, line_setPort, h]
  rfl

theorem pluOp_line (h : LineKept figures s) (hp : KeyAt s p) (n : Nat) : LineKept figures (pluOp p n s) := by
  have hopen (r : ItemRecord) (u : State) : (openSnapshot p r u).floor.line =
      u.floor.line.at p { u.floor.line.posts p with sale := .item } := by
    unfold openSnapshot
    dsimp only
    rw [line_modPort_at (g := fun c => { c with sale := .item }) (fun _ => by rfl), floor_reprice,
      floor_offerPreset, line_modPort (fun _ => by rfl)]
  unfold pluOp
  split
  · exact h.congr (by simp)
  · unfold LineKept
    dsimp only
    rw [hopen, line_closeSnapshotFor]
    exact h.resale .item (hp.unbound h)

theorem servedOrder_some {o : Order} (h : servedOrder s p = some o) : o ∈ s.orders ∧ o.state = .openAt p := by
  unfold servedOrder at h
  split at h
  · exact orderOpenAt_some h
  · cases h

/-- What an accepted PRINT knows of the order that its sale joins (R56 checks 5 and 6). -/
theorem printRefusal_room {sn : Snapshot} {final : Nat} {o : Order} (h : printRefusal s p sn final = none)
    (ho : servedOrder s p = some o) : o.lines.length < Config.maxLines ∧ o.total + final ≤ Config.maxOrderTotal := by
  unfold printRefusal at h
  rw [ho] at h
  simp only [Option.any_some] at h
  repeat' split at h
  all_goals simp_all

theorem printOp_line (h : LineKept figures s) (hp : KeyAt s p) : LineKept figures (printOp p s) := by
  unfold printOp
  split
  · exact h.congr (by simp)
  · next sr hsr =>
    obtain ⟨sn, q, a, -, -, -, hnone, rfl⟩ := printSale_ok hsr
    have hsale : LineKept figures (modPort p (fun c =>
        { c with
          sale := .printing
          record := some (saleRecord s p sn q a)
          snapshot := c.snapshot.map fun sn => { sn with live := none }
          held := none
          displayDue := true }) s) := by
      unfold LineKept
      rw [modPort, line_setPort]
      exact h.resale .printing (hp.unbound h)
    unfold LineKept enterPrinting
    rw [line_joinComposer]
    refine hsale.join (j := ⟨p, .item (saleRecord s p sn q a)⟩)
      ((hasJob_false_iff s p).mp (printRefusal_hasJob hnone)).2 fun hbound => ⟨?_, ?_⟩
    · rw [modPort, line_setPort, LineSound.at_self]
      rfl
    · obtain ⟨_, _, _, he⟩ | ⟨-, sr, n, k, he, horder⟩ := hbound
      · cases he
      · cases he
        obtain ⟨o, ho, hpair⟩ := Option.map_eq_some_iff.mp
          (show (servedOrder s p).map (fun o => (o.number, o.ticket)) = some (n, k) from horder)
        cases hpair
        obtain ⟨hlines, htotal⟩ := printRefusal_room hnone ho
        obtain ⟨hmem, hhere⟩ := servedOrder_some ho
        refine ⟨o, hmem, hhere, nofun, fun _ sr n k he horder' => ?_⟩
        cases he
        rw [horder] at horder'
        cases horder'
        exact ⟨rfl, hlines, htotal⟩

end Sys2Proof.Machine
end

section
/-! PROOFS. Voids, log-in, the STATUS frame, tickets issued, and jobs taken and completed keep the line sound. -/

namespace Sys2Proof.Machine

variable {excused : CounterPort → Prop} {figures : Prop} {s : State} {p : CounterPort} {k : TicketNo} {l : Line}

/-! ### Voided lines (R152) -/

/-- Finals of the unvoided lines of a serial number. -/
def unvoidedOf (serial : Nat) (lines : List OrderLine) : Nat :=
  ((lines.filter fun x => x.serial == serial && !x.voided).map (·.final)).sum

/-- Finals of all the unvoided lines. -/
def unvoidedSum (lines : List OrderLine) : Nat := ((lines.filter fun x => !x.voided).map (·.final)).sum

theorem sum_voided (serial : Nat) (lines : List OrderLine) :
    unvoidedSum (lines.map fun x => if x.serial = serial then { x with voided := true } else x) +
      unvoidedOf serial lines = unvoidedSum lines := by
  induction lines with
  | nil => rfl
  | cons x xs ih =>
    unfold unvoidedSum unvoidedOf at ih ⊢
    by_cases hx : x.serial = serial <;> cases hv : x.voided <;> simp [hx, hv] <;> omega

theorem voidLine_figured {o : Order} (serial : Nat) (h : o.Figured) : (voidLine serial o).Figured := by
  obtain ⟨hlines, htotal, hmax⟩ := h
  obtain ⟨-, -, -, hlength, hle⟩ := voidLine_frame serial o
  refine ⟨hlength ▸ hlines, ?_, hle.trans hmax⟩
  have hsum := sum_voided serial o.lines
  show o.total - unvoidedOf serial o.lines = unvoidedSum _
  rw [show o.total = unvoidedSum o.lines from htotal]
  exact (Nat.eq_sub_of_add_eq hsum).symm

theorem markLineVoided_line (h : LineSound excused figures s.floor.line) (n serial : Nat) (keyed : Bool) :
    LineSound excused figures (markLineVoided n serial keyed s).floor.line := by
  obtain he | ⟨o, -, he⟩ := markLineVoided_cases n serial keyed s <;> rw [he]
  · exact h
  · rw [modOrder_line]
    refine h.reorder (fun x => ?_) (fun j _ _ x _ hs => ?_) fun _ x _ hx => ?_
    · obtain ⟨h1, h2, h3, -, -⟩ := voidLine_frame serial x
      unfold withOrder
      split
      · exact ⟨h1, h2, h3⟩
      · exact ⟨rfl, rfl, rfl⟩
    · obtain ⟨h1, -, h3, h4, h5⟩ := voidLine_frame serial x
      unfold withOrder
      split
      · exact hs.mono h3 h1 (fun _ => h4.le) fun _ => h5
      · exact hs
    · unfold withOrder
      split
      · exact voidLine_figured serial hx
      · exact hx

theorem voidOp_line (h : LineKept figures s) (n : Nat) : LineKept figures (voidOp p n s) := by
  unfold voidOp
  split
  · exact h.congr (by simp)
  · next e sr _ =>
    have hcounted : LineKept figures (countVoid p (s.port p).operator sr.amounts.final
        (modRet (moveSale false sr) (modLog e.serial (fun x => { x with state := .voided }) s))) :=
      h.congr (by simp)
    unfold acceptVoid
    dsimp only
    split
    · next n _ =>
      exact LineKept.congr (markLineVoided_line hcounted n e.serial true) (by
        rw [floor_clearHeld, floor_notify, floor_withdrawReprints])
    · exact hcounted.congr (by rw [floor_clearHeld, floor_notify, floor_withdrawReprints])

/-! ### Log-in and the switch -/

theorem LogAt.unbound (h : LineKept figures s) (hp : LogAt s p) : Unbound figures s.composer p :=
  Unbound.of_sale h.jobs hp.2.2

theorem logoutAt_line (h : LineKept figures s) (hfree : Unbound figures s.composer p) :
    LineKept figures (logoutAt p s) := by
  have hout := leaveCalling_line (p := p) (h.congr (line_modPort
    (f := fun c => { c with operator := none, displayDue := true }) (fun _ => by rfl) p s))
  unfold logoutAt
  dsimp only
  split
  · exact setSale_line hout (by rw [leaveCalling_composer]; exact hfree) _ _
  · exact hout

@[simp] theorem logoutAt_composer (q : CounterPort) (s : State) : (logoutAt q s).composer = s.composer := by
  unfold logoutAt
  dsimp only
  split <;> simp

theorem logoutOp_line (h : LineKept figures s) (hp : LogAt s p) : LineKept figures (logoutOp p s) := by
  have hfree := hp.unbound h
  have hout := leaveCalling_line (p := p) (h.congr (line_modPort
    (f := fun c => { c with operator := none, held := none, displayDue := true }) (fun _ => by rfl) p s))
  unfold logoutOp
  dsimp only
  split
  · exact setSale_line hout (by rw [leaveCalling_composer]; exact hfree) _ _
  · exact hout

theorem loginAt_line (h : LineKept figures s) (hfree : Unbound figures s.composer p) (k : OperatorNo) :
    LineKept figures (loginAt p k s) := by
  have hin := h.congr (line_modPort
    (f := fun c => { c with operator := some k, held := none, displayDue := true }) (fun _ => by rfl) p s)
  unfold loginAt
  dsimp only
  split
  · exact setSale_line hin hfree _ _
  · exact hin

theorem loginOp_line (h : LineKept figures s) (hp : LogAt s p) (n : Nat) : LineKept figures (loginOp p n s) := by
  have hfree := hp.unbound h
  unfold loginOp
  split
  · exact h.congr (by simp)
  · next k hnone hk =>
    dsimp only
    split
    · next q hq =>
      split
      · next hne =>
        have hsale : (s.port q).sale ≠ .printing := fun he => by
          rw [loginRefusal, hk] at hnone
          simp only [hq, he, hne, ne_eq, not_false_eq_true, or_true, and_self, if_true] at hnone
          split at hnone <;> cases hnone
        refine loginAt_line (logoutAt_line h (Unbound.of_sale h.jobs hsale)) ?_ k
        rw [logoutAt_composer]
        exact hfree
      · exact loginAt_line h hfree k
    · exact loginAt_line h hfree k
  · exact h

theorem switchReport_line (h : LineKept figures s) (sw : Switch) : LineKept figures (switchReport p sw s) := by
  have hswitch : LineKept figures (modPort p (fun c => { c with calSwitch := sw }) s) :=
    h.congr (line_modPort (fun _ => by rfl) p s)
  have hsale {v : SaleState} (hv : (s.port p).sale = v) (hne : v ≠ .printing) : Unbound figures s.composer p :=
    Unbound.of_sale h.jobs (fun e => hne (hv.symm.trans e))
  have hon {v : SaleState} (hv : (s.port p).sale = v) (hne : v ≠ .printing) : LineKept figures
      (setSale p .calibrating none (leaveCalling p (modPort p (fun c => { c with calSwitch := sw }) s))) :=
    setSale_line (leaveCalling_line hswitch) (by rw [leaveCalling_composer]; exact hsale hv hne) _ _
  unfold switchReport
  dsimp only
  split
  · exact h
  · split
    · next hv _ => exact hon hv (by decide)
    · next hv _ => exact hon hv (by decide)
    · next hv _ => exact setSale_line hswitch (hsale hv (by decide)) _ _
    · exact hswitch

/-! ### Tickets issued (R129) -/

/-- The record of a ticket just issued. -/
def issuedRec : TicketRec := { state := .waiting, count := 0, age := 0 }

theorem issueTicket_line (h : LineKept figures s) (hfree : (s.ticket s.tickets.next).state = .free) :
    LineKept figures (issueTicket p s) := by
  generalize hk : s.tickets.next = k at hfree
  have hset (j : TicketNo) (hj : j ≠ k) : (s.tickets.recs.set k issuedRec)[j] = s.tickets.recs[j] := by
    rw [getElem_set_ticket, if_neg hj]
  have hself : (s.tickets.recs.set k issuedRec)[k] = issuedRec := by rw [getElem_set_ticket, if_pos rfl]
  have hw : k ∉ s.tickets.waiting := fun hmem => ticket_ne hfree (by decide) ((h.listed.waiting k).mpr hmem)
  have hl : k ∉ s.tickets.skipped := fun hmem => ticket_ne hfree (by decide) ((h.listed.skipped k).mpr hmem)
  have huncalled (q : CounterPort) (m : Nat) : (s.ticket k).state ≠ .called q m := by rw [hfree]; nofun
  have hcounted : LineKept figures (deliver p (.takeAnswer (.issue k)) (modRet (countGrand { ticketsIssued := 1 }) s)) :=
    h.congr (by simp)
  unfold issueTicket placeTicket
  rw [hk]
  dsimp only
  split
  · next q rest hcalling =>
    have hcalling : s.tickets.calling = q :: rest := hcalling
    have hmem : q ∈ s.tickets.calling := by rw [hcalling]; exact List.mem_cons_self
    have hasking := (hcounted.asking.iff q).mpr hmem
    refine callTicket_line hcounted (k := k) (p := q)
      (u := { s.tickets with recs := s.tickets.recs.set k issuedRec, next := k + 1, calling := rest })
      (fun j hj => hset j hj) (hcounted.attended q id (by rw [hasking]; decide)) (service_ne hasking (by decide))
      (fun sv hsv hrest => ?_) (fun q' m hq' => absurd hq' (huncalled q' m)) (fun j m hj => ?_) ?_
      (mem_iff_and_ne hw) h.listed.waitingNodup (mem_iff_and_ne hl) h.listed.skippedNodup _ _
    · exact (hcalling ▸ hcounted.asking : Asking _ (q :: rest)).leave_head (by rw [hsv]; decide) hrest
    · exact absurd ((hcounted.called.iff q).mpr ⟨j, m, hj⟩) (by rw [hasking]; decide)
    · show (s.ticket k).state ≠ _
      rw [hfree]; decide
  · next hcalling =>
    have hline : LineSound nobody figures { (deliver p (.takeAnswer (.issue k))
        (modRet (countGrand { ticketsIssued := 1 }) s)).floor.line with tickets := { s.tickets with
        recs := s.tickets.recs.set k issuedRec, next := k + 1, waiting := s.tickets.waiting ++ [k] } } := by
      refine hcounted.tickets rfl ?_ ?_ ?_
      · refine hcounted.called.ticket (k := k) huncalled (fun q m => ?_) hset
        rw [hself]; nofun
      · refine hcounted.listed.ticket (k := k) hset ?_ ?_ (fun j hj => List.mem_append.trans (or_iff_left (by simpa using hj))) (fun _ _ => .rfl) ?_
          h.listed.skippedNodup ?_
        · rw [hself]
          exact iff_of_true rfl (List.mem_append_right _ (List.mem_singleton_self k))
        · rw [hself]
          exact iff_of_false nofun hl
        · refine List.nodup_append.mpr ⟨h.listed.waitingNodup, List.nodup_singleton k, fun a ha b hb e => hw ?_⟩
          rw [List.mem_singleton] at hb
          rwa [← hb, ← e]
        · rw [hself]; nofun
      · refine hcounted.numbered.ticket (k := k) hset ?_ ?_
        · show (s.ticket k).state ≠ _
          rw [hfree]; decide
        · rw [hself]; decide
    exact hline

theorem takeRequestOp_line (h : LineKept figures s) : LineKept figures (takeRequestOp p s) := by
  unfold takeRequestOp
  split
  · exact h.congr (by simp)
  · split
    · exact h.congr (by simp)
    · next hfree => exact issueTicket_line h (by simpa using hfree)

end Sys2Proof.Machine
end

section
/-! PROOFS. The end of a day, the cancels and the drains keep the line sound. -/

namespace Sys2Proof.Machine

variable {excused : CounterPort → Prop} {figures : Prop} {s : State} {p : CounterPort} {k : TicketNo} {l : Line}

/-- A view of the composer that a change of the floor's line leaves. -/
theorem composer_of_line {s t : State} (h : t.floor.line = s.floor.line) : t.composer = s.composer :=
  congrArg Line.composer h

/-- No job waits or is being composed. -/
def Composer.Empty (c : Composer) : Prop := c.queue = [] ∧ c.current = none

theorem Composer.Empty.unbound {c : Composer} (h : c.Empty) (p : CounterPort) : Unbound figures c p := by
  rintro j (hj | ⟨d, hd, -⟩) - -
  · rw [h.1] at hj
    exact absurd hj (List.not_mem_nil)
  · rw [h.2] at hd
    cases hd

/-- A line on which nobody is served, with no ticket, order or job. -/
theorem LineSound.of_quiet (hup : ∀ p, (l.posts p).online = true → (l.posts p).state = .up)
    (hfree : ∀ p, (l.posts p).service = .free) (hfresh : ∀ k : TicketNo, l.tickets.recs[k] = TicketRec.fresh)
    (hlists : l.tickets.calling = [] ∧ l.tickets.waiting = [] ∧ l.tickets.skipped = []) (horders : l.orders = [])
    (hempty : l.composer.Empty) : LineSound excused figures l := by
  obtain ⟨hcalling, hwaiting, hskipped⟩ := hlists
  have hidle {v : ServiceState} (hv : v ≠ .free) (p : CounterPort) : (l.posts p).service ≠ v :=
    fun e => hv (e.symm.trans (hfree p))
  have hother {v : TicketState} (hv : v ≠ .free) (k : TicketNo) : (l.tickets.recs[k]).state ≠ v :=
    fun e => hv (e.symm.trans (congrArg TicketRec.state (hfresh k)))
  exact {
    upOnline := hup
    attended := fun p _ hservice => absurd (hfree p) hservice
    asking := hcalling ▸ ⟨fun p => iff_of_false (hidle (by decide) p) List.not_mem_nil, List.nodup_nil⟩
    called := ⟨fun p => iff_of_false (hidle (by decide) p) fun ⟨k, n, hk⟩ => hother (by simp) k hk,
      fun p j k m n hj => absurd hj (hother (by simp) j)⟩
    serving := horders ▸ ⟨fun p => iff_of_false (hidle (by decide) p) (by simp), by simp⟩
    listed := by
      rw [hwaiting, hskipped]
      exact ⟨fun k => iff_of_false (hother (by decide) k) List.not_mem_nil,
        fun k => iff_of_false (hother (by decide) k) List.not_mem_nil, List.nodup_nil, List.nodup_nil,
        fun k _ => hfresh k⟩
    numbered := horders ▸ ⟨fun k => iff_of_false (hother (by decide) k) (by simp), by simp, by simp, by simp⟩
    jobs := ⟨fun j hlive hbound => absurd rfl (hempty.unbound j.station j hlive hbound),
      fun d hd => by rw [hempty.2] at hd; cases hd⟩
    figured := fun _ o ho => by rw [horders] at ho; cases ho }

theorem lineKept_of_quiet (hup : ∀ p, (s.port p).online = true → (s.port p).state = .up)
    (hfree : ∀ p, (s.port p).service = .free) (hfresh : ∀ k : TicketNo, s.tickets.recs[k] = TicketRec.fresh)
    (hlists : s.tickets.calling = [] ∧ s.tickets.waiting = [] ∧ s.tickets.skipped = []) (horders : s.orders = [])
    (hempty : s.composer.Empty) : LineKept figures s :=
  LineSound.of_quiet hup hfree hfresh hlists horders hempty

/-! ### The end of a day (R175 to R178) -/

theorem insertBy_perm {α : Type} (key : α → Nat) (a : α) (l : List α) : (insertBy key a l).Perm (a :: l) := by
  induction l with
  | nil => exact .refl _
  | cons x xs ih =>
    unfold insertBy
    split
    · exact .refl _
    · exact (ih.cons x).trans (.swap a x xs)

theorem sortBy_perm {α : Type} (key : α → Nat) (l : List α) : (sortBy key l).Perm l := by
  induction l with
  | nil => exact .refl _
  | cons x xs ih => exact (insertBy_perm key x _).trans (ih.cons x)

@[simp] theorem endOrderByDay_composer (s : State) (o : Order) : (endOrderByDay s o).composer = s.composer := by
  unfold endOrderByDay
  dsimp only
  split <;> simp

@[simp] theorem endOrderByDay_orders (s : State) (o : Order) :
    (endOrderByDay s o).orders = s.orders.filter fun x => x.number ≠ o.number := by
  unfold endOrderByDay
  dsimp only
  split <;> simp [freeOrder]

theorem endOrderByDay_line (h : LineKept figures s) (hempty : s.composer.Empty) {o : Order} (ho : o ∈ s.orders) :
    LineKept figures (endOrderByDay s o) := by
  have hcounted : LineKept figures (modRet (countGrand { ordersClosedByDay := 1 }) s) := h.congr (by simp)
  unfold LineKept endOrderByDay
  dsimp only
  split
  · next p hop =>
    rw [line_setService, line_freeOrder, floor_notify]
    exact hcounted.finish ho hop (hempty.unbound p)
  · next hparked =>
    rw [line_freeOrder, floor_notify]
    exact hcounted.abandon ho hparked

theorem endOrders_line (os : List Order) : ∀ s, LineKept figures s → s.composer.Empty → s.orders.Perm os →
    LineKept figures (os.foldl endOrderByDay s) ∧ (os.foldl endOrderByDay s).orders = [] := by
  induction os with
  | nil => exact fun s h _ hperm => ⟨h, hperm.eq_nil⟩
  | cons o os ih =>
    intro s h hempty hperm
    refine ih _ (endOrderByDay_line h hempty (hperm.mem_iff.mpr List.mem_cons_self)) (by
      rw [endOrderByDay_composer]; exact hempty) ?_
    have hnumbers : ((o :: os).map (·.number)).Nodup := (hperm.map _).nodup_iff.mp h.numbered.numbers
    have hrest : os.filter (fun x => x.number ≠ o.number) = os := by
      rw [List.filter_eq_self]
      intro x hx
      simpa using fun e : x.number = o.number =>
        (List.nodup_cons.mp hnumbers).1 (List.mem_map.mpr ⟨x, hx, e⟩)
    rw [endOrderByDay_orders]
    have hfiltered := hperm.filter fun x => x.number ≠ o.number
    rwa [List.filter_cons_of_neg (by simp), hrest] at hfiltered

theorem endLiveOrders_line (h : LineKept figures s) (hempty : s.composer.Empty) :
    LineKept figures (endLiveOrders s) ∧ (endLiveOrders s).orders = [] :=
  endOrders_line _ { s with free := s.free + 1 } h hempty (sortBy_perm _ s.orders).symm

theorem endLiveOrders_composer (s : State) : (endLiveOrders s).composer = s.composer :=
  foldl_keeps (g := State.composer) endOrderByDay_composer _ _

theorem endServiceLine_port (s : State) (p : CounterPort) : (endServiceLine s).port p =
    if (calledTicket s p).isSome || s.tickets.calling.contains p then { s.port p with service := .free }
    else s.port p := by
  simp [endServiceLine, State.port]

/-- With no live order, every number is discarded (R144). -/
theorem endServiceLine_ticket (h : LineKept figures s) (horders : s.orders = []) (k : TicketNo) :
    (endServiceLine s).tickets.recs[k] = TicketRec.fresh := by
  have hmap : (endServiceLine s).tickets.recs[k] =
      if discardable (s.ticket k).state then TicketRec.fresh else s.ticket k := by
    exact Vector.getElem_map _ k.isLt
  rw [hmap]
  split
  · rfl
  · next hstay =>
    cases hstate : (s.ticket k).state with
    | free => exact h.listed.freeFresh k hstate
    | inService =>
      obtain ⟨o, ho, -⟩ := (h.numbered.iff k).mp hstate
      exact absurd ho (horders.symm ▸ List.not_mem_nil : o ∉ s.orders)
    | waiting | called | skipped => rw [hstate] at hstay; exact absurd rfl hstay

/-- With no live order, every station becomes FREE (R144). -/
theorem endServiceLine_service (h : LineKept figures s) (horders : s.orders = []) (p : CounterPort) :
    ((endServiceLine s).port p).service = .free := by
  rw [endServiceLine_port]
  split
  · rfl
  · next hstay =>
    simp only [Bool.or_eq_true, not_or, Option.not_isSome_iff_eq_none, List.contains_iff_mem] at hstay
    cases hservice : (s.port p).service with
    | free => rfl
    | asking => exact absurd ((h.asking.iff p).mp hservice) hstay.2
    | called =>
      obtain ⟨k, n, hk⟩ := (h.called.iff p).mp hservice
      exact absurd hk (calledTicket_none hstay.1 k n)
    | serving =>
      obtain ⟨o, ho, -⟩ := (h.serving.iff p).mp hservice
      exact absurd ho (horders.symm ▸ List.not_mem_nil : o ∉ s.orders)

theorem endServiceLine_line (h : LineKept figures s) (hempty : s.composer.Empty) (horders : s.orders = []) :
    LineKept figures (endServiceLine s) := by
  refine lineKept_of_quiet (fun p hp => ?_) (endServiceLine_service h horders) (endServiceLine_ticket h horders)
    ⟨rfl, rfl, rfl⟩ horders hempty
  have hsame : ((endServiceLine s).port p).online = (s.port p).online ∧
      ((endServiceLine s).port p).state = (s.port p).state := by
    rw [endServiceLine_port]
    split <;> exact ⟨rfl, rfl⟩
  exact hsame.2.trans (h.upOnline p (hsame.1.symm.trans hp))

theorem completeDayClose_line (h : LineKept figures s) (hempty : s.composer.Empty) :
    LineKept figures (completeDayClose s) := by
  obtain ⟨hended, horders⟩ := endLiveOrders_line h hempty
  have hline : LineKept figures (endServiceLine (endLiveOrders s)) :=
    endServiceLine_line hended (by rw [endLiveOrders_composer]; exact hempty) horders
  unfold completeDayClose openNewDay
  dsimp only
  exact hline.congr (by rw [floor_markAllDisplays, floor_notify]; rfl)

theorem dayTest_line (h : LineKept figures s) : LineKept figures (dayTest s) := by
  obtain ⟨hready, he⟩ | ⟨-, he⟩ := dayTest_cases s <;> rw [he]
  · obtain ⟨-, -, hqueue, hcurrent⟩ := (closeReady_iff s).mp hready
    exact completeDayClose_line h ⟨hqueue, hcurrent⟩
  · exact h

theorem beginClose_line (h : LineKept figures s) : LineKept figures (beginClose s) :=
  dayTest_line (h.congr (by rw [floor_markAllDisplays]; rfl))

end Sys2Proof.Machine
end

section
/-! PROOFS. The cancels, the drains and the composer's work keep the line sound. -/

namespace Sys2Proof.Machine

variable {excused : CounterPort → Prop} {figures : Prop} {s t : State} {p : CounterPort} {k : TicketNo} {l : Line}

theorem LineKept.setSale (h : LineKept figures s) (hfree : Unbound figures s.composer p) (v : SaleState)
    (m : Option MsgCode) : LineKept figures (setSale p v m s) := setSale_line h hfree v m

theorem LineKept.toIdle (h : LineKept figures s) (hfree : Unbound figures s.composer p)
    (m : Option MsgCode) : LineKept figures (toIdle p m s) := toIdle_line h hfree m

@[simp] theorem toIdle_composer (p : CounterPort) (m : Option MsgCode) (s : State) :
    (toIdle p m s).composer = s.composer := by
  unfold Machine.toIdle
  split <;> simp

/-! ### Cancels -/

theorem cancelOp_line (h : LineKept figures s) (hp : KeyAt s p) : LineKept figures (cancelOp p s) := by
  have hclosed : (closeSnapshot p s).floor.line = s.floor.line := line_closeSnapshot p s
  unfold cancelOp
  split
  · exact dayTest_line ((h.congr hclosed).toIdle (by
      rw [composer_of_line hclosed]; exact hp.unbound h) none)
  · exact h.clearHeld p

/-- What a forced cancel does to the line is what its return to IDLE does (R80). -/
theorem forcedCancel_line (h : LineKept figures s) (hfree : Unbound figures s.composer p) (m : MsgCode) :
    LineKept figures (forcedCancel m p s) := by
  have hcount : (countBoth p { forcedCancels := 1 } { forcedCancels := 1 } s).floor.line = s.floor.line := by simp
  unfold forcedCancel
  dsimp only
  refine LineKept.toIdle (h.congr ?_) ?_ (some m)
  · rw [line_closeSnapshot]
    split
    · rw [line_commit, hcount]
    · exact hcount
  · rw [composer_of_line (line_closeSnapshot p _)]
    split <;> exact hfree

@[simp] theorem forcedCancel_composer (m : MsgCode) (p : CounterPort) (s : State) :
    (forcedCancel m p s).composer = s.composer := by
  unfold forcedCancel
  dsimp only
  rw [toIdle_composer, composer_of_line (line_closeSnapshot p _)]
  split <;> rfl

theorem forcedCancels_line (m : MsgCode) (ps : List CounterPort) : ∀ s, LineKept figures s →
    (∀ p ∈ ps, Unbound figures s.composer p) →
    LineKept figures (ps.foldl (fun acc p => forcedCancel m p acc) s) := by
  induction ps with
  | nil => exact fun s h _ => h
  | cons p ps ih =>
    intro s h hfree
    refine ih _ (forcedCancel_line h (hfree p List.mem_cons_self) m) fun q hq => ?_
    rw [forcedCancel_composer]
    exact hfree q (List.mem_cons_of_mem p hq)

theorem unbound_of_inItem {test : Snapshot → Bool} (h : LineKept figures s) (hp : p ∈ stationsInItem s test) :
    Unbound figures s.composer p := by
  have hsale := (List.mem_filter.mp hp).2
  simp only [Bool.and_eq_true, decide_eq_true_eq] at hsale
  exact Unbound.of_sale h.jobs (fun he => by
    have : (s.port p).sale = .printing := he
    rw [hsale.1] at this
    cases this)

theorem commitDrainExpired_line (h : LineKept figures s) : LineKept figures (commitDrainExpired s) := by
  unfold commitDrainExpired
  split
  · dsimp only
    refine LineKept.congr ?_ (line_completeIfDrained _)
    exact forcedCancels_line _ _ _ (h.congr (line_commit s _)) fun p hp => unbound_of_inItem h hp
  · exact h

theorem closeDrainExpired_line (h : LineKept figures s) : LineKept figures (closeDrainExpired s) :=
  dayTest_line (forcedCancels_line _ _ { s with dayState := .closing 0 true } h fun _ hp => unbound_of_inItem h hp)

/-! ### Jobs refused (R105, R107) -/

theorem refuseItem_line (h : LineKept figures s) (hfree : Unbound figures s.composer p) (m : MsgCode) :
    LineKept figures (refuseItem p m s) := by
  have hrecord : LineKept figures (modPort p (fun c => { c with record := none }) s) :=
    h.congr (line_modPort (fun _ => by rfl) p s)
  have hitem : LineKept figures
      (reprice p (setSale p .item (some m) (modPort p (fun c => { c with record := none }) s))) :=
    (hrecord.setSale hfree _ _).congr (by rw [floor_reprice])
  unfold refuseItem
  dsimp only
  split
  · exact forcedCancel_line hitem (by rw [reprice_composer, setSale_composer]; exact hfree) _
  · exact hitem

theorem summaryFlag_line (h : LineKept figures s) (n : Nat) (b : Bool) :
    LineKept figures (modOrder n (fun x => { x with summaryInFlight := b }) s) := by
  refine LineSound.reorder (f := withOrder n fun x => { x with summaryInFlight := b }) h
    (fun x => ?_) (fun j _ _ x _ hs => ?_) fun _ x _ hx => ?_
  · unfold withOrder; split <;> exact ⟨rfl, rfl, rfl⟩
  · refine hs.mono ?_ ?_ (fun _ => ?_) fun _ => ?_ <;> unfold withOrder <;> split <;> simp
  · unfold withOrder; split <;> exact hx

theorem refuseSummary_line (h : LineKept figures s) (hfree : Unbound figures s.composer p) (n : Nat) (m : MsgCode) :
    LineKept figures (refuseSummary p n m s) :=
  LineKept.toIdle (summaryFlag_line h n false) hfree _

theorem reportRefusal_line {j : Job} (h : LineKept figures s) (hfree : Unbound figures s.composer j.station)
    (m : MsgCode) : LineKept figures (reportRefusal j m s) := by
  unfold reportRefusal
  split
  · exact refuseItem_line h hfree m
  · exact h.congr (by simp)
  · exact refuseSummary_line h hfree _ m

/-! ### Jobs taken (R104) -/

/-- The composer with one job taken off the queue. -/
def Composer.without (c : Composer) (j : Job) (n : Nat) : Composer :=
  { c with queue := c.queue.filter fun k => k.station ≠ j.station, serviceCount := n }

theorem live_without {c : Composer} {j x : Job} {n : Nat} (h : (c.without j n).Live x) : c.Live x :=
  h.imp_left List.mem_of_mem_filter

theorem apart_without {c : Composer} {j : Job} {n : Nat}
    (h : ∀ d, c.current = some d → d.dropped = false → ∀ j ∈ c.queue, j.station ≠ d.job.station) :
    ∀ d, (c.without j n).current = some d → d.dropped = false → ∀ x ∈ (c.without j n).queue,
      x.station ≠ d.job.station :=
  fun d hd hdropped x hx => h d hd hdropped x (List.mem_of_mem_filter hx)

theorem unbound_without {c : Composer} (hcurrent : c.current = none) (j : Job) (n : Nat) :
    Unbound figures (c.without j n) j.station := by
  rintro x (hx | ⟨d, hd, -⟩) -
  · simpa using (List.mem_filter.mp hx).2
  · rw [show (c.without j n).current = none from hcurrent] at hd
    cases hd

/-- A job taken off the queue is being composed. -/
theorem LineSound.compose (h : LineSound excused figures l) {d : Composition} {n : Nat}
    (hj : d.job ∈ l.composer.queue) :
    LineSound excused figures { l with composer := { l.composer.without d.job n with current := some d } } := by
  refine h.recompose (h.jobs.fewer (fun x hlive => ?_) fun d' hd _ x hx => ?_)
  · obtain hx | ⟨d', hd, -, rfl⟩ := hlive
    · exact .inl (List.mem_of_mem_filter hx)
    · cases hd
      exact .inl hj
  · cases hd
    simpa using (List.mem_filter.mp hx).2

theorem takeDecision_line (h : LineKept figures s) : LineKept figures (takeDecision s) := by
  unfold takeDecision
  split
  · next j n hcurrent hchoice =>
    have hj : j ∈ s.composer.queue := (takeChoice_some hchoice).1
    have hcleared : (clearPrinterBusy j.station { s with composer := s.composer.without j n }).floor.line =
        { s.floor.line with composer := s.composer.without j n } := congrArg Floor.line (floor_clearPrinterBusy _ _)
    show LineKept figures (startComposition j
      (clearPrinterBusy j.station { s with composer := s.composer.without j n }))
    generalize clearPrinterBusy j.station { s with composer := s.composer.without j n } = u at hcleared
    have hcomposer : u.composer = s.composer.without j n := congrArg Line.composer hcleared
    unfold startComposition
    split
    · next t _ =>
      dsimp only
      have hline : ({ u with composer := { u.composer with current := some ⟨j, t, u.ret.table0, u.ret.table1, false⟩ } } :
          State).floor.line = { s.floor.line with composer :=
            { s.composer.without j n with current := some ⟨j, t, u.ret.table0, u.ret.table1, false⟩ } } := by
        rw [← hcomposer]
        exact congrArg (fun l : Line => { l with composer := { u.composer with
          current := some ⟨j, t, u.ret.table0, u.ret.table1, false⟩ } }) hcleared
      unfold LineKept
      rw [hline]
      exact h.compose (d := ⟨j, t, u.ret.table0, u.ret.table1, false⟩) hj
    · next m _ =>
      refine dayTest_line (reportRefusal_line (s := { u with free := u.free + 1 }) ?_ ?_ m)
      · show LineSound nobody figures u.floor.line
        rw [hcleared]
        exact h.recompose (h.jobs.fewer (fun _ => live_without) (apart_without h.jobs.apart))
      · show Unbound figures u.composer _
        rw [hcomposer]
        exact unbound_without hcurrent j n
  · exact h

/-! ### Compositions completed (R107) -/

theorem live_freeComposer {c : Composer} {j : Job} (h : Composer.Live { c with current := none } j) : c.Live j :=
  h.imp_right fun ⟨_, hd, _⟩ => by cases hd

theorem freeComposer_line (h : LineKept figures s) : LineKept figures (freeComposer s) :=
  LineSound.recompose h (h.jobs.fewer (fun _ => live_freeComposer) fun d hd => by cases hd)

/-- The station of a completed composition has no other job. -/
theorem freeComposer_unbound (h : LineKept figures s) {d : Composition} (hd : s.composer.current = some d)
    (hdropped : d.dropped = false) : Unbound figures (freeComposer s).composer d.job.station := by
  rintro x (hx | ⟨d', hd', -⟩) -
  · exact h.jobs.apart d hd hdropped x hx
  · cases hd'

theorem issueSummary_line (h : LineKept figures s) (hfree : Unbound figures s.composer p) {o : Order}
    (ho : o ∈ s.orders) (hop : o.state = .openAt p) : LineKept figures (issueSummary p o s) := by
  have hcounted : (notify (.orderClosed .served o.number o.ticket (some p) (some s.ret.day.nextSerial)
      (some (liveLines o)) (some o.total)) (modRet (countGrand { ordersClosed := 1 })
      (notify (.summaryIssued s.ret.day.nextSerial p o.number o.total) (pushLog
        { serial := s.ret.day.nextSerial, sale := none, state := .posted, reprints := 0, station := p,
          order := some o.number, day := s.ret.day.number } (takeSerial s))))).floor = s.floor := by
    simp only [floor_notify, floor_countGrand, floor_pushLog, floor_takeSerial]
  unfold issueSummary
  dsimp only
  generalize notify (.orderClosed .served _ _ _ _ _ _) _ = u at hcounted
  refine LineKept.toIdle ?_ ?_ none
  · unfold LineKept
    rw [line_setService, line_freeOrder, hcounted]
    exact h.finish ho hop hfree
  · rw [setService_composer, freeOrder_composer, composer_of_line (congrArg Floor.line hcounted)]
    exact hfree

/-- The order that an item on its way joins, where figures are asked for. -/
def Joins (figures : Prop) (s : State) (p : CounterPort) (n final : Nat) : Prop :=
  figures → ∃ o ∈ s.orders, o.number = n ∧ o.state = .openAt p ∧ o.lines.length < Config.maxLines ∧
    o.total + final ≤ Config.maxOrderTotal

theorem appendLine_line (h : LineKept figures s) (hfree : Unbound figures s.composer p) {n : Nat} (serial : Nat)
    {sr : SaleRecord} (hjoins : Joins figures s p n sr.amounts.final) :
    LineKept figures (appendLine n serial sr s) := by
  unfold LineKept appendLine
  rw [modOrder_line]
  refine h.reorder (fun x => ?_) (fun j hlive hbound x hx hs => ?_) fun hfig x hx hfigured => ?_
  · unfold withOrder; split <;> exact ⟨rfl, rfl, rfl⟩
  · unfold withOrder
    split
    · next e =>
      have hother (hfig : figures) : False := by
        obtain ⟨o, ho, hn, hop, -⟩ := hjoins hfig
        have hhere := hs.here
        rw [h.numbered.eq_of_number hx ho (e.trans hn.symm), hop] at hhere
        cases hhere
        exact hfree j hlive hbound rfl
      exact hs.mono rfl rfl (fun hfig => (hother hfig).elim) fun hfig => (hother hfig).elim
    · exact hs
  · unfold withOrder
    split
    · next e =>
      obtain ⟨o, ho, hn, -, hlines, htotal⟩ := hjoins hfig
      obtain rfl := h.numbered.eq_of_number hx ho (e.trans hn.symm)
      refine ⟨by simpa using hlines, ?_, htotal⟩
      simp [hfigured.2.1, lineOf]
    · exact hfigured

/-- The end of an item's issue (R60): the snapshot closed and the station IDLE. -/
theorem closeItem_line (h : LineKept figures s) (hfree : Unbound figures s.composer p) (b : NoticeBody) :
    LineKept figures (toIdle p none (modPort p (fun c => { c with record := none })
      (closeSnapshot p (notify b s)))) := by
  have hclosed : (modPort p (fun c => { c with record := none })
      (closeSnapshot p (notify b s))).floor.line = s.floor.line := by
    rw [line_modPort (fun _ => by rfl), line_closeSnapshot, floor_notify]
  refine LineKept.toIdle (h.congr hclosed) ?_ none
  rw [composer_of_line hclosed]
  exact hfree

theorem issueItem_line (h : LineKept figures s) (hfree : Unbound figures s.composer p) {sr : SaleRecord}
    (hjoins : ∀ n k, sr.order = some (n, k) → Joins figures s p n sr.amounts.final) :
    LineKept figures (issueItem p sr s) := by
  have hcounted : (countStale sr (modRet (moveSale true sr) (pushLog
      { serial := s.ret.day.nextSerial, sale := some sr, state := .posted, reprints := 0, station := p,
        order := sr.order.map (·.1), day := s.ret.day.number } (takeSerial s)))).floor = s.floor := by
    simp only [floor_countStale, floor_moveSale, floor_pushLog, floor_takeSerial]
  unfold issueItem
  dsimp only
  generalize countStale sr _ = u at hcounted
  have hu : LineKept figures u := h.congr (congrArg Floor.line hcounted)
  have hufree : Unbound figures u.composer p := by
    rw [composer_of_line (congrArg Floor.line hcounted)]
    exact hfree
  have huorders : u.orders = s.orders := congrArg (fun f => f.orders) hcounted
  refine closeItem_line ?_ ?_ _
  · split
    · next n hn =>
      obtain ⟨⟨n', k⟩, horder, rfl⟩ := Option.map_eq_some_iff.mp hn
      refine appendLine_line hu hufree _ fun hfig => ?_
      rw [huorders]
      exact hjoins n' k horder hfig
    · exact hu
  · split <;> exact hufree

theorem postOutcome_line {label : SlotLabel} {after : State → State}
    (hafter : ∀ u, u.floor = s.floor → LineKept figures (after u)) (ht : postOutcome p label after s = .ok t) :
    LineKept figures t := by
  unfold postOutcome at ht
  split at ht
  · cases ht
  · cases ht
    exact (hafter _ (floor_postLabel p _ label s)).congr (congrArg Floor.line (floor_feedPrinter p _))

theorem completeJob_line {d : Composition} (h : LineKept figures s) (hd : s.composer.current = some d)
    (hdropped : d.dropped = false) (ht : completeJob d (freeComposer s) = .ok t) : LineKept figures t := by
  have hlive : s.composer.Live d.job := .inr ⟨d, hd, hdropped, rfl⟩
  have hplaced := h.jobs.placed d.job hlive
  have hunbound := freeComposer_unbound h hd hdropped
  have hfreed := freeComposer_line h
  have horders : (freeComposer s).orders = s.orders := rfl
  generalize freeComposer s = u at ht hunbound hfreed horders
  unfold completeJob at ht
  dsimp only at ht
  split at ht
  · next sr hsource =>
    split at ht
    · cases ht
      exact refuseItem_line hfreed hunbound _
    · refine postOutcome_line (fun v hv => ?_) ht
      refine issueItem_line (hfreed.congr (congrArg Floor.line hv)) ?_ fun n k horder hfig => ?_
      · rw [composer_of_line (congrArg Floor.line hv)]
        exact hunbound
      · obtain ⟨-, o, ho, hserves⟩ := hplaced (.inr ⟨hfig, sr, n, k, hsource, horder⟩)
        obtain ⟨hnumber, hlines, htotal⟩ := hserves.item hfig sr n k hsource horder
        rw [show v.orders = u.orders from congrArg (fun f => f.orders) hv, horders]
        exact ⟨o, ho, hnumber, hserves.here, hlines, htotal⟩
  · split at ht
    · cases ht; exact hfreed.congr (by simp)
    · split at ht
      · cases ht; exact hfreed.congr (by simp)
      · exact postOutcome_line (fun v hv => hfreed.congr (by rw [floor_postReprint, hv])) ht
  · next n operator stamp hsource =>
    split at ht
    · cases ht
    · next o ho =>
      split at ht
      · cases ht; exact refuseSummary_line hfreed hunbound n _
      · refine postOutcome_line (fun v hv => ?_) ht
        obtain ⟨hmem, hn⟩ := orderOf_some ho
        obtain ⟨-, x, hx, hserves⟩ := hplaced (.inl ⟨n, operator, stamp, hsource⟩)
        have hsame : o = x := h.numbered.eq_of_number (show o ∈ s.orders from horders ▸ hmem) hx
          (hn.trans (hserves.summary n operator stamp hsource).symm)
        refine issueSummary_line (hfreed.congr (congrArg Floor.line hv)) ?_ ?_ (hsame ▸ hserves.here)
        · rw [composer_of_line (congrArg Floor.line hv)]
          exact hunbound
        · rw [show v.orders = u.orders from congrArg (fun f => f.orders) hv]
          exact hmem

end Sys2Proof.Machine
end

section
/-! PROOFS. The offline event, the attach, the tick and the resets keep the line sound. -/

namespace Sys2Proof.Machine

variable {excused : CounterPort → Prop} {figures : Prop} {s t : State} {p : CounterPort} {k : TicketNo} {l : Line}

/-! ### A station leaves the line (R9) -/

theorem Line.at_at (l : Line) (p : CounterPort) (a b : Post) : (l.at p a).at p b = l.at p b := by
  unfold Line.at
  rw [Function.update_idem]

/-- An order OPEN at a station is PARKED when the station goes OFFLINE (R156). -/
def parkedAt (p : CounterPort) (o : Order) : Order :=
  if o.state = .openAt p then { o with state := .parked, idle := 0, summaryInFlight := false } else o

/-- The jobs of a station given up (R108). -/
def Composer.drop (c : Composer) (p : CounterPort) : Composer :=
  { c with
    queue := c.queue.filter fun j => j.station ≠ p
    current := c.current.map fun d => if d.job.station = p then { d with dropped := true } else d }

/-- The line as a station leaves it, its ticket apart. -/
def Line.left (l : Line) (p : CounterPort) : Line :=
  Line.at ⟨l.tickets, l.orders.map (parkedAt p), l.composer.drop p, l.posts⟩ p
    { l.posts p with sale := .noOperator, service := .free }

theorem line_offlineRest (p : CounterPort) (s : State) :
    (offlineContext p (closeSnapshot p (offlineComposer p (offlineOrder p s)))).floor.line = s.floor.line.left p := by
  unfold offlineContext
  rw [line_modPort_at (g := fun c => { c with sale := .noOperator, service := .free }) (fun _ => by rfl),
    line_closeSnapshot]
  rfl

theorem drop_live {c : Composer} {j : Job} (h : (c.drop p).Live j) : c.Live j ∧ j.station ≠ p := by
  obtain hj | ⟨d, hd, hdropped, rfl⟩ := h
  · obtain ⟨hj, hne⟩ := List.mem_filter.mp hj
    exact ⟨.inl hj, by simpa using hne⟩
  · obtain ⟨d', hd', rfl⟩ := Option.map_eq_some_iff.mp hd
    by_cases hp : d'.job.station = p
    · rw [if_pos hp] at hdropped
      cases hdropped
    · rw [if_neg hp] at hdropped ⊢
      exact ⟨.inr ⟨d', hd', hdropped, rfl⟩, hp⟩

theorem drop_unbound (c : Composer) : Unbound figures (c.drop p) p := fun _ hlive _ => (drop_live hlive).2

theorem LineSound.dropJobs (h : LineSound excused figures l) :
    LineSound excused figures { l with composer := l.composer.drop p } := by
  refine h.recompose (h.jobs.fewer (fun j hj => (drop_live hj).1) fun d hd hdropped j hj => ?_)
  obtain ⟨d', hd', rfl⟩ := Option.map_eq_some_iff.mp hd
  by_cases hp : d'.job.station = p
  · rw [if_pos hp] at hdropped
    cases hdropped
  · rw [if_neg hp] at hdropped ⊢
    exact h.jobs.apart d' hd' hdropped j (List.mem_of_mem_filter hj)

/-- The station's sale state emptied and its excuse taken back, when its service state is FREE. -/
theorem LineSound.vacate (h : LineSound (· = p) figures l) (hfree : (l.posts p).service = .free)
    (hunbound : Unbound figures l.composer p) :
    LineSound nobody figures (l.at p { l.posts p with sale := .noOperator, service := .free }) :=
  h.repost hfree.symm (h.upOnline p) (fun _ hne => absurd rfl hne) (fun _ hq he => hq he) (.inr hunbound)

theorem parkedAt_of_ne {o : Order} (h : o.state ≠ .openAt p) : parkedAt p o = o := if_neg h

theorem parkedAt_unserved (h : LineSound excused figures l) (hservice : (l.posts p).service ≠ .serving) :
    l.orders.map (parkedAt p) = l.orders := by
  refine (List.map_congr_left fun o ho => parkedAt_of_ne fun hop => hservice ?_).trans (List.map_id _)
  exact (h.serving.iff p).mpr ⟨o, ho, hop⟩

theorem left_free (h : LineSound (· = p) figures l) (hfree : (l.posts p).service = .free) :
    LineSound nobody figures (l.left p) := by
  unfold Line.left
  rw [parkedAt_unserved h (by rw [hfree]; decide)]
  exact (h.dropJobs (p := p)).vacate hfree (drop_unbound _)

theorem left_serving (h : LineSound (· = p) figures l) (hserving : (l.posts p).service = .serving) :
    LineSound nobody figures (l.left p) := by
  obtain ⟨o, ho, hop⟩ := (h.serving.iff p).mp hserving
  have hparked := (h.dropJobs (p := p)).park (f := fun o => { o with state := .parked, idle := 0, summaryInFlight := false })
    (drop_unbound _) ho hop fun x => ⟨rfl, rfl, rfl, rfl, rfl⟩
  have horders : l.orders.map (parkedAt p) = l.orders.map (withOrder o.number fun o =>
      { o with state := .parked, idle := 0, summaryInFlight := false }) := by
    refine List.map_congr_left fun x hx => ?_
    unfold parkedAt withOrder
    refine if_congr ⟨fun hxp => ?_, fun e => ?_⟩ rfl rfl
    · rw [h.serving.once x hx o ho p hxp hop]
    · rw [h.numbered.eq_of_number hx ho e, hop]
  have hvacated := hparked.vacate (by rw [LineSound.at_self]) (drop_unbound _)
  rw [LineSound.at_self, Line.at_at] at hvacated
  unfold Line.left
  rw [horders]
  exact hvacated

/-- A called ticket at the head of the waiting queue, its station FREE (R142). -/
def Line.returned (l : Line) (k : TicketNo) (p : CounterPort) : Line :=
  Line.at
    { l with tickets := { l.tickets with
        waiting := k :: l.tickets.waiting
        recs := l.tickets.recs.set k { l.tickets.recs[k] with state := .waiting } } } p
    { l.posts p with service := .free }

theorem LineSound.returned (h : LineSound excused figures l) {n : Nat}
    (hk : l.tickets.recs[k].state = .called p n) : LineSound excused figures (l.returned k p) := by
  have hservice : (l.posts p).service = .called := (h.called.iff p).mpr ⟨k, n, hk⟩
  have hset (j : TicketNo) (r : TicketRec) (hj : j ≠ k) : (l.tickets.recs.set k r)[j] = l.tickets.recs[j] := by
    rw [getElem_set_ticket, if_neg hj]
  have hself (r : TicketRec) : (l.tickets.recs.set k r)[k] = r := by rw [getElem_set_ticket, if_pos rfl]
  have hw : k ∉ l.tickets.waiting := fun hmem => by
    have := (h.listed.waiting k).mpr hmem
    rw [hk] at this
    cases this
  have hl : k ∉ l.tickets.skipped := fun hmem => by
    have := (h.listed.skipped k).mpr hmem
    rw [hk] at this
    cases this
  refine h.turn (fun hv => absurd rfl hv) (by rw [hservice]; decide) (by decide)
    (fun sv hsv hrest => ⟨?_, ?_⟩) ?_ ?_
  · exact h.asking.same (by rw [hservice]; decide) (by rw [hsv]; decide) hrest
  · refine h.called.uncall (k := k) hk (fun q m => ?_) (by rw [hsv]; decide) (fun j hj => hset j _ hj) hrest
    rw [hself]
    nofun
  · refine h.listed.ticket (k := k) (fun j hj => hset j _ hj) ?_ ?_ (fun j hj => ?_) (fun _ _ => .rfl)
      (List.nodup_cons.mpr ⟨hw, h.listed.waitingNodup⟩) h.listed.skippedNodup ?_
    · rw [hself]
      exact iff_of_true rfl List.mem_cons_self
    · rw [hself]
      exact iff_of_false nofun hl
    · rw [List.mem_cons, or_iff_right hj]
    · rw [hself]
      nofun
  · refine h.numbered.ticket (k := k) (fun j hj => hset j _ hj) ?_ ?_
    · rw [hk]; simp
    · rw [hself]
      nofun

/-- A station's sale and service states do not outlast its leaving. -/
theorem LineSound.left_congr {l' : Line} (h : LineSound excused figures (l'.left p)) (htickets : l'.tickets = l.tickets)
    (horders : l'.orders = l.orders) (hcomposer : l'.composer = l.composer)
    (hother : ∀ q, q ≠ p → l'.posts q = l.posts q) (hstate : (l'.posts p).state = (l.posts p).state)
    (honline : (l'.posts p).online = (l.posts p).online) (hkind : (l'.posts p).kind = (l.posts p).kind) :
    LineSound excused figures (l.left p) := by
  unfold Line.left Line.at at h ⊢
  dsimp only at h ⊢
  rw [htickets, horders, hcomposer, hstate, honline, hkind] at h
  refine (congrArg (fun f => LineSound excused figures ⟨_, _, _, f⟩) (funext fun q => ?_)).mp h
  rw [Function.update_apply, Function.update_apply]
  split
  · rfl
  · next hq => exact hother q hq

theorem returnTicket_left (h : LineSound (· = p) figures s.floor.line) (hasking : (s.port p).service ≠ .asking) :
    LineSound nobody figures ((returnTicket p s).floor.line.left p) := by
  unfold returnTicket
  split
  · next hnone =>
    cases hservice : (s.port p).service with
    | free => exact left_free h hservice
    | serving => exact left_serving h hservice
    | asking => exact absurd hservice hasking
    | called =>
      obtain ⟨k, n, hk⟩ := (h.called.iff p).mp hservice
      exact absurd hk (calledTicket_none hnone k n)
  · next k hk =>
    obtain ⟨n, hk⟩ := calledTicket_some hk
    have hreturned := h.returned hk
    have hservice : (s.port p).service = .called := (h.called.iff p).mpr ⟨k, n, hk⟩
    split
    · next q rest hcalling =>
      have hmem : q ∈ s.tickets.calling := by rw [hcalling]; exact List.mem_cons_self
      have hq : (s.port q).service = .asking := (h.asking.iff q).mpr hmem
      have hne : q ≠ p := by
        rintro rfl
        rw [hservice] at hq
        cases hq
      have hpost : (s.floor.line.returned k p).posts q = s.floor.line.posts q := by
        rw [Line.returned, Line.at_posts, if_neg hne]
      have hself : (s.tickets.recs.set k { s.ticket k with state := .waiting })[k] =
          { s.ticket k with state := .waiting } := by rw [getElem_set_ticket, if_pos rfl]
      have hoff := called_off_lists h hk
      have hcall := hreturned.call (k := k) (p := q)
        (u := { s.tickets with
          calling := rest, recs := s.tickets.recs.set k { s.ticket k with state := .waiting } })
        (r := calledRec s k q (raisedCount (s.ticket k))) rfl (fun _ _ => rfl)
        (by rw [hpost]; exact h.attended q hne (by rw [show (s.floor.line.posts q).service = _ from hq]; decide))
        (by rw [hpost]; exact service_ne hq (by decide))
        (fun sv hsv hrest => (hcalling ▸ hreturned.asking : Asking _ (q :: rest)).leave_head (by rw [hsv]; decide) hrest)
        (fun q' m he => ?_) (fun j m he => ?_) ?_ (fun j => ?_) h.listed.waitingNodup (mem_iff_and_ne hoff.2)
        h.listed.skippedNodup
      · have hleft := left_free hcall (by rw [Line.at_posts, if_neg hne.symm, Line.returned, LineSound.at_self])
        rw [line_callTicket]
        refine hleft.left_congr ?_ rfl rfl (fun r hr => ?_) ?_ ?_ ?_
        · exact congrArg (fun v => { s.tickets with calling := rest, recs := v }) (Vector.set_set _ _)
        · rw [Line.at_posts, Line.at_posts, hpost]
          refine if_congr .rfl rfl ?_
          rw [Line.returned, Line.at_posts, if_neg hr]
          rfl
        all_goals
          rw [Line.at_posts, Line.at_posts, if_neg hne.symm, if_neg hne.symm, Line.returned, LineSound.at_self]
          rfl
      · rw [show ((s.floor.line.returned k p).tickets.recs[k]) = _ from hself] at he
        cases he
      · have hcalled := (hreturned.called.iff q).mpr ⟨j, m, he⟩
        rw [hpost, show (s.floor.line.posts q).service = _ from hq] at hcalled
        cases hcalled
      · rw [show ((s.floor.line.returned k p).tickets.recs[k]) = _ from hself]
        nofun
      · refine Iff.trans ?_ (and_congr_left' List.mem_cons).symm
        exact ⟨fun hj => ⟨.inr hj, fun e => hoff.1 (e ▸ hj)⟩, fun ⟨hj, hj'⟩ => hj.resolve_left hj'⟩
    · have hleft := left_free hreturned (by rw [Line.returned, LineSound.at_self])
      rw [line_setTicket]
      refine hleft.left_congr rfl rfl rfl (fun r hr => ?_) ?_ ?_ ?_
      · rw [Line.returned, Line.at_posts, if_neg hr]
        rfl
      all_goals
        rw [Line.returned, LineSound.at_self]
        rfl

end Sys2Proof.Machine
end

section
/-! PROOFS. The offline event, the attach, the tick and the resets keep the line sound; the walk. -/

namespace Sys2Proof.Machine

variable {excused : CounterPort → Prop} {figures : Prop} {s t : State} {p : CounterPort} {k : TicketNo} {l : Line}

/-! ### The offline event (R9) -/

theorem voidUnprinted_line (h : LineSound excused figures s.floor.line) (p : CounterPort) (k : SlotNo) :
    LineSound excused figures (voidUnprinted p s k).floor.line := by
  unfold voidUnprinted
  split
  · exact h
  · next label _ =>
    split
    · exact h
    · split
      · rw [floor_notify]
        exact h
      · dsimp only
        rw [floor_notify]
        split
        · next sr _ _ =>
          have hcounted : (countBoth p { unprintedVoids := 1 }
              { unprintedVoids := 1, voidValue := sr.amounts.final } (modRet (moveSale false sr)
              (modLog label.serial (fun e => { e with state := .unprinted }) s))).floor = s.floor := by simp
          split
          · exact markLineVoided_line (by rw [hcounted]; exact h) _ _ false
          · rw [hcounted]
            exact h
        · exact h

theorem voidUnprinteds_line (p : CounterPort) (ks : List SlotNo) : ∀ s, LineSound excused figures s.floor.line →
    LineSound excused figures (ks.foldl (voidUnprinted p) s).floor.line := by
  induction ks with
  | nil => exact fun s h => h
  | cons k ks ih => exact fun s h => ih _ (voidUnprinted_line h p k)

theorem offlineSlots_line (h : LineSound excused figures s.floor.line) :
    LineSound excused figures (offlineSlots p s).floor.line := by
  unfold offlineSlots
  rw [line_modPort (fun _ => by rfl)]
  exact voidUnprinteds_line p _ s h

theorem line_offlineStart (p : CounterPort) (s : State) : (offlineStart p s).floor.line = s.floor.line := by
  unfold offlineStart
  split
  · rw [line_closeSnapshot, floor_offlineCounted]
  · rw [floor_offlineCounted]

theorem offlineScale_line (h : LineSound (· = p) figures s.floor.line) : LineKept figures (offlineScale p s) := by
  unfold LineKept
  rw [offlineScale_eq, line_offlineRest]
  refine returnTicket_left (leaveCalling_line (offlineSlots_line ?_)) (leaveCalling_service p _)
  rw [line_offlineStart]
  exact h

theorem line_offlineLink (p : CounterPort) (s : State) :
    (offlineLink p s).floor.line = s.floor.line.at p { s.floor.line.posts p with online := false } :=
  line_modPort_at (g := fun c => { c with online := false }) (fun _ => by rfl) p s

theorem goOffline_line (h : LineKept figures s) (p : CounterPort) (cause : StationCause) :
    LineKept figures (goOffline p cause s) := by
  unfold goOffline
  dsimp only
  refine LineKept.congr (s := if (s.port p).kind = some .scale then offlineScale p (offlineLink p s)
    else offlineLink p s) ?_ (by rw [floor_notify])
  split
  · refine offlineScale_line ?_
    rw [line_offlineLink]
    exact h.repost rfl nofun (fun hp => absurd rfl hp) (fun _ _ he => he.elim) (.inl rfl)
  · next hkind =>
    unfold LineKept
    rw [line_offlineLink]
    exact h.repost rfl nofun (fun hp hservice => absurd (h.attended p id hservice).2 hkind) (fun _ _ => id) (.inl rfl)

/-! ### Ports down and attached -/

/-- A port whose station is OFFLINE is FREE. -/
theorem service_of_offline (h : LineKept figures s) (hp : (s.port p).online = false) : (s.port p).service = .free := by
  by_contra hne
  have honline : (s.port p).online = true := (h.attended p id hne).1
  rw [hp] at honline
  cases honline

theorem unbound_of_offline (h : LineKept figures s) (hp : (s.port p).online = false) :
    Unbound figures s.composer p := by
  rintro j hlive hbound rfl
  obtain ⟨-, o, ho, hserves⟩ := h.jobs.placed j hlive hbound
  have hserving : (s.port j.station).service = .serving := (h.serving.iff _).mpr ⟨o, ho, hserves.here⟩
  rw [service_of_offline h hp] at hserving
  cases hserving

/-- An OFFLINE port changes, its service state staying FREE. -/
theorem setPort_line (h : LineKept figures s) (hp : (s.port p).online = false) {c : Port} (hservice : c.service = .free)
    (hup : c.online = true → c.state = .up) : LineKept figures (s.setPort p c) := by
  unfold LineKept
  rw [line_setPort]
  refine h.repost (hservice.trans (service_of_offline h hp).symm) hup (fun _ hne => absurd hservice hne)
    (fun _ _ => id) (.inr (unbound_of_offline h hp))

theorem portDown_line (h : LineKept figures s) (hp : (s.port p).online = false) : LineKept figures (portDown p s) :=
  setPort_line h hp (service_of_offline h hp) fun honline => by
    rw [show (s.port p).online = true from honline] at hp
    cases hp

theorem attach_line (h : LineKept figures s) (hp : (s.port p).online = false) (k : DeviceKind) (sw : Switch)
    (pr : PrinterCondition) : LineKept figures (attach p k sw pr s) := by
  unfold attach
  split
  · refine LineKept.congr (setPort_line (c := restarted s p k sw pr) h hp ?_ fun _ => ?_) (by rw [floor_notify])
    · cases k <;> rfl
    · cases k <;> rfl
  · refine LineKept.congr (setPort_line (c := { s.port p with state := .refused, mask := none, tx := [.refused] }) h hp
      (service_of_offline h hp) fun honline => ?_) (by rw [floor_notify]; rfl)
    rw [show (s.port p).online = true from honline] at hp
    cases hp

/-! ### Time and resets -/

theorem abandonOrder_line (h : LineKept figures s) {n : Nat} {o : Order} (ho : orderOf s.orders n = some o)
    (hparked : o.state = .parked) : LineKept figures (abandonOrder o s) := by
  unfold LineKept abandonOrder
  rw [floor_notify, floor_countGrand, line_freeOrder]
  exact h.abandon (orderOf_some ho).1 hparked

theorem tick_state_iff {v : TicketState} (hv : ∀ q n, v ≠ .called q n) (r : TicketRec) :
    r.tick.state = v ↔ r.state = v := by
  unfold TicketRec.tick
  dsimp only
  split <;> rename_i hstate
  · rfl
  · rfl
  · rw [hstate]
    exact iff_of_false (hv _ _).symm (hv _ _).symm
  · rfl
  · rfl

theorem tick_called_iff (r : TicketRec) (q : CounterPort) :
    (∃ n, r.tick.state = .called q n) ↔ ∃ n, r.state = .called q n := by
  unfold TicketRec.tick
  dsimp only
  split <;> rename_i hstate <;> simp [hstate]

theorem tick_free {r : TicketRec} (h : r.tick.state = .free) : r.tick = r := by
  have hfree : r.state = .free := (tick_state_iff (by simp) r).mp h
  unfold TicketRec.tick
  rw [hfree]

/-- The order with a second more on its idle count (R155). -/
def idled (o : Order) : Order := { o with idle := satUp Config.maxAge o.idle 1 }

theorem LineSound.ticked (h : LineSound excused figures l) : LineSound excused figures
    { l with tickets := { l.tickets with recs := l.tickets.recs.map TicketRec.tick }, orders := l.orders.map idled } := by
  have hrec (k : TicketNo) : (l.tickets.recs.map TicketRec.tick)[k] = (l.tickets.recs[k]).tick :=
    Vector.getElem_map _ k.isLt
  have hstate (k : TicketNo) {v : TicketState} (hv : ∀ q n, v ≠ .called q n) :
      ((l.tickets.recs.map TicketRec.tick)[k]).state = v ↔ (l.tickets.recs[k]).state = v := by
    rw [hrec]
    exact tick_state_iff hv _
  have haged : LineSound excused figures
      { l with tickets := { l.tickets with recs := l.tickets.recs.map TicketRec.tick } } := by
    refine h.tickets rfl (h.called.tickets fun j q => ?_)
      ⟨fun k => (hstate k (by simp)).trans (h.listed.waiting k), fun k => (hstate k (by simp)).trans (h.listed.skipped k),
        h.listed.waitingNodup, h.listed.skippedNodup, fun k hk => ?_⟩
      { h.numbered with iff := fun k => (hstate k (by simp)).trans (h.numbered.iff k) }
    · rw [hrec]
      exact tick_called_iff _ q
    · have hfree := (hstate k (by simp)).mp hk
      rw [hrec] at hk ⊢
      rw [tick_free hk]
      exact h.listed.freeFresh k hfree
  exact haged.reorder (f := idled) (fun _ => ⟨rfl, rfl, rfl⟩)
    (fun _ _ _ _ _ hs => hs.mono rfl rfl (fun _ => le_rfl) fun _ => le_rfl) fun _ _ _ hx => hx

theorem tickCounts_line (h : LineKept figures s) : LineKept figures (tickCounts s) := by
  have hposts (q : CounterPort) : ((tickCounts s).port q).station.post = (s.port q).station.post := by
    rw [tickCounts_port]
    split <;> rfl
  have hline : (tickCounts s).floor.line =
      { s.floor.line with
        tickets := { s.tickets with recs := s.tickets.recs.map TicketRec.tick }
        orders := s.orders.map idled } := congrArg (Line.mk _ _ _) (funext hposts)
  unfold LineKept
  rw [hline]
  exact h.ticked

theorem afterReset_line (l : List Instr) (r : Retained) (c : Clock) (q : NoticeQueue) (n : Nat) :
    LineKept figures (State.afterReset l r c q n) := by
  refine lineKept_of_quiet (fun p honline => ?_) (fun p => ?_) (fun k => ?_) ⟨rfl, rfl, rfl⟩ rfl ⟨rfl, rfl⟩
  · rw [afterReset_port] at honline
    cases honline
  · rw [afterReset_port]
    rfl
  · exact Vector.getElem_replicate k.isLt

/-- Every operation keeps the line sound. -/
theorem lineKept_kept (figures : Prop) : KeptByOps (LineKept figures) where
  congr h hfloor := h.congr (congrArg Floor.line hfloor)
  upOnline h := h.upOnline _
  portDown h hp := portDown_line h hp
  goOffline cause h _ := goOffline_line h _ cause
  dayTest h := dayTest_line h
  attach k sw pr h hp := attach_line h hp k sw pr
  switchReport sw h _ := switchReport_line h sw
  loginOp n h hp := loginOp_line h hp n
  logoutOp h hp := logoutOp_line h hp
  pluOp n h hp := pluOp_line h hp n
  printOp h hp := printOp_line h hp
  cancelOp h hp := cancelOp_line h hp
  voidOp n h _ := voidOp_line h n
  reprintOp n h _ := reprintOp_line h n
  nextOp h hp := nextOp_line h hp
  serveOp h hp := serveOp_line h hp
  recallOp h hp := recallOp_line h hp
  skipOp h _ := skipOp_line h
  recallSkippedOp n h hp := recallSkippedOp_line h hp n
  cancelNextOp h _ := cancelNextOp_line h
  parkOp h hp := parkOp_line h hp
  pickupOp n h hp := pickupOp_line h hp n
  closeOrderOp h hp := closeOrderOp_line h hp
  takeRequestOp h := takeRequestOp_line h
  takeDecision h := takeDecision_line h
  discard h _ _ := freeComposer_line h
  completeJob h hd hdropped ht := completeJob_line h hd hdropped ht
  skipTicket h hk := skipTicket_line h hk
  abandonOrder h ho hparked := abandonOrder_line h ho hparked
  tickCounts h := tickCounts_line h
  activationTest h := h.congr (line_activationTest _)
  commitDrainExpired h := commitDrainExpired_line h
  completeIfDrained h := h.congr (line_completeIfDrained _)
  closeDrainExpired h := closeDrainExpired_line h
  acceptCommit a h := h.congr (line_acceptCommit a _)
  abortCommit h := h.congr (line_commit _ _)
  beginClose h := beginClose_line h
  reset l r c q n _ _ := afterReset_line l r c q n

/-- The order of a summary being composed is live. -/
theorem compositionComplete_keeps_order {s : State} (h : ServiceSound s) :
    exec .compositionComplete s ≠ .fault .lostOrder := by
  intro hfault
  obtain ⟨d, hd, hdropped, herror⟩ := execCompositionComplete_fault hfault
  obtain ⟨hslot, -⟩ | ⟨-, n, k, w, hsource, hlost⟩ := completeJob_error herror
  · cases hslot
  · obtain ⟨-, o, ho, hnumber, -⟩ := h.summaries d.job n k w (.inr ⟨d, hd, hdropped, rfl⟩) hsource
    have hne := List.find?_eq_none.mp hlost o ho
    simp [hnumber] at hne

/-- Settles O28, by a walk over the line: every operation keeps it sound, with the figures of orders or without. -/
theorem stepKeepsServiceLine : Obligations.StepKeepsServiceLine := by
  refine ⟨fun s t ⟨hc, hs⟩ ht => ?_, fun s t ⟨hc, hs, ho⟩ ht => ?_, fun s => compositionComplete_keeps_order⟩
  · exact ((lineKept_kept False).step (lineSound_of hc hs nofun) ht).serviceSound
  · exact ((lineKept_kept True).step (lineSound_of hc hs fun _ => ho) ht).ordersSound trivial

end Sys2Proof.Machine
end

section
/-! PROOFS. The state after reset, and the requests that write a table: operators, templates, translations,
configuration and clock. -/

namespace Sys2Proof.Machine

variable {s : State}

/-! ### After reset (11.5) -/

theorem reset_eq : State.reset = State.afterReset [] Retained.empty Clock.powerUp NoticeQueue.fresh 0 := rfl

theorem afterReset_lineKept (figures : Prop) : LineKept figures State.reset := afterReset_line _ _ _ _ _

theorem reset_queuesBounded : QueuesBounded State.reset where
  notices := Nat.zero_le _
  lost := Nat.zero_le _
  replies := Nat.zero_le _
  staged := Nat.zero_le _
  log := Nat.zero_le _
  skipped := Nat.zero_le _
  orders := Nat.zero_le _
  displays := afterReset_quiet _ _ _ _ _

theorem slotCtx_fresh_sound : SlotsSound SlotCtx.fresh where
  partition := by decide
  filled := by decide
  outstanding := nofun

theorem reset_slots : AllSlotsSound State.reset := fun p => by
  rw [reset_eq, afterReset_port]
  exact slotCtx_fresh_sound

theorem reset_composer : ComposerSound State.reset := by
  have hnone : State.reset.composer.current = none := rfl
  refine ⟨List.nodup_nil, fun c hc => ?_, fun c hc => ?_⟩ <;> rw [hnone] at hc <;> cases hc

theorem reset_ledger : LedgerBalanced State.reset := fun _ => by decide

theorem reset_table : TableSound State.reset where
  rising := List.Pairwise.nil
  room := Nat.zero_le _
  staged := List.nodup_nil
  fits := nofun

theorem reset_config : ConfigSound State.reset.ret.config := by
  constructor <;> decide

/-- Settles O4: every list is empty and every port as before its first HELLO. -/
theorem resetMeetsInvariants : Obligations.ResetMeetsInvariants :=
  ⟨reset_queuesBounded, reset_slots, reset_composer, .inl rfl, .inl rfl, (afterReset_lineKept False).serviceSound,
    afterReset_generations _ _ _ _ _ (by decide), reset_ledger, (afterReset_lineKept True).ordersSound trivial,
    reset_table, reset_config⟩

/-! ### Requests answered -/

/-- A request refused: nothing changes but the reply queue. -/
theorem exec_refused {i : Instr} {own : State → State} {tag : Nat} {code : ResultCode} {data : ReplyData}
    (h : UplinkOpen s) (hexec : exec i s = .next (arrive i own s))
    (hown : own (uplinkRaised s) = reply tag code data (uplinkRaised s)) :
    exec i s = .next (replied tag code data s) := exec_replied h hexec h.1 hown

/-- A request that changes the retained store and is answered. -/
theorem exec_stored {i : Instr} {own : State → State} {tag : Nat} {code : ResultCode} {data : ReplyData}
    {ret : Retained} (h : UplinkOpen s) (hexec : exec i s = .next (arrive i own s))
    (hown : own (uplinkRaised s) = reply tag code data (uplinkRaised { s with ret := ret })) :
    exec i s = .next (replied tag code data { s with ret := ret }) := exec_replied h hexec h.1 hown

/-! ### OPERATOR_WRITE (R14) -/

@[simp] theorem operatorOfNumber_number (k : OperatorNo) : operatorOfNumber k.number = some k := by
  simp [operatorOfNumber, OperatorNo.number]

theorem operatorOfNumber_out {n : Nat} (h : n = 0 ∨ 32 < n) : operatorOfNumber n = none := by
  obtain rfl | h := h
  · rfl
  · rw [operatorOfNumber, dif_neg (by omega)]

theorem stationOf_eq_none_iff (s : State) (k : OperatorNo) :
    stationOf s k = none ↔ ∀ q : CounterPort, (s.port q).operator ≠ some k := by
  simp [stationOf]

/-- A name as R14 asks for. -/
theorem nameRefused_iff (r : Option OperatorRecord) :
    (r.any fun x => x.name.isEmpty || decide (12 < x.name.length)) = true ↔
      ∃ x, r = some x ∧ (x.name.length = 0 ∨ 12 < x.name.length) := by
  cases r <;> simp

theorem operatorWriteRefusal_number (s : State) (k : OperatorNo) (r : Option OperatorRecord) :
    operatorWriteRefusal s k.number r =
      if r.any fun x => x.name.isEmpty || decide (12 < x.name.length) then some .badRecord
      else if (stationOf s k).isSome then some .operatorBusy else none := by
  rw [operatorWriteRefusal, operatorOfNumber_number]

theorem operatorWriteOp_refused {n : Nat} {r : Option OperatorRecord} {code : ResultCode}
    (h : operatorWriteRefusal s n r = some code) (tag : Nat) :
    operatorWriteOp tag n r s = reply tag code .none s := by
  rw [operatorWriteOp, h]
  rfl

theorem operatorWriteOp_stored {k : OperatorNo} {r : Option OperatorRecord}
    (h : operatorWriteRefusal s k.number r = none) (tag : Nat) :
    operatorWriteOp tag k.number r s = reply tag .ok .none
      { s with ret := { s.ret with operators := s.ret.operators.set k r } } := by
  rw [operatorWriteOp, h, operatorOfNumber_number]
  rfl

/-- Settles O16: the checks of R14 in their order decide the request. -/
theorem operatorWriteReplacesRecord : Obligations.OperatorWriteReplacesRecord := by
  intro s tag hopen
  have hgood {r : Option OperatorRecord} (hr : ∀ x, r = some x → 1 ≤ x.name.length ∧ x.name.length ≤ 12) :
      ¬ (r.any fun x => x.name.isEmpty || decide (12 < x.name.length)) = true := fun hbad => by
    obtain ⟨x, hx, hlength⟩ := (nameRefused_iff r).mp hbad
    have := hr x hx
    omega
  refine ⟨fun k r hr hnowhere => ?stored, fun k r q hr hq => ?busy, fun k x hx => ?badName, fun n r hn => ?badNumber⟩
  case stored =>
    refine exec_stored hopen rfl (operatorWriteOp_stored ?_ tag)
    rw [operatorWriteRefusal_number, if_neg (hgood hr),
      (stationOf_eq_none_iff (uplinkRaised s) k).mpr hnowhere]
    rfl
  case busy =>
    refine exec_refused hopen rfl (operatorWriteOp_refused ?_ tag)
    have hsome : (stationOf (uplinkRaised s) k).isSome = true := by
      rw [Option.isSome_iff_ne_none]
      exact fun hnone => (stationOf_eq_none_iff _ k).mp hnone q hq
    rw [operatorWriteRefusal_number, if_neg (hgood hr), if_pos hsome]
  case badName =>
    refine exec_refused hopen rfl (operatorWriteOp_refused ?_ tag)
    rw [operatorWriteRefusal_number, if_pos ((nameRefused_iff _).mpr ⟨x, rfl, hx⟩)]
  case badNumber =>
    refine exec_refused hopen rfl (operatorWriteOp_refused ?_ tag)
    rw [operatorWriteRefusal, operatorOfNumber_out hn]

/-! ### TEMPLATE_WRITE (R89) -/

theorem storeTemplate_number (n : Fin 16) (t : Option Template) (ret : Retained) :
    storeTemplate (n.val + 1) t ret = { ret with templates := ret.templates.set n t } := by
  simp [storeTemplate, modifyEntry]

theorem templateWriteOp_none (n : Fin 16) (tag : Nat) (s : State) :
    templateWriteOp tag (n.val + 1) none s = reply tag .ok .none
      { s with ret := { s.ret with templates := s.ret.templates.set n none } } := by
  unfold templateWriteOp
  rw [if_neg (by omega), modRet, storeTemplate_number]

theorem templateWriteOp_stored (n : Fin 16) {raw : TemplateRaw} {t : Template} (h : templateOf raw = .ok t) (tag : Nat)
    (s : State) : templateWriteOp tag (n.val + 1) (some raw) s = reply tag .ok .none
      { s with ret := { s.ret with templates := s.ret.templates.set n (some t) } } := by
  unfold templateWriteOp
  rw [if_neg (by omega)]
  dsimp only
  rw [h]
  dsimp only
  rw [modRet, storeTemplate_number]

theorem templateWriteOp_refused (n : Fin 16) {raw : TemplateRaw} {d : ReplyData} (h : templateOf raw = .error d)
    (tag : Nat) (s : State) : templateWriteOp tag (n.val + 1) (some raw) s = reply tag .badRecord d s := by
  unfold templateWriteOp
  rw [if_neg (by omega)]
  dsimp only
  rw [h]

/-- A template of an allowed length is judged by its descriptors. -/
theorem templateOf_filtered (k : TemplateKind) {fields : List FieldRaw} (hlow : 1 ≤ fields.length)
    (hhigh : fields.length ≤ 20) (h : fields.findIdx? (fun f => (fieldOf f).isNone) = none) :
    templateOf { kind := some k, fields := fields } = .ok { kind := k, fields := fields.filterMap fieldOf } := by
  unfold templateOf
  dsimp only
  rw [if_neg (by unfold Config.maxFields; omega), h]

theorem templateOf_position (k : TemplateKind) {fields : List FieldRaw} {i : Nat} (hlow : 1 ≤ fields.length)
    (hhigh : fields.length ≤ 20) (h : fields.findIdx? (fun f => (fieldOf f).isNone) = some i) :
    templateOf { kind := some k, fields := fields } = .error (.position (i + 1)) := by
  unfold templateOf
  dsimp only
  rw [if_neg (by unfold Config.maxFields; omega), h]

/-- Descriptors that all stand. -/
theorem templateOf_valid (k : TemplateKind) {fields : List FieldRaw} {stored : List FieldDesc}
    (hlow : 1 ≤ fields.length) (hhigh : fields.length ≤ 20) (h : fields.map fieldOf = stored.map some) :
    templateOf { kind := some k, fields := fields } = .ok { kind := k, fields := stored } := by
  have hnone : fields.findIdx? (fun f => (fieldOf f).isNone) = none := by
    rw [List.findIdx?_eq_none_iff]
    intro f hf
    have hmem : fieldOf f ∈ stored.map some := h ▸ List.mem_map_of_mem hf
    obtain ⟨d, -, hd⟩ := List.mem_map.mp hmem
    simp [← hd]
  have hfilter : fields.filterMap fieldOf = stored := by
    calc fields.filterMap fieldOf = (fields.map fieldOf).filterMap id := by rw [List.filterMap_map]; rfl
      _ = stored := by rw [h, List.filterMap_map]; simp
  rw [templateOf_filtered k hlow hhigh hnone, hfilter]

/-- The first descriptor that fails is named by its place. -/
theorem templateOf_failing (k : TemplateKind) {good rest : List FieldRaw} {bad : FieldRaw}
    (hroom : good.length + 1 + rest.length ≤ 20) (hgood : ∀ f ∈ good, fieldOf f ≠ none) (hbad : fieldOf bad = none) :
    templateOf { kind := some k, fields := good ++ bad :: rest } = .error (.position (good.length + 1)) := by
  have hidx : (good ++ bad :: rest).findIdx? (fun f => (fieldOf f).isNone) = some good.length := by
    rw [List.findIdx?_append, List.findIdx?_eq_none_iff.mpr fun f hf => by simpa [Option.isSome_iff_ne_none] using hgood f hf, List.findIdx?_cons]
    simp [hbad]
  exact templateOf_position k (by simp; omega) (by simp; omega) hidx

/-! ### TRANSLATE_WRITE (R90) -/

theorem withHalf_low (codes : List Byte) (t : Vector Byte 256) (i : Fin 256) :
    (withHalf .low codes t)[i] = if i.val < 128 then codes.getD i.val 0 else t[i] :=
  Vector.getElem_ofFn i.isLt

theorem withHalf_high (codes : List Byte) (t : Vector Byte 256) (i : Fin 256) :
    (withHalf .high codes t)[i] = if 128 ≤ i.val then codes.getD (i.val - 128) 0 else t[i] :=
  Vector.getElem_ofFn i.isLt

/-- The half named holds the codes, the other half its own. -/
theorem withHalf_spec (half : TableHalf) {codes : List Byte} (hcodes : codes.length = 128) (t : Vector Byte 256)
    (i : Fin 256) :
    ((match half with | .low => decide (i.val < 128) | .high => decide (128 ≤ i.val)) = true →
      codes[i.val % 128]? = some (withHalf half codes t)[i]) ∧
    ((match half with | .low => decide (i.val < 128) | .high => decide (128 ≤ i.val)) = false →
      (withHalf half codes t)[i] = t[i]) := by
  have hi := i.isLt
  have hmod : i.val % 128 < codes.length := by omega
  rw [List.getElem?_eq_getElem hmod]
  cases half with
  | low =>
    rw [withHalf_low]
    refine ⟨fun h => ?_, fun h => if_neg (by simpa using h)⟩
    have hlow : i.val < 128 := by simpa using h
    have hsame : i.val % 128 = i.val := Nat.mod_eq_of_lt hlow
    simp [hlow, hsame, List.getD_eq_getElem?_getD, List.getElem?_eq_getElem (hsame ▸ hmod)]
  | high =>
    rw [withHalf_high]
    refine ⟨fun h => ?_, fun h => if_neg (by simpa using h)⟩
    have hhigh : 128 ≤ i.val := by simpa using h
    have hsame : i.val % 128 = i.val - 128 := by omega
    simp [hhigh, hsame, List.getD_eq_getElem?_getD, List.getElem?_eq_getElem (hsame ▸ hmod)]

theorem translateWriteOp_stored {table : Nat} {half : TableHalf} {codes : List Byte} (h : codes.length = 128)
    (htable : ¬ 1 < table) (tag : Nat) : translateWriteOp tag table half codes s =
      reply tag .ok .none (modRet (storeHalf table half codes) s) := by
  rw [translateWriteOp, if_neg (by simpa using h), if_neg htable]

theorem translateWriteOp_above {table : Nat} {half : TableHalf} {codes : List Byte} (h : codes.length = 128)
    (htable : 1 < table) (tag : Nat) : translateWriteOp tag table half codes s = reply tag .badRecord .none s := by
  rw [translateWriteOp, if_neg (by simpa using h), if_pos htable]
  rfl

/-- Settles O20: a template is stored or its first failing descriptor named, and a table's half replaced. -/
theorem labelTablesAreWritten : Obligations.LabelTablesAreWritten := by
  refine ⟨fun s tag n hopen => ⟨?absent, fun k fields stored hlow hhigh h => ?stored,
    fun k good bad rest hroom hgood hbad => ?failing⟩, fun s tag half codes hopen hcodes =>
    ⟨⟨withHalf half codes s.ret.table0, ?table0, withHalf_spec half hcodes s.ret.table0⟩,
      ⟨withHalf half codes s.ret.table1, ?table1, withHalf_spec half hcodes s.ret.table1⟩, fun n hn => ?above⟩⟩
  case absent => exact exec_stored hopen rfl (templateWriteOp_none n tag (uplinkRaised s))
  case stored =>
    exact exec_stored hopen rfl (templateWriteOp_stored n (templateOf_valid k hlow hhigh h) tag (uplinkRaised s))
  case failing =>
    exact exec_refused hopen rfl (templateWriteOp_refused n (templateOf_failing k hroom hgood hbad) tag (uplinkRaised s))
  case table0 => exact exec_stored hopen rfl (translateWriteOp_stored hcodes (by decide) tag)
  case table1 => exact exec_stored hopen rfl (translateWriteOp_stored hcodes (by decide) tag)
  case above => exact exec_refused hopen rfl (translateWriteOp_above hcodes hn tag)

end Sys2Proof.Machine
end

section
/-! PROOFS. CONFIG_WRITE and TIME_SET, and what an applied entry of the pending list does to the item table. -/

namespace Sys2Proof.Machine

variable {s : State}

/-! ### CONFIG_WRITE (R200) -/

theorem configWriteOp_applied {entries : List ConfigEntry} (hlength : entries.length ≤ 11)
    (h : firstFailing 1 [] entries = none) (tag : Nat) : configWriteOp tag entries s =
      reply tag .ok (.config (entries.filterMap clampedField) (entries.foldl applyEntry s.ret.config))
        { s with ret := { s.ret with config := entries.foldl applyEntry s.ret.config } } := by
  rw [configWriteOp, if_neg (by omega), h]
  rfl

theorem configWriteOp_refused {entries : List ConfigEntry} {n : Nat} (hlength : entries.length ≤ 11)
    (h : firstFailing 1 [] entries = some n) (tag : Nat) :
    configWriteOp tag entries s = reply tag .badRecord (.position n) s := by
  rw [configWriteOp, if_neg (by omega), h]

/-- One entry that does not fail is alone in its write. -/
theorem firstFailing_single {e : ConfigEntry} (h : entryFails e = false) : firstFailing 1 [] [e] = none := by
  cases e with
  | unknown n => cases h
  | number | mask | zeroTracking => simp [firstFailing, configFieldOf, h]

theorem firstFailing_bad {e : ConfigEntry} (h : entryFails e = true) : firstFailing 1 [] [e] = some 1 := by
  cases e with
  | unknown n => rfl
  | number | mask | zeroTracking => simp [firstFailing, configFieldOf, h]

theorem firstFailing_repeated (f : NumberField) (v w : Nat) :
    firstFailing 1 [] [.number f v, .number f w] = some 2 := by
  simp [firstFailing, configFieldOf, entryFails]

theorem clamp_eq_max_min {lo hi : Nat} (h : lo ≤ hi) (v : Nat) : clamp lo hi v = max lo (min hi v) := by
  unfold clamp
  split
  · omega
  · split <;> omega

theorem clamp_eq_self_iff {lo hi v : Nat} : clamp lo hi v = v ∧ lo ≤ hi ↔ lo ≤ v ∧ v ≤ hi := by
  unfold clamp
  split
  · omega
  · split <;> omega

theorem numberRange_of_mem {f : NumberField} {lo hi : Nat}
    (h : (f, lo, hi) ∈ [(NumberField.supervisionReload, 2, 10), (.commitDrain, 5, 300), (.closeDrain, 5, 300),
      (.callTimeout, 30, 600), (.parkTimeout, 5, 120), (.serviceRatio, 1, 4)]) :
    numberRange f = (lo, hi) ∧ lo ≤ hi := by
  simp only [List.mem_cons, Prod.mk.injEq, List.not_mem_nil, or_false] at h
  obtain ⟨rfl, rfl, rfl⟩ | ⟨rfl, rfl, rfl⟩ | ⟨rfl, rfl, rfl⟩ | ⟨rfl, rfl, rfl⟩ | ⟨rfl, rfl, rfl⟩ | ⟨rfl, rfl, rfl⟩ := h <;>
    exact ⟨rfl, by decide⟩

theorem clampedField_number {f : NumberField} {lo hi : Nat} (hrange : numberRange f = (lo, hi)) (h : lo ≤ hi) (v : Nat) :
    [ConfigEntry.number f v].filterMap clampedField = if lo ≤ v ∧ v ≤ hi then [] else [.number f] := by
  simp only [List.filterMap_cons, clampedField, hrange, List.filterMap_nil]
  by_cases hv : lo ≤ v ∧ v ≤ hi
  · rw [if_pos hv, if_pos (clamp_eq_self_iff.mpr hv).1]
  · rw [if_neg hv, if_neg fun he => hv (clamp_eq_self_iff.mp ⟨he, h⟩)]

theorem clampedField_mask (k : Fin 4) (stations : List (Fin 16)) :
    [ConfigEntry.mask k stations].filterMap clampedField = if 0 ∈ stations ∨ 15 ∈ stations then [.mask k] else [] := by
  have hany : (stations.any fun n => n.val == 0 || n.val == 15) = true ↔ 0 ∈ stations ∨ 15 ∈ stations := by
    simp only [List.any_eq_true, Bool.or_eq_true, beq_iff_eq]
    constructor
    · rintro ⟨n, hn, h | h⟩
      · exact .inl ((Fin.ext h : n = 0) ▸ hn)
      · exact .inr ((Fin.ext h : n = 15) ▸ hn)
    · rintro (h | h)
      · exact ⟨0, h, .inl rfl⟩
      · exact ⟨15, h, .inr rfl⟩
  simp only [List.filterMap_cons, clampedField, List.filterMap_nil]
  by_cases h : 0 ∈ stations ∨ 15 ∈ stations
  · rw [if_pos h, if_pos (hany.mpr h)]
  · rw [if_neg h, if_neg fun he => h (hany.mp he)]

theorem maskOf_getElem (stations : List (Fin 16)) (p : CounterPort) :
    (maskOf stations)[p] = true ↔ ∃ n ∈ stations, n.val = p.number := by
  unfold maskOf
  rw [Fin.getElem_fin, Vector.getElem_ofFn]
  simp [CounterPort.number]

/-- Settles O21: the ranges by the elementary updates of a step, the rest by the entries of one write. -/
theorem configWriteClampsIntoRange : Obligations.ConfigWriteClampsIntoRange := by
  refine ⟨fun s t h ht => step_keeps_configSound h ht, fun s tag hopen => ?_⟩
  have hwrite (entries : List ConfigEntry) (hlength : entries.length ≤ 11)
      (h : firstFailing 1 [] entries = none) : exec (.configWrite tag entries) s = .next (replied tag .ok
        (.config (entries.filterMap clampedField) (entries.foldl applyEntry s.ret.config))
        { s with ret := { s.ret with config := entries.foldl applyEntry s.ret.config } }) :=
    exec_stored hopen rfl (configWriteOp_applied hlength h tag)
  have hrefuse (entries : List ConfigEntry) (n : Nat) (hlength : entries.length ≤ 11)
      (h : firstFailing 1 [] entries = some n) :
      exec (.configWrite tag entries) s = .next (replied tag .badRecord (.position n) s) :=
    exec_refused hopen rfl (configWriteOp_refused hlength h tag)
  refine ⟨hwrite [] (by simp) rfl, fun entries => hwrite entries, fun f lo hi v hmem => ?number,
    fun k stations => ⟨maskOf stations, ?mask, maskOf_getElem stations⟩,
    fun b => hwrite [.zeroTracking (some b)] (by simp) (firstFailing_single rfl),
    hrefuse [.zeroTracking none] 1 (by simp) (firstFailing_bad rfl),
    fun n => hrefuse [.unknown n] 1 (by simp) (firstFailing_bad rfl),
    fun f v w => hrefuse [.number f v, .number f w] 2 (by simp) (firstFailing_repeated f v w)⟩
  case number =>
    obtain ⟨hrange, hle⟩ := numberRange_of_mem hmem
    refine ⟨withNumber f (clamp lo hi v) s.ret.config, ?_, ?_, fun g hg => ?_, ?_, ?_⟩
    · have hw := hwrite [.number f v] (by simp) (firstFailing_single rfl)
      rw [clampedField_number hrange hle] at hw
      simpa only [List.foldl_cons, List.foldl_nil, applyEntry, hrange] using hw
    · rw [clamp_eq_max_min hle]
      cases f <;> rfl
    · cases f <;> cases g <;> first | rfl | exact absurd rfl hg
    · cases f <;> rfl
    · cases f <;> rfl
  case mask =>
    have hw := hwrite [.mask k stations] (by simp) (firstFailing_single rfl)
    rw [clampedField_mask] at hw
    exact hw

/-! ### TIME_SET (R202) -/

theorem timeSetOp_out {d : Date} {second : Nat} (h : dateValid d = false ∨ 86399 < second) (tag : Nat) :
    timeSetOp tag d second s = reply tag .outOfRange .none s := by
  rw [timeSetOp, if_pos (by simpa using h)]
  rfl

theorem timeSetOp_valid {d : Date} {second : Nat} (hd : dateValid d = true) (hs : second ≤ 86399) (tag : Nat) :
    timeSetOp tag d second s = activationTest (reply tag .ok (.clock s.clock)
      { s with clock := { date := d, second := second, valid := true } }) := by
  rw [timeSetOp, if_neg (by simp [hd]; omega)]

theorem clockReached_iff (c : Clock) (d : Date) (m : Nat) : clockReached c d m = true ↔
    c.valid = true ∧ (dateBefore d c.date = true ∨ c.date = d ∧ m ≤ c.second / 60) := by
  unfold clockReached minuteOf
  rw [Bool.and_eq_true, Bool.or_eq_true, Bool.and_eq_true, decide_eq_true_iff, decide_eq_true_iff]

theorem activationTest_unscheduled (h : ∀ d m, s.commit ≠ .scheduled d m) : activationTest s = s := by
  have hnot : activationDue s = false := by
    unfold activationDue
    split
    · next d m hc => exact absurd hc (h d m)
    · rfl
  rw [activationTest, hnot]
  rfl

theorem activationTest_waiting {d : Date} {m : Nat} (hc : s.commit = .scheduled d m)
    (hreached : clockReached s.clock d m = true) (hfits : capacityCount s.ret.items s.staged ≤ Config.maxItems)
    (hstale : staleOpen s ≠ 0) : activationTest s =
      { s with commit := .waiting { timer := s.ret.config.commitDrain, expired := false,
                                    awaited := staleOpen s, forced := 0 } } := by
  have hdue : activationDue s = true := by rw [activationDue, hc]; exact hreached
  rw [activationTest, hdue, if_pos rfl, activateCommit, if_pos ((tableFits_iff s).mpr hfits), enterWaiting_stale hstale]

/-- Settles O22: the checks of R202, and the activation test of the clock just set. -/
theorem timeSetSetsClock : Obligations.TimeSetSetsClock := by
  intro s tag d second hopen
  refine ⟨fun hd hs hc => ?set, fun h => ?refused, fun d' m hd hs hc hreached hfits hstale => ?due⟩
  case set =>
    refine exec_replied (base := { s with clock := ⟨d, second, true⟩ }) hopen rfl hopen.1 ?_
    rw [timeSetOp_valid hd hs]
    exact activationTest_unscheduled (s := reply tag .ok _ { uplinkRaised s with clock := ⟨d, second, true⟩ }) hc
  case refused => exact exec_refused hopen rfl (timeSetOp_out h tag)
  case due =>
    refine exec_replied (base := { s with clock := ⟨d, second, true⟩, commit := .waiting _ }) hopen rfl hopen.1 ?_
    rw [timeSetOp_valid hd hs]
    exact activationTest_waiting (s := reply tag .ok _ { uplinkRaised s with clock := ⟨d, second, true⟩ }) hc
      ((clockReached_iff _ d' m).mpr ⟨rfl, hreached⟩) hfits hstale

/-! ### Applied entries (R82, R83) -/

theorem itemOf_cons (x : ItemRecord) (xs : List ItemRecord) (n : Nat) :
    itemOf (x :: xs) n = if x.item.plu = n then some x else itemOf xs n := by
  simp only [itemOf, List.find?_cons]
  split <;> simp_all

theorem insertItem_itemOf (r : ItemRecord) (items : List ItemRecord) (n : Nat) :
    itemOf (insertItem r items) n = if r.item.plu = n then some r else itemOf items n := by
  induction items with
  | nil => exact itemOf_cons r [] n
  | cons x xs ih =>
    rw [insertItem]
    split
    · exact itemOf_cons r _ n
    · split
      · next he =>
        rw [itemOf_cons, itemOf_cons, ← he]
        split <;> rfl
      · next hne =>
        rw [itemOf_cons, itemOf_cons, ih]
        by_cases hx : x.item.plu = n
        · rw [if_pos hx, if_pos hx, if_neg fun hr => hne (hr.trans hx.symm)]
        · rw [if_neg hx, if_neg hx]

/-- In the place of a record that the table has. -/
theorem insertItem_replaces {r : ItemRecord} {items : List ItemRecord} (h : Rising items)
    (hold : r.item.plu ∈ plus items) :
    insertItem r items = items.map fun x => if x.item.plu = r.item.plu then r else x := by
  induction items with
  | nil => cases hold
  | cons x xs ih =>
    obtain ⟨hx, hxs⟩ := rising_cons.mp h
    rw [insertItem, List.map_cons]
    obtain heq | hmem := List.mem_cons.mp hold
    · have heq : r.item.plu = x.item.plu := heq
      rw [if_neg (by omega), if_pos heq, if_pos heq.symm]
      refine congrArg (r :: ·) ((List.map_id xs).symm.trans (List.map_congr_left fun y hy => (if_neg ?_).symm))
      exact fun he => absurd (hx y.item.plu (mem_plus hy)) (by omega)
    · have := hx r.item.plu hmem
      rw [if_neg (by omega), if_neg (by omega), if_neg (by omega), ih hxs hmem]

theorem insertItem_length_new {r : ItemRecord} {items : List ItemRecord} (hnew : r.item.plu ∉ plus items) :
    (insertItem r items).length = items.length + 1 := by
  induction items with
  | nil => rfl
  | cons x xs ih =>
    rw [plus_cons, List.mem_cons, not_or] at hnew
    rw [insertItem]
    split
    · rfl
    · rw [if_neg hnew.1, List.length_cons, ih hnew.2, List.length_cons]

theorem allZero_iff (g : ItemTotals) : g.allZero = true ↔
    g.items = 0 ∧ g.weight = 0 ∧ g.count = 0 ∧ g.value = 0 ∧ g.markdown = 0 := by
  simp [ItemTotals.allZero, and_assoc]

theorem applyEntries_single (openPlus : List Nat) (e : StageEntry) (items : List ItemRecord) :
    applyEntries openPlus [e] items = ((applyOne openPlus e items).1, [(applyOne openPlus e items).2]) := by
  cases e <;> rfl

section
variable {openPlus : List Nat} {n : Nat} {items : List ItemRecord} {r : ItemRecord}

theorem applyDelete_absent (h : itemOf items n = none) : applyDelete openPlus n items = (items, .noRecord) := by
  rw [applyDelete, h]

theorem applyDelete_removes (h : itemOf items n = some r) (hzero : r.totals.allZero = true) (hopen : n ∉ openPlus) :
    applyDelete openPlus n items = (items.filter (fun x => x.item.plu ≠ n), .removed) := by
  rw [applyDelete, h]
  have hcond : (r.totals.allZero && !openPlus.contains n) = true := by simp [hzero, hopen]
  simp only [hcond, if_true]
  congr 1
  exact List.filter_congr fun x _ => by by_cases he : x.item.plu = n <;> simp [he]

theorem applyDelete_retires (hrising : Rising items) (h : itemOf items n = some r)
    (hkept : ¬ (r.totals.allZero = true ∧ n ∉ openPlus)) : applyDelete openPlus n items =
      (items.map (fun x => if x.item.plu = n then { x with status := .retired } else x), .retired) := by
  obtain ⟨hr, rfl⟩ := itemOf_some h
  rw [applyDelete, h]
  have hcond : ¬ (r.totals.allZero && !openPlus.contains r.item.plu) = true := by simpa using hkept
  dsimp only
  rw [if_neg hcond, insertItem_replaces (r := { r with status := .retired }) hrising
    (show r.item.plu ∈ plus items from mem_plus hr)]
  refine congrArg (·, EntryEffect.retired) (List.map_congr_left fun x hx => ?_)
  split
  · next he =>
    rw [List.inj_on_of_nodup_map hrising.nodup hx hr he]
  · rfl

/-- A record of another number stays. -/
theorem applyDelete_keeps (hrising : Rising items) {x : ItemRecord} (hx : x ∈ items) (hne : x.item.plu ≠ n) :
    x ∈ (applyDelete openPlus n items).1 := by
  obtain he | he | ⟨r, hr, he⟩ := applyDelete_cases openPlus n items <;> rw [he]
  · exact hx
  · exact List.mem_filter.mpr ⟨hx, by simpa using hne⟩
  · obtain ⟨hmem, rfl⟩ := itemOf_some hr
    rw [insertItem_replaces (r := { r with status := .retired }) hrising
      (show r.item.plu ∈ plus items from mem_plus hmem)]
    exact List.mem_map.mpr ⟨x, hx, if_neg hne⟩

end

theorem applyPut_new {f : ItemFields} {items : List ItemRecord} (h : itemOf items f.plu = none) (m : Option Markdown) :
    applyPut f m items = (insertItem { item := f, markdown := m, status := .live, totals := {} } items, .added) := by
  rw [applyPut, h]

theorem applyPut_old {f : ItemFields} {items : List ItemRecord} {old : ItemRecord} (h : itemOf items f.plu = some old)
    (m : Option Markdown) : applyPut f m items =
      (insertItem { item := f, markdown := m, status := .live, totals := old.totals } items, .replaced) := by
  rw [applyPut, h]

/-- Settles O27: the number of an entry decides which record its insertion or removal touches. -/
theorem appliedEntriesFollowTheirKind : Obligations.AppliedEntriesFollowTheirKind := by
  refine ⟨fun openPlu n items hrising => ⟨fun hnone => ?absent, fun r hr => ⟨fun hgone => ?removed, fun hkept => ?retired⟩,
      fun m x hx hm hne => ?others⟩, fun openPlu f m items hrising => ⟨fun hnone => ?added, fun old hold => ?replaced,
      fun n hne => ?same, ?rising⟩⟩
  case absent => rw [applyEntries_single, applyOne, applyDelete_absent hnone]
  case removed =>
    rw [applyEntries_single, applyOne, applyDelete_removes hr ((allZero_iff _).mpr hgone.1) hgone.2]
  case retired =>
    rw [applyEntries_single, applyOne, applyDelete_retires hrising hr fun h => hkept ⟨(allZero_iff _).mp h.1, h.2⟩]
  case others =>
    rw [applyEntries_single]
    exact applyDelete_keeps hrising hx (hm ▸ hne)
  case added =>
    rw [applyEntries_single, applyOne, applyPut_new hnone]
    exact ⟨(insertItem_itemOf _ _ _).trans (if_pos rfl), rfl, insertItem_length_new ((itemOf_eq_none_iff _ _).mp hnone)⟩
  case replaced =>
    rw [applyEntries_single, applyOne, applyPut_old hold]
    refine ⟨(insertItem_itemOf _ _ _).trans (if_pos rfl), rfl, ?_⟩
    have hmem : f.plu ∈ plus items := (itemOf_some hold).2 ▸ mem_plus (itemOf_some hold).1
    rw [insertItem_replaces (r := { item := f, markdown := m, status := .live, totals := old.totals }) hrising hmem]
    exact List.length_map _
  case same =>
    rw [applyEntries_single, applyOne]
    obtain ⟨t, ht⟩ := applyPut_eq f m items
    rw [ht, insertItem_itemOf, if_neg hne.symm]
  case rising => exact (applyEntries_rising openPlu [.put f m] hrising).1

end Sys2Proof.Machine
end

section
/-! PROOFS. Operations at a port whose context is given, and the keys taken there: the normal form is a state
`s.setPort p c`, the rest of the state beside the port's own context. -/

namespace Sys2Proof.Machine

variable {s base : State} {p : CounterPort} {c : Port} {m : MsgCode}

/-! ### Operations at a port -/

section
variable (s : State) (p : CounterPort) (c : Port)

@[simp] theorem refuseKey_setPort (m : MsgCode) : refuseKey p m (s.setPort p c) =
    s.setPort p { c with held := some m, displayDue := true } := by
  unfold refuseKey holdMessage
  exact modPort_setPort ..

@[simp] theorem clearHeld_setPort : clearHeld p (s.setPort p c) =
    s.setPort p { c with held := none, displayDue := true } := modPort_setPort ..

@[simp] theorem markDisplay_setPort : markDisplay p (s.setPort p c) =
    s.setPort p { c with displayDue := true } := modPort_setPort ..

@[simp] theorem setSale_setPort (v : SaleState) (m : Option MsgCode) : setSale p v m (s.setPort p c) =
    s.setPort p { c with
      sale := v, held := if c.sale = v ∧ m = none then c.held else m, displayDue := true } := modPort_setPort ..

@[simp] theorem setService_setPort (v : ServiceState) : setService p v (s.setPort p c) =
    s.setPort p { c with service := v } := modPort_setPort ..

@[simp] theorem reprice_setPort : reprice p (s.setPort p c) = s.setPort p { c with
    snapshot := c.snapshot.map fun sn => { sn with live := some (livePrice sn c.weigh.latest) }
    displayDue := true } := modPort_setPort ..

theorem notify_setPort (b : NoticeBody) : notify b (s.setPort p c) = (notify b s).setPort p c := by
  unfold notify
  rw [apply_ite fun u : State => u.setPort p c]
  rfl

theorem leaveCalling_setPort : leaveCalling p (s.setPort p c) =
    if c.service = .asking then
      ({ s with tickets := { s.tickets with calling := s.tickets.calling.filter (· ≠ p) } } : State).setPort p
        { c with service := .free }
    else s.setPort p c := by
  unfold leaveCalling
  rw [State.port_setPort_self]
  refine if_congr .rfl ?_ rfl
  exact setService_setPort
    { s with tickets := { s.tickets with calling := s.tickets.calling.filter (· ≠ p) } } p c .free

theorem joinComposer_setPort (source : JobSource) : joinComposer ⟨p, source⟩ (s.setPort p c) =
    ({ s with composer := { s.composer with queue := s.composer.queue ++ [⟨p, source⟩] } } : State).setPort p
      { c with
        held := if c.slots.free = [] then some .printerBusy else c.held
        displayDue := if c.slots.free = [] then true else c.displayDue } := by
  obtain ⟨hfree, he⟩ | ⟨hfree, he⟩ := joinComposer_cases ⟨p, source⟩ (s.setPort p c) <;>
    rw [State.port_setPort_self] at hfree <;> rw [he]
  · simp only [hfree, if_true]
    exact refuseKey_setPort { s with composer := { s.composer with queue := s.composer.queue ++ [⟨p, source⟩] } } p c _
  · simp only [hfree, if_false]
    rfl

end

@[simp] theorem notify_quiet_iff (b : NoticeBody) (s : State) : Quiet (notify b s) ↔ Quiet s := by
  simp only [Quiet, notify_port]

@[simp] theorem State.setPort_self (s : State) (p : CounterPort) : s.setPort p (s.port p) = s := by
  refine State.ext_ports _ _ (fun q => ?_) rfl
  rw [State.port_setPort]
  split
  · next h => rw [h]
  · rfl

theorem reloadSupervision_eq (p : CounterPort) (s : State) :
    reloadSupervision p s = s.setPort p (reloadedPort s p) := rfl

/-! ### Keys (R11, R17) -/

/-- A station whose key was taken is shown: the key's owner left the port `c` but for supervision and its mark. -/
theorem keyAnswered_setPort {b : Bool} (hs : c.state = .up ∧ c.online = true ∧ c.kind = some .scale)
    (hdue : c.displayDue = false) (hq : Quiet base) {n : Nat} (hn : n = base.ret.config.supervisionReload) :
    KeyAnswered base (flush (markDisplay p (base.setPort p { c with supervision := n, displayDue := b }))) p c := by
  refine keyAnswered_of (u := base.setPort p { c with supervision := n, displayDue := b }) ?_ (fun q hne => ?_) base
    rfl (fun q hne => State.port_setPort_ne _ _ hne) ?_ rfl
  · unfold ScaleOnline
    rw [State.port_setPort_self]
    exact hs
  · rw [State.port_setPort_ne _ _ hne]
    exact hq q
  · rw [State.port_setPort_self, hn]
    rw [← hdue]

section
variable {i : Instr} {gate : Port → Option MsgCode} {own : State → State}

/-- A key that its gate passes, at a station `p` of the state `s`. -/
theorem keyEvent_passed (hs : ScaleOnline s p) (hgate : gate (reloadedPort s p) = none) :
    keyEvent p gate own s = flush (markDisplay p (own (s.setPort p (reloadedPort s p)))) := by
  obtain ⟨hup, honline, hkind⟩ := hs
  rw [keyEvent, handOn_up hup honline (by simp [scaleOnly, hkind]), reloadSupervision_eq, State.port_setPort_self,
    hgate]

theorem keyEvent_blocked (hs : ScaleOnline s p) (hgate : gate (reloadedPort s p) = some m) :
    keyEvent p gate own s = flush (markDisplay p (refuseKey p m (s.setPort p (reloadedPort s p)))) := by
  obtain ⟨hup, honline, hkind⟩ := hs
  rw [keyEvent, handOn_up hup honline (by simp [scaleOnly, hkind]), reloadSupervision_eq, State.port_setPort_self,
    hgate]

/-- A key that its owner takes, leaving `base` and the port `c`. -/
theorem key_taken {b : Bool} (hexec : exec i s = .next (keyEvent p gate own s)) (hs : ScaleOnline s p)
    (hgate : gate (reloadedPort s p) = none) (hq : Quiet base) (hconfig : base.ret.config = s.ret.config)
    (hport : c.state = (s.port p).state ∧ c.online = (s.port p).online ∧ c.kind = (s.port p).kind ∧
      c.displayDue = (s.port p).displayDue) (hqs : (s.port p).displayDue = false)
    (hown : own (s.setPort p (reloadedPort s p)) =
      base.setPort p { c with supervision := s.ret.config.supervisionReload, displayDue := b }) :
    ∃ t, exec i s = .next t ∧ KeyAnswered base t p c := by
  obtain ⟨hstate, honline, hkind, hdue⟩ := hport
  refine ⟨_, hexec, ?_⟩
  rw [keyEvent_passed hs hgate, hown]
  exact keyAnswered_setPort ⟨hstate.trans hs.1, honline.trans hs.2.1, hkind.trans hs.2.2⟩ (hdue.trans hqs) hq
    (by rw [hconfig])

/-- A key that its owner refuses. -/
theorem key_refused (hexec : exec i s = .next (keyEvent p gate own s)) (hs : ScaleOnline s p) (hq : Quiet s)
    (hgate : gate (reloadedPort s p) = none)
    (hown : own (s.setPort p (reloadedPort s p)) = refuseKey p m (s.setPort p (reloadedPort s p))) :
    ∃ t, exec i s = .next t ∧ KeyAnswered s t p { s.port p with held := some m } :=
  key_taken hexec hs hgate hq rfl ⟨rfl, rfl, rfl, rfl⟩ (hq p) (hown.trans (refuseKey_setPort ..))

/-- A key that the gate refuses. -/
theorem key_blocked (hexec : exec i s = .next (keyEvent p gate own s)) (hs : ScaleOnline s p) (hq : Quiet s)
    (hgate : gate (reloadedPort s p) = some m) :
    ∃ t, exec i s = .next t ∧ KeyAnswered s t p { s.port p with held := some m } := by
  refine ⟨_, hexec, ?_⟩
  rw [keyEvent_blocked hs hgate, refuseKey_setPort]
  exact keyAnswered_setPort (c := { s.port p with held := some m }) hs (hq p) hq rfl

/-- A service key of a station in ITEM is BUSY. -/
theorem key_busy (hexec : exec i s = .next (keyEvent p salesGate (idleOnly p own) s)) (hs : ScaleOnline s p)
    (hq : Quiet s) (hitem : (s.port p).sale = .item) :
    ∃ t, exec i s = .next t ∧ KeyAnswered s t p { s.port p with held := some .busy } := by
  refine key_refused hexec hs hq (salesGate_item hitem) ?_
  rw [idleOnly, State.port_setPort_self, if_pos (show (reloadedPort s p).sale = .item from hitem)]

/-- A key of a station in IDLE that its owner takes. -/
theorem idleKey_taken {b : Bool} (hexec : exec i s = .next (keyEvent p salesGate (idleOnly p own) s))
    (hready : KeyReady s p) (hq : Quiet base) (hconfig : base.ret.config = s.ret.config)
    (hport : c.state = (s.port p).state ∧ c.online = (s.port p).online ∧ c.kind = (s.port p).kind ∧
      c.displayDue = (s.port p).displayDue)
    (hown : own (s.setPort p (reloadedPort s p)) =
      base.setPort p { c with supervision := s.ret.config.supervisionReload, displayDue := b }) :
    ∃ t, exec i s = .next t ∧ KeyAnswered base t p c := by
  obtain ⟨hqs, hs, hidle⟩ := hready
  refine key_taken (b := b) hexec hs (salesGate_idle hidle) hq hconfig hport (hqs p) ?_
  rw [idleOnly, State.port_setPort_self, if_neg (by simp [reloadedPort, hidle])]
  exact hown

theorem idleKey_refused (hexec : exec i s = .next (keyEvent p salesGate (idleOnly p own) s)) (hready : KeyReady s p)
    (hown : own (s.setPort p (reloadedPort s p)) = refuseKey p m (s.setPort p (reloadedPort s p))) :
    ∃ t, exec i s = .next t ∧ KeyAnswered s t p { s.port p with held := some m } :=
  idleKey_taken hexec hready hready.1 rfl ⟨rfl, rfl, rfl, rfl⟩ (hown.trans (refuseKey_setPort ..))

end

end Sys2Proof.Machine
end

section
/-! PROOFS. The service keys: NEXT, CANCEL_NEXT, SERVE, RECALL, SKIP and RECALL_SKIPPED (chapter 7). -/

namespace Sys2Proof.Machine

variable {s base : State} {p : CounterPort} {c : Port} {m : MsgCode} {k : TicketNo}

/-! ### Refusals by the service state (R131) -/

theorem closedDayFirst_closing {n : Nat} {b : Bool} (h : s.dayState = .closing n b) (r : Option MsgCode) :
    closedDayFirst r s = some .dayClosing := by
  rw [closedDayFirst, h]
  rfl

theorem closedDayFirst_trading (h : s.dayState = .trading) (r : Option MsgCode) : closedDayFirst r s = r := by
  rw [closedDayFirst, h]
  rfl

theorem nextRefusal_eq {v : ServiceState} (h : v = .asking ∧ m = .alreadyWaiting ∨ v = .called ∧ m = .ticketCalled ∨
    v = .serving ∧ m = .orderOpen) : nextRefusal v = some m := by
  obtain ⟨rfl, rfl⟩ | ⟨rfl, rfl⟩ | ⟨rfl, rfl⟩ := h <;> rfl

theorem calledRefusal_eq {v : ServiceState} (h : (v = .free ∨ v = .asking) ∧ m = .noTicket ∨
    v = .serving ∧ m = .orderOpen) : calledRefusal v = some m := by
  obtain ⟨rfl | rfl, rfl⟩ | ⟨rfl, rfl⟩ := h <;> rfl

/-- What the owner of a service key refuses at a station in IDLE. -/
theorem serviceKey_refused {i : Instr} {refusal : State → Option MsgCode} {own : State → State}
    (hexec : exec i s = .next (keyEvent p salesGate (idleOnly p fun u => serviceKey p (refusal u) own u) s))
    (hready : KeyReady s p) (h : refusal (s.setPort p (reloadedPort s p)) = some m) :
    ∃ t, exec i s = .next t ∧ KeyAnswered s t p { s.port p with held := some m } := by
  refine idleKey_refused hexec hready ?_
  show serviceKey p (refusal _) own _ = _
  rw [h]
  rfl

theorem cancelNext_refused (hready : KeyReady s p) (h : (s.port p).service ≠ .asking) :
    ∃ t, exec (.cancelNext p) s = .next t ∧ KeyAnswered s t p { s.port p with held := some .notWaiting } := by
  refine idleKey_refused (own := cancelNextOp p) rfl hready ?_
  rw [cancelNextOp, State.port_setPort_self]
  exact if_neg h

/-! ### NEXT without a ticket, and CANCEL_NEXT (R132, R141) -/

theorem askNext_none (h : s.tickets.waiting = []) : askNext p (s.setPort p c) =
    ({ s with tickets := { s.tickets with calling := s.tickets.calling ++ [p] } } : State).setPort p
      { c with service := .asking } := by
  rw [askNext, show (s.setPort p c).tickets.waiting = [] from h]
  exact setService_setPort { s with tickets := { s.tickets with calling := s.tickets.calling ++ [p] } } p c .asking

theorem nextOp_free (hservice : c.service = .free) (hday : s.dayState = .trading) :
    nextOp p (s.setPort p c) = askNext p (clearHeld p (s.setPort p c)) := by
  rw [nextOp, closedDayFirst_trading (s := s.setPort p c) hday, State.port_setPort_self, hservice]
  rfl

/-- Settles O54: the service state, and ahead of it a CLOSING day, decide what a service key does. -/
theorem askingStationsJoinAndLeave : Obligations.AskingStationsJoinAndLeave := by
  refine ⟨fun s p i hq hs hitem hi => ?busy, fun s p hready => ⟨fun hfree hday hnone => ?joins, fun hasking => ?leaves,
    fun i m h => ?refused⟩⟩
  case busy =>
    obtain hi | ⟨n, rfl⟩ := hi
    · simp only [List.mem_cons, List.not_mem_nil, or_false] at hi
      obtain rfl | rfl | rfl | rfl | rfl := hi <;> exact key_busy rfl hs hq hitem
    · exact key_busy rfl hs hq hitem
  case joins =>
    refine idleKey_taken (b := true) (own := nextOp p) rfl hready (base := { s with tickets := _ }) hready.1 rfl
      ⟨rfl, rfl, rfl, rfl⟩ ?_
    rw [nextOp_free (c := reloadedPort s p) hfree hday, clearHeld_setPort, askNext_none hnone]
    rfl
  case leaves =>
    refine idleKey_taken (b := true) (own := cancelNextOp p) rfl hready (base := { s with tickets := _ }) hready.1 rfl
      ⟨rfl, rfl, rfl, rfl⟩ ?_
    have hself : ((s.setPort p (reloadedPort s p)).port p).service = .asking := by
      rw [State.port_setPort_self]; exact hasking
    rw [cancelNextOp, if_pos hself, clearHeld_setPort, leaveCalling_setPort, if_pos (by exact hasking)]
    rfl
  case refused =>
    have hself : ((s.setPort p (reloadedPort s p)).port p).service = (s.port p).service := by
      rw [State.port_setPort_self]; rfl
    obtain ⟨⟨n, b, hday⟩, rfl | rfl | ⟨n, rfl⟩, rfl⟩ | ⟨hnot, rfl, rfl⟩ | ⟨hday, rfl | ⟨n, rfl⟩, h⟩ | ⟨hday, hi, h⟩ := h
    · exact serviceKey_refused (own := fun s => askNext p (clearHeld p s)) rfl hready
        (closedDayFirst_closing (s := s.setPort p (reloadedPort s p)) hday _)
    · exact serviceKey_refused (own := withCalled p (serveTicket p)) rfl hready
        (closedDayFirst_closing (s := s.setPort p (reloadedPort s p)) hday _)
    · exact serviceKey_refused (own := recallSkipped p n) rfl hready
        (closedDayFirst_closing (s := s.setPort p (reloadedPort s p)) hday _)
    · exact cancelNext_refused hready hnot
    · refine serviceKey_refused (own := fun s => askNext p (clearHeld p s)) rfl hready
        ((closedDayFirst_trading (s := s.setPort p (reloadedPort s p)) hday _).trans ?_)
      exact nextRefusal_eq (hself ▸ h)
    · refine serviceKey_refused (own := recallSkipped p n) rfl hready
        ((closedDayFirst_trading (s := s.setPort p (reloadedPort s p)) hday _).trans ?_)
      exact nextRefusal_eq (hself ▸ h)
    · have hcalled := calledRefusal_eq (hself ▸ h)
      simp only [List.mem_cons, List.not_mem_nil, or_false] at hi
      obtain rfl | rfl | rfl := hi
      · exact serviceKey_refused (own := withCalled p (serveTicket p)) rfl hready
          ((closedDayFirst_trading (s := s.setPort p (reloadedPort s p)) hday _).trans hcalled)
      · exact serviceKey_refused (refusal := fun u => calledRefusal (u.port p).service)
          (own := withCalled p (recallTicket p)) rfl hready hcalled
      · exact serviceKey_refused (refusal := fun u => calledRefusal (u.port p).service)
          (own := withCalled p fun t s => s |> clearHeld p |> skipTicket t p) rfl hready hcalled

end Sys2Proof.Machine
end

section
/-! PROOFS. Calls of a ticket: what a call leaves at the ports, and the keys NEXT, RECALL and RECALL_SKIPPED that
make one (R132 to R137, R140). -/

namespace Sys2Proof.Machine

variable {s base : State} {p q : CounterPort} {c : Port} {m : MsgCode} {k : TicketNo} {n : Nat}

/-! ### NOW_SERVING (R134) -/

theorem reachable_iff (c : Port) : reachable c = true ↔ c.state = .up ∧ c.online = true := by
  simp [reachable]

theorem showsCallsOf_iff (cfg : ConfigRecord) (p : CounterPort) (c : Port) : showsCallsOf cfg p c = true ↔
    c.kind = some .callDisplay ∧ ∃ m, c.mask = some m ∧ cfg.masks[m][p] = true := by
  simp [showsCallsOf, Option.any_eq_true]

theorem showCall_port_self (hup : (s.port p).state = .up) (honline : (s.port p).online = true) :
    (showCall k p n s).port p = { s.port p with tx := (s.port p).tx ++ [.nowServing p k n] } := by
  have hreach := (reachable_iff (s.port p)).mpr ⟨hup, honline⟩
  have hcond : (reachable (s.port p) && (p == p || showsCallsOf s.ret.config p (s.port p))) = true := by
    rw [hreach, beq_self_eq_true]
    rfl
  exact (Vector.getElem_ofFn p.isLt).trans (if_pos hcond)

theorem showCall_port_ne (hne : q ≠ p) : (showCall k p n s).port q =
    if (s.port q).state = .up ∧ (s.port q).online = true ∧ (s.port q).kind = some .callDisplay ∧
        (∃ m, (s.port q).mask = some m ∧ s.ret.config.masks[m][p] = true) then
      { s.port q with tx := (s.port q).tx ++ [.nowServing p k n] }
    else s.port q := by
  have hcond : (reachable (s.port q) && (q == p || showsCallsOf s.ret.config p (s.port q))) = true ↔
      (s.port q).state = .up ∧ (s.port q).online = true ∧ (s.port q).kind = some .callDisplay ∧
        (∃ m, (s.port q).mask = some m ∧ s.ret.config.masks[m][p] = true) := by
    rw [Bool.and_eq_true, Bool.or_eq_true, reachable_iff, showsCallsOf_iff, beq_iff_eq, or_iff_right hne, and_assoc]
  rw [← if_congr hcond rfl rfl]
  exact (Vector.getElem_ofFn q.isLt)

theorem callTicket_port (cause : CallCause) (q : CounterPort) :
    (callTicket k p n cause s).port q = (showCall k p n (setService p .called s)).port q := by
  rw [callTicket, notify_port]
  rfl

/-! ### A key that calls a ticket -/

/-- Ticket `k` recorded as called to station `p`. -/
def recordCall (k : TicketNo) (p : CounterPort) (n : Nat) (s : State) : State :=
  setTicket k { s.ticket k with state := .called p s.ret.config.callTimeout, count := n } s

/-- The state a call of ticket `k` to station `p` leaves, but for the station and the frames shown. -/
def calledState (k : TicketNo) (p : CounterPort) (n : Nat) (cause : CallCause) (s : State) : State :=
  notify (.ticketCalled k p n cause) (recordCall k p n s)

theorem notify_withPorts (b : NoticeBody) (s : State) (v : Vector Port 14) :
    notify b { s with ports := v } = { notify b s with ports := v } := by
  unfold notify
  rw [apply_ite (fun u : State => ({ u with ports := v } : State))]

theorem callTicket_calledState (cause : CallCause) : callTicket k p n cause s =
    { calledState k p n cause s with ports := (callTicket k p n cause s).ports } := by
  conv_lhs => rw [callTicket_eq]
  exact notify_withPorts _ (recordCall k p n s) _

/-- The end of a key that called a ticket to its station. -/
theorem callTicket_answered {b : Bool} {cause : CallCause}
    (hs : c.state = .up ∧ c.online = true ∧ c.kind = some .scale) (hdue : c.displayDue = false) (hq : Quiet base) :
    CallAnswered (calledState k p n cause base) (flush (markDisplay p (callTicket k p n cause (base.setPort p
      { c with supervision := base.ret.config.supervisionReload, displayDue := b })))) p c k n := by
  generalize hu : base.setPort p { c with supervision := base.ret.config.supervisionReload, displayDue := b } = u
  have hret : u.ret = base.ret := by rw [← hu]; rfl
  have hself : u.port p = { c with supervision := base.ret.config.supervisionReload, displayDue := b } := by
    rw [← hu, State.port_setPort_self]
  have hother : ∀ q, q ≠ p → u.port q = base.port q := fun q hne => by rw [← hu, State.port_setPort_ne _ _ hne]
  have hbase : { u with ports := base.ports } = base := by rw [← hu]; rfl
  have hport : (callTicket k p n cause u).port p = { c with
      service := .called, supervision := base.ret.config.supervisionReload, displayDue := b
      tx := c.tx ++ [.nowServing p k n] } := by
    have hset : (setService p .called u).port p = { c with
        service := .called, supervision := base.ret.config.supervisionReload, displayDue := b } := by
      rw [setService, modPort_port_self, hself]
    rw [callTicket_port, showCall_port_self (by rw [hset]; exact hs.1) (by rw [hset]; exact hs.2.1), hset]
  have hne : ∀ q, q ≠ p → (callTicket k p n cause u).port q =
      if (base.port q).state = .up ∧ (base.port q).online = true ∧ (base.port q).kind = some .callDisplay ∧
          (∃ m, (base.port q).mask = some m ∧ base.ret.config.masks[m][p] = true) then
        { base.port q with tx := (base.port q).tx ++ [.nowServing p k n] }
      else base.port q := by
    intro q h
    have hset : (setService p .called u).port q = base.port q := by
      rw [setService, modPort_port_ne _ _ h, hother q h]
    rw [callTicket_port, showCall_port_ne h, hset]
    simp only [setService_ret, hret]
  obtain ⟨⟨hrest, hports⟩, hp⟩ := flush_markDisplay (s := callTicket k p n cause u) (p := p)
    (by unfold ScaleOnline; rw [hport]; exact hs) (fun q h => by
      rw [hne q h]; split <;> exact hq q)
  have hcalled : calledState k p n cause u = { calledState k p n cause base with ports := u.ports } := by
    rw [← hu]
    exact notify_withPorts _ (recordCall k p n base) _
  refine ⟨?_, fun q h => ⟨fun hshow => ?_, fun hshow => ?_⟩, ?_⟩
  · rw [hrest, callTicket_calledState, hcalled]
  · rw [hports q h, hne q h]
    simp only [calledState, recordCall, setTicket, State.port, notify_ports, notify_ret] at hshow ⊢
    exact if_pos hshow
  · rw [hports q h, hne q h]
    simp only [calledState, recordCall, setTicket, State.port, notify_ports, notify_ret] at hshow ⊢
    exact if_neg hshow
  · rw [hp, hport]
    simp only [calledState, recordCall, setTicket_ret, notify_ret, List.append_assoc, List.singleton_append]
    rw [← hdue]

/-- A key of a station in IDLE that calls a ticket there. -/
theorem idleKey_calls {i : Instr} {own : State → State} {b : Bool} {cause : CallCause}
    (hexec : exec i s = .next (keyEvent p salesGate (idleOnly p own) s)) (hready : KeyReady s p) (hq : Quiet base)
    (hret : base.ret = s.ret)
    (hown : own (s.setPort p (reloadedPort s p)) = callTicket k p n cause (base.setPort p
      { s.port p with held := none, supervision := s.ret.config.supervisionReload, displayDue := b })) :
    ∃ t, exec i s = .next t ∧ CallAnswered (calledState k p n cause base) t p { s.port p with held := none } k n := by
  obtain ⟨hqs, hs, hidle⟩ := hready
  refine ⟨_, hexec, ?_⟩
  rw [keyEvent_passed hs (salesGate_idle hidle), idleOnly, State.port_setPort_self,
    if_neg (by simp [reloadedPort, hidle]), hown, ← hret]
  exact callTicket_answered (c := { s.port p with held := none }) hs (hqs p) hq

/-! ### The ticket called to a station -/

theorem calledTicket_eq {l : Nat} (h : (s.ticket k).state = .called p l)
    (honly : ∀ j n, (s.ticket j).state = .called p n → j = k) : calledTicket s p = some k := by
  cases hfind : calledTicket s p with
  | none => exact absurd h (calledTicket_none hfind k l)
  | some j =>
    obtain ⟨n, hj⟩ := calledTicket_some hfind
    rw [honly j n hj]

theorem withCalled_eq {l : Nat} (h : (s.ticket k).state = .called p l)
    (honly : ∀ j n, (s.ticket j).state = .called p n → j = k) (f : TicketNo → State → State) (c : Port) :
    withCalled p f (s.setPort p c) = f k (s.setPort p c) := by
  rw [withCalled, calledTicket_eq (s := s.setPort p c) h honly]

@[simp] theorem State.ticket_setPort (s : State) (p : CounterPort) (c : Port) (k : TicketNo) :
    (s.setPort p c).ticket k = s.ticket k := rfl

theorem nextRefusal_free (hservice : c.service = .free) : nextRefusal c.service = none := by
  rw [hservice]
  rfl

theorem calledRefusal_called (hservice : c.service = .called) : calledRefusal c.service = none := by
  rw [hservice]
  rfl

/-- A service key that its table does not refuse. -/
theorem serviceKey_taken {r : Option MsgCode} (h : r = none) (own : State → State) :
    serviceKey p r own s = own s := by
  rw [h]
  rfl

theorem askNext_some {rest : List TicketNo} (h : s.tickets.waiting = k :: rest) : askNext p s =
    callTicket k p (raisedCount (s.ticket k)) .next { s with tickets := { s.tickets with waiting := rest } } := by
  rw [askNext, h]

/-! ### RECALL_SKIPPED (R140) -/

theorem ticketOfNumber_val (k : TicketNo) : ticketOfNumber k.val = some k := dif_pos k.isLt

theorem recallSkipped_listed (h : k ∈ s.tickets.skipped) : recallSkipped p k.val s =
    callTicket k p 1 .skipped (clearHeld p
      { s with tickets := { s.tickets with skipped := s.tickets.skipped.filter (· ≠ k) } }) := by
  rw [recallSkipped, ticketOfNumber_val]
  exact if_pos (List.contains_iff_mem.mpr h)

theorem recallSkipped_unlisted (h : ∀ j ∈ s.tickets.skipped, j.val ≠ n) :
    recallSkipped p n s = refuseKey p .notSkipped s := by
  unfold recallSkipped ticketOfNumber
  split
  · rfl
  · next j hj =>
    obtain ⟨hlt, hj⟩ := Option.dite_none_right_eq_some.mp hj
    refine if_neg fun hc => h j (List.contains_iff_mem.mp hc) ?_
    rw [← Option.some.inj hj]

/-- Settles O55: the three keys that call a ticket, and their two refusals. -/
theorem callsShowTicket : Obligations.CallsShowTicket := by
  intro s p hready called
  refine ⟨fun hfree hday => ⟨fun k rest hwaiting => ?next, fun k hlisted => ?skipped, fun n hunlisted => ?unlisted⟩,
    fun k l hservice hcalled honly => ⟨fun hlow => ?again, fun hhigh => ?limit⟩⟩
  case next =>
    refine idleKey_calls (own := nextOp p) (b := true) (base := { s with tickets := { s.tickets with waiting := rest } })
      rfl hready hready.1 rfl ?_
    rw [nextOp_free (c := reloadedPort s p) hfree hday, clearHeld_setPort, askNext_some (s := s.setPort p _) hwaiting]
    rfl
  case skipped =>
    refine idleKey_calls (own := recallSkippedOp p k.val) (b := true) (base := { s with
      tickets := { s.tickets with skipped := s.tickets.skipped.filter (· ≠ k) } }) rfl hready hready.1 rfl ?_
    rw [recallSkippedOp, closedDayFirst_trading (s := s.setPort p (reloadedPort s p)) hday, State.port_setPort_self,
      serviceKey_taken (nextRefusal_free (c := reloadedPort s p) hfree),
      recallSkipped_listed (s := s.setPort p (reloadedPort s p)) hlisted]
    exact congrArg (callTicket k p 1 .skipped) (clearHeld_setPort { s with
      tickets := { s.tickets with skipped := s.tickets.skipped.filter (· ≠ k) } } p (reloadedPort s p))
  case unlisted =>
    refine idleKey_refused (own := recallSkippedOp p n) rfl hready ?_
    rw [recallSkippedOp, closedDayFirst_trading (s := s.setPort p (reloadedPort s p)) hday, State.port_setPort_self,
      serviceKey_taken (nextRefusal_free (c := reloadedPort s p) hfree)]
    exact recallSkipped_unlisted hunlisted
  case again =>
    refine idleKey_calls (own := recallOp p) (b := true) (base := s) rfl hready hready.1 rfl ?_
    rw [recallOp, State.port_setPort_self, serviceKey_taken (calledRefusal_called (c := reloadedPort s p) hservice),
      withCalled_eq hcalled honly, recallTicket, State.ticket_setPort, if_neg (c := Config.maxCalls ≤ (s.ticket k).count) (Nat.not_le.mpr hlow),
      clearHeld_setPort]
    rfl
  case limit =>
    refine idleKey_refused (own := recallOp p) rfl hready ?_
    rw [recallOp, State.port_setPort_self, serviceKey_taken (calledRefusal_called (c := reloadedPort s p) hservice),
      withCalled_eq hcalled honly]
    exact if_pos hhigh

end Sys2Proof.Machine
end

section
/-! PROOFS. SERVE, SKIP and CALL_TIMEOUT: the called ticket goes in service or on the skipped list (R136, R138,
R139). -/

namespace Sys2Proof.Machine

variable {s base : State} {p q : CounterPort} {c : Port} {m : MsgCode} {k : TicketNo} {n : Nat}

/-! ### SERVE (R136, R147, R149) -/

theorem freeOrderNumber_self {orders : List Order} (h : ∀ o ∈ orders, o.number ≠ n) (steps : Nat) :
    freeOrderNumber orders steps n = n := by
  cases steps with
  | zero => rfl
  | succ j =>
    have hnone : ¬ (orderOf orders n).isSome = true := by
      simpa [orderOf_isSome] using h
    rw [freeOrderNumber, if_neg hnone]

theorem serveTicket_full (h : 32 ≤ s.orders.length) : serveTicket p k s = refuseKey p .ordersFull s := if_pos h

/-- A SERVE with room, while no live order holds the next number. -/
theorem serveTicket_opens {before after : List Order} (hroom : before.length + after.length < 32)
    (horders : s.orders = before ++ after) (hbefore : ∀ o ∈ before, o.number ≤ s.ret.day.nextOrder)
    (hafter : ∀ o, after.head? = some o → s.ret.day.nextOrder < o.number)
    (hfree : ∀ o ∈ s.orders, o.number ≠ s.ret.day.nextOrder) (c : Port) :
    let ret := countGrand { ticketsServed := 1, waitSeconds := (s.ticket k).age, largestWait := (s.ticket k).age } s.ret
    serveTicket p k (s.setPort p c) = ({ s with
      ret := { ret with day := { ret.day with nextOrder := orderNumberAfter s.ret.day.nextOrder } }
      tickets := { s.tickets with recs := s.tickets.recs.set k { s.ticket k with state := .inService } }
      orders := before ++ newOrder p k s.ret.day.nextOrder :: after } : State).setPort p
        { c with held := none, service := .serving, displayDue := true } := by
  intro ret
  have hfits : ¬ Config.maxOrders ≤ (s.setPort p c).orders.length := by
    simp only [State.setPort_orders, horders, List.length_append, Config.maxOrders]
    omega
  have hnumber : freeOrderNumber s.orders Config.maxOrders s.ret.day.nextOrder = s.ret.day.nextOrder :=
    freeOrderNumber_self hfree _
  have hinsert : insertOrder (newOrder p k s.ret.day.nextOrder) s.orders =
      before ++ newOrder p k s.ret.day.nextOrder :: after := by
    rw [horders]
    exact insertOrder_split (newOrder p k s.ret.day.nextOrder) before after hbefore hafter
  have hopened : serveTicket p k (s.setPort p c) = setService p .serving (({ s with
      ret := { ret with day := { ret.day with
        nextOrder := orderNumberAfter (freeOrderNumber s.orders Config.maxOrders s.ret.day.nextOrder) } }
      tickets := { s.tickets with recs := s.tickets.recs.set k { s.ticket k with state := .inService } }
      orders := insertOrder (newOrder p k (freeOrderNumber s.orders Config.maxOrders s.ret.day.nextOrder)) s.orders
        } : State).setPort p { c with held := none, displayDue := true }) := by
    rw [serveTicket, if_neg hfits, clearHeld_setPort]
    rfl
  rw [hopened, hnumber, hinsert, setService_setPort]

/-- SERVE at a CALLED station of a TRADING day reaches the ticket called there. -/
theorem serveOp_called {l : Nat} (hday : s.dayState = .trading) (hservice : c.service = .called)
    (hcalled : (s.ticket k).state = .called p l) (honly : ∀ j n, (s.ticket j).state = .called p n → j = k) :
    serveOp p (s.setPort p c) = serveTicket p k (s.setPort p c) := by
  rw [serveOp, closedDayFirst_trading (s := s.setPort p c) hday, State.port_setPort_self,
    serviceKey_taken (calledRefusal_called hservice), withCalled_eq hcalled honly]

/-- Settles O56: SERVE with room, and with 32 live orders. -/
theorem serveOpensOrder : Obligations.ServeOpensOrder := by
  intro s p k l hready hday hservice hcalled honly
  have hserve : serveOp p (s.setPort p (reloadedPort s p)) = serveTicket p k (s.setPort p (reloadedPort s p)) :=
    serveOp_called (c := reloadedPort s p) hday hservice hcalled honly
  refine ⟨fun before after hroom horders hbefore hafter hfree => ?opens, fun hfull => ?full⟩
  case opens =>
    refine idleKey_taken (own := serveOp p) (b := true) rfl hready (base := { s with ret := _, tickets := _, orders := _ })
      hready.1 rfl ⟨rfl, rfl, rfl, rfl⟩ ?_
    rw [hserve, serveTicket_opens hroom horders hbefore hafter hfree]
    rfl
  case full => exact idleKey_refused (own := serveOp p) rfl hready (hserve.trans (serveTicket_full hfull))

/-! ### SKIP and CALL_TIMEOUT (R138, R139) -/

/-- What the skipped list holds ahead of the ticket that joins it, and the totals and numbers a list of eight
that gives up its oldest leaves. -/
inductive SkipRoom (s : State) : List TicketNo → Retained → Vector TicketRec 100 → Prop
  | room (h : s.tickets.skipped.length < 8) : SkipRoom s s.tickets.skipped s.ret s.tickets.recs
  | full {o : TicketNo} {rest : List TicketNo} (h : s.tickets.skipped = o :: rest) (hlength : 7 ≤ rest.length) :
    SkipRoom s rest (countGrand { ticketsDiscarded := 1 } s.ret) (s.tickets.recs.set o TicketRec.fresh)

/-- Ticket `k` at the tail of the skipped list `l`. -/
def skippedTo (s : State) (k : TicketNo) (l : List TicketNo) (ret : Retained) (recs : Vector TicketRec 100) : State :=
  { s with
    ret := countGrand { ticketsSkipped := 1 } ret
    tickets := { s.tickets with skipped := l ++ [k], recs := recs.set k { s.ticket k with state := .skipped } } }

theorem skipTicket_setPort {l : List TicketNo} {ret : Retained} {recs : Vector TicketRec 100}
    (h : SkipRoom s l ret recs) (c : Port) :
    skipTicket k p (s.setPort p c) = (skippedTo s k l ret recs).setPort p { c with service := .free } := by
  cases h with
  | room h =>
    rw [skipTicket_room (s := s.setPort p c) h, setService_setPort]
    rfl
  | full h hlength =>
    rw [skipTicket_full (s := s.setPort p c) h (by
      rw [State.setPort_tickets, h, List.length_cons, Config.maxSkipped]
      omega), setService_setPort]
    rfl

theorem callTimeout_expired (h : (s.ticket k).state = .called p n) (hexpired : n ≤ 1) :
    exec (.callTimeout k) s = .next (skipTicket k p s) := by
  show execCallTimeout k s = _
  rw [execCallTimeout, h]
  exact if_pos hexpired

theorem callTimeout_running (h : (s.ticket k).state = .called p n) (hleft : 2 ≤ n) :
    exec (.callTimeout k) s = .next s := by
  show execCallTimeout k s = _
  rw [execCallTimeout, h]
  exact if_neg (by omega)

/-- SKIP by key. -/
theorem skip_answered {l : List TicketNo} {ret : Retained} {recs : Vector TicketRec 100} (hroom : SkipRoom s l ret recs)
    (hconfig : ret.config = s.ret.config) (hready : KeyReady s p) (hservice : (s.port p).service = .called)
    (hcalled : (s.ticket k).state = .called p n) (honly : ∀ j n, (s.ticket j).state = .called p n → j = k) :
    ∃ t, exec (.skip p) s = .next t ∧
      KeyAnswered (skippedTo s k l ret recs) t p { s.port p with service := .free, held := none } := by
  refine idleKey_taken (own := skipOp p) (b := true) rfl hready hready.1 hconfig ⟨rfl, rfl, rfl, rfl⟩ ?_
  rw [skipOp, State.port_setPort_self, serviceKey_taken (calledRefusal_called (c := reloadedPort s p) hservice),
    withCalled_eq hcalled honly, clearHeld_setPort, skipTicket_setPort hroom]
  rfl

theorem callTimeout_skips {l : List TicketNo} {ret : Retained} {recs : Vector TicketRec 100}
    (hroom : SkipRoom s l ret recs) (hcalled : (s.ticket k).state = .called p n) (hexpired : n ≤ 1) :
    exec (.callTimeout k) s =
      .next ((skippedTo s k l ret recs).setPort p { s.port p with service := .free }) := by
  rw [callTimeout_expired hcalled hexpired, ← skipTicket_setPort hroom, State.setPort_self]

/-- Settles O57: both ways of skipping end in `skipTicket`, with room on the list and without. -/
theorem skipMovesTicketToSkippedList : Obligations.SkipMovesTicketToSkippedList := by
  intro s p k l hcalled _ _ _
  refine ⟨fun hroom => ⟨fun hready hservice honly => ?_, fun hexpired => ?_⟩,
    fun o rest hlist hlength => ⟨fun hready hservice honly => ?_, fun hexpired => ?_⟩,
    fun hleft => callTimeout_running hcalled hleft⟩
  · exact skip_answered (.room hroom) rfl hready hservice hcalled honly
  · exact callTimeout_skips (.room hroom) hcalled hexpired
  · exact skip_answered (.full hlist hlength) rfl hready hservice hcalled honly
  · exact callTimeout_skips (.full hlist hlength) hcalled hexpired

end Sys2Proof.Machine
end

section
/-! PROOFS. TAKE_REQUEST: a ticket issued, waiting or called to the station that asks (R128, R129). -/

namespace Sys2Proof.Machine

variable {s base : State} {p q : CounterPort} {c : Port} {m : MsgCode} {k : TicketNo} {n : Nat}

/-! ### TAKE_REQUEST (R129) -/

theorem deliver_setPort_reachable (s : State) (p : CounterPort) {c : Port} (f : OutFrame)
    (hup : c.state = .up) (honline : c.online = true) :
    deliver p f (s.setPort p c) = s.setPort p { c with tx := c.tx ++ [f] } := by
  rw [deliver, modPort_setPort, if_pos ((reachable_iff c).mpr ⟨hup, honline⟩)]

/-- The dispenser's port after an answer, with supervision reloaded. -/
def answeredPort (s : State) (p : CounterPort) (a : TakeAnswer) : Port :=
  { s.port p with supervision := s.ret.config.supervisionReload, tx := (s.port p).tx ++ [.takeAnswer a] }

/-- A new ticket `k` with its state and count, the queue and the list it leaves. -/
def issuedState (s : State) (k : TicketNo) (st : TicketState) (n : Nat) (waiting : List TicketNo)
    (calling : List CounterPort) : State :=
  { s with
    ret := countGrand { ticketsIssued := 1 } s.ret
    tickets := { s.tickets with
      next := k + 1, waiting := waiting, calling := calling
      recs := s.tickets.recs.set k { state := st, count := n, age := 0 } } }

theorem placeTicket_waits (h : s.tickets.calling = []) : placeTicket k s =
    { s with tickets := { s.tickets with waiting := s.tickets.waiting ++ [k] } } := by
  rw [placeTicket, h]

theorem placeTicket_calls {rest : List CounterPort} (h : s.tickets.calling = q :: rest) : placeTicket k s =
    callTicket k q (raisedCount (s.ticket k)) .take { s with tickets := { s.tickets with calling := rest } } := by
  rw [placeTicket, h]

/-! ### The ports after a call -/

theorem showCall_port_unreachable (h : ¬ ((s.port p).state = .up ∧ (s.port p).online = true)) :
    (showCall k p n s).port p = s.port p := by
  have hcond : ¬ (reachable (s.port p) && (p == p || showsCallsOf s.ret.config p (s.port p))) = true := by
    rw [Bool.and_eq_true, reachable_iff]
    exact fun hc => h hc.1
  exact (Vector.getElem_ofFn p.isLt).trans (if_neg hcond)

theorem callTicket_port_self (cause : CallCause) : (callTicket k p n cause s).port p = { s.port p with
    service := .called
    tx := if (s.port p).state = .up ∧ (s.port p).online = true then (s.port p).tx ++ [.nowServing p k n]
      else (s.port p).tx } := by
  have hset : (setService p .called s).port p = { s.port p with service := .called } := modPort_port_self ..
  rw [callTicket_port]
  split
  · next h => rw [showCall_port_self (by rw [hset]; exact h.1) (by rw [hset]; exact h.2), hset]
  · next h => rw [showCall_port_unreachable (by rw [hset]; exact h), hset]

theorem callTicket_port_ne (hne : q ≠ p) (cause : CallCause) : (callTicket k p n cause s).port q =
    if (s.port q).state = .up ∧ (s.port q).online = true ∧ (s.port q).kind = some .callDisplay ∧
        (∃ m, (s.port q).mask = some m ∧ s.ret.config.masks[m][p] = true) then
      { s.port q with tx := (s.port q).tx ++ [.nowServing p k n] }
    else s.port q := by
  rw [callTicket_port, showCall_port_ne hne, setService, modPort_port_ne _ _ hne]
  rfl

theorem callTicket_quiet (hq : Quiet s) (cause : CallCause) : Quiet (callTicket k p n cause s) := by
  intro q
  by_cases hne : q = p
  · rw [hne, callTicket_port_self]
    exact hq p
  · rw [callTicket_port_ne hne]
    split <;> exact hq q

section
variable (hup : (s.port p).state = .up) (honline : (s.port p).online = true)
  (hkind : (s.port p).kind = some .dispenser)
include hup honline hkind

theorem exec_takeRequest : exec (.takeRequest p) s =
    .next (flush (takeRequestOp p (s.setPort p (reloadedPort s p)))) := by
  show execTakeRequest p s = _
  rw [execTakeRequest, handOn_up hup honline (by simp [dispenserOnly, hkind]), reloadSupervision_eq]

omit hkind in
theorem deliver_answered (a : TakeAnswer) : deliver p (.takeAnswer a) (s.setPort p (reloadedPort s p)) =
    s.setPort p (answeredPort s p a) := deliver_setPort_reachable s p _ hup honline

theorem takeRequest_closed (hq : Quiet s) {b : Bool} (hday : s.dayState = .closing n b) :
    exec (.takeRequest p) s = .next (s.setPort p (answeredPort s p .closed)) := by
  have hclosing : (s.setPort p (reloadedPort s p)).dayState.isClosing = true := by
    rw [State.setPort_dayState, hday]
    rfl
  rw [exec_takeRequest hup honline hkind, takeRequestOp, if_pos hclosing, deliver_answered hup honline]
  exact congrArg _ (flush_of_quiet (hq.setPort (hq p)))

theorem takeRequest_blocked (hq : Quiet s) (hday : s.dayState = .trading)
    (hlive : (s.ticket s.tickets.next).state ≠ .free) :
    exec (.takeRequest p) s = .next (s.setPort p (answeredPort s p .rollBlocked)) := by
  have hopen : ¬ (s.setPort p (reloadedPort s p)).dayState.isClosing = true := by
    rw [State.setPort_dayState, hday]
    decide
  rw [exec_takeRequest hup honline hkind, takeRequestOp, if_neg hopen]
  refine congrArg Host.Outcome.next ((congrArg flush (if_pos hlive)).trans ?_)
  rw [deliver_answered hup honline]
  exact flush_of_quiet (hq.setPort (hq p))

/-- A number that is free is issued, and then placed. -/
theorem takeRequest_issues (hday : s.dayState = .trading) (hfree : (s.ticket s.tickets.next).state = .free) :
    exec (.takeRequest p) s = .next (flush (placeTicket s.tickets.next
      ((issuedState s s.tickets.next .waiting 0 s.tickets.waiting s.tickets.calling).setPort p
        (answeredPort s p (.issue s.tickets.next))))) := by
  have hopen : ¬ (s.setPort p (reloadedPort s p)).dayState.isClosing = true := by
    rw [State.setPort_dayState, hday]
    decide
  rw [exec_takeRequest hup honline hkind, takeRequestOp, if_neg hopen]
  refine congrArg Host.Outcome.next (congrArg flush ((if_neg (not_not.mpr hfree)).trans ?_))
  exact congrArg (placeTicket s.tickets.next) (deliver_setPort_reachable
    (issuedState s s.tickets.next .waiting 0 s.tickets.waiting s.tickets.calling) p (c := reloadedPort s p)
    (.takeAnswer (.issue s.tickets.next)) hup honline)

theorem takeRequest_waits (hq : Quiet s) (hday : s.dayState = .trading)
    (hfree : (s.ticket s.tickets.next).state = .free) (hcalling : s.tickets.calling = []) :
    exec (.takeRequest p) s = .next
      ((issuedState s s.tickets.next .waiting 0 (s.tickets.waiting ++ [s.tickets.next]) []).setPort p
        (answeredPort s p (.issue s.tickets.next))) := by
  rw [takeRequest_issues hup honline hkind hday hfree, hcalling,
    placeTicket_waits (s := (issuedState s _ _ _ _ []).setPort p _) rfl]
  exact congrArg _ (flush_of_quiet (s := (issuedState s s.tickets.next .waiting 0
    (s.tickets.waiting ++ [s.tickets.next]) []).setPort p (answeredPort s p (.issue s.tickets.next)))
      (hq.setPort (hq p)))

/-- The ticket called to the oldest station that asks. -/
theorem takeRequest_calls (hday : s.dayState = .trading) (hfree : (s.ticket s.tickets.next).state = .free)
    {rest : List CounterPort} (hcalling : s.tickets.calling = q :: rest) :
    exec (.takeRequest p) s = .next (flush (callTicket s.tickets.next q 1 .take
      ((issuedState s s.tickets.next .waiting 0 s.tickets.waiting rest).setPort p
        (answeredPort s p (.issue s.tickets.next))))) := by
  rw [takeRequest_issues hup honline hkind hday hfree, hcalling,
    placeTicket_calls (s := (issuedState s _ _ _ _ (q :: rest)).setPort p _) rfl]
  have hcount : raisedCount (((issuedState s s.tickets.next .waiting 0 s.tickets.waiting (q :: rest)).setPort p
      (answeredPort s p (.issue s.tickets.next))).ticket s.tickets.next) = 1 := by
    have hrec : ((issuedState s s.tickets.next .waiting 0 s.tickets.waiting (q :: rest)).setPort p
        (answeredPort s p (.issue s.tickets.next))).ticket s.tickets.next =
          { state := .waiting, count := 0, age := 0 } := by
      exact (getElem_set_ticket s.tickets.recs _ _ _).trans (if_pos rfl)
    rw [hrec]
    rfl
  rw [hcount]
  rfl

end

theorem recordCall_issued {waiting : List TicketNo} {calling : List CounterPort} :
    recordCall k q 1 (issuedState s k .waiting 0 waiting calling) =
      issuedState s k (.called q s.ret.config.callTimeout) 1 waiting calling := by
  have hrec : (issuedState s k .waiting 0 waiting calling).ticket k = { state := .waiting, count := 0, age := 0 } :=
    (getElem_set_ticket s.tickets.recs k k _).trans (if_pos rfl)
  rw [recordCall, hrec]
  unfold setTicket issuedState
  simp only [Vector.set_set]
  rfl

/-- Settles O58: a closing day, a live number, and the number issued to the queue or to a station. -/
theorem takeRequestIssuesTicket : Obligations.TakeRequestIssuesTicket := by
  intro s p hq hup honline hkind k answered
  refine ⟨fun n b hday => takeRequest_closed hup honline hkind hq hday,
    fun hday hlive => takeRequest_blocked hup honline hkind hq hday hlive,
    fun hday hfree => ⟨fun hcalling => takeRequest_waits hup honline hkind hq hday hfree hcalling,
      fun q rest hcalling hne => ?_⟩⟩
  generalize hu : (issuedState s k .waiting 0 s.tickets.waiting rest).setPort p (answeredPort s p (.issue k)) = u
  have hself : u.port p = answeredPort s p (.issue k) := by rw [← hu, State.port_setPort_self]
  have hother : ∀ r, r ≠ p → u.port r = s.port r := fun r h => by rw [← hu, State.port_setPort_ne _ _ h]; rfl
  have hret : u.ret.config = s.ret.config := by rw [← hu]; rfl
  have hquiet : Quiet u := by
    rw [← hu]
    exact hq.setPort (hq p)
  have hrest : calledState k q 1 .take u = { notify (.ticketCalled k q 1 .take)
      (issuedState s k (.called q s.ret.config.callTimeout) 1 s.tickets.waiting rest) with ports := u.ports } := by
    rw [← recordCall_issued, ← notify_withPorts, ← hu]
    rfl
  have hexec := takeRequest_calls hup honline hkind hday hfree hcalling
  rw [hu, flush_of_quiet (callTicket_quiet hquiet _)] at hexec
  refine ⟨_, hexec, ?_, ?_, ?_, fun r hrp hrq => ?_⟩
  · conv_lhs => rw [callTicket_calledState, hrest]
    rfl
  · rw [callTicket_port_ne hne.symm, hself, hret]
    exact if_neg fun h => by simp [answeredPort, hkind] at h
  · rw [callTicket_port_self, hother q hne]
  · rw [callTicket_port_ne hrq, hother r hrp, hret]
    split <;> rfl

end Sys2Proof.Machine
end

section
/-! PROOFS. Orders parked, picked up, abandoned and closed (R148, R153 to R158). -/

namespace Sys2Proof.Machine

variable {s base : State} {p q : CounterPort} {c : Port} {m : MsgCode} {k : TicketNo} {n : Nat} {o : Order}

/-! ### Keys on the order OPEN at a station (R148) -/

theorem withOpenOrder_open (hservice : c.service = .serving) (horder : orderOpenAt s.orders p = some o)
    (f : Order → State → State) : withOpenOrder p f (s.setPort p c) = f o (s.setPort p c) := by
  rw [withOpenOrder, State.port_setPort_self, if_pos hservice, State.setPort_orders, horder]

theorem withOpenOrder_elsewhere (hservice : c.service ≠ .serving) (f : Order → State → State) :
    withOpenOrder p f (s.setPort p c) = refuseKey p .noOrder (s.setPort p c) := by
  rw [withOpenOrder, State.port_setPort_self, if_neg hservice]

/-- The orders with `f` at the number `n`. -/
theorem modOrder_setPort (n : Nat) (f : Order → Order) (s : State) (p : CounterPort) (c : Port) :
    modOrder n f (s.setPort p c) =
      ({ s with orders := s.orders.map fun o => if o.number = n then f o else o } : State).setPort p c := rfl

theorem parkOrder_setPort (s : State) (c : Port) : parkOrder p o (s.setPort p c) = ({ s with
    orders := s.orders.map fun x => if x.number = o.number then { x with state := .parked, idle := 0 } else x
      } : State).setPort p { c with held := none, service := .free, displayDue := true } := by
  rw [parkOrder, clearHeld_setPort, modOrder_setPort, setService_setPort]

/-! ### PICKUP (R154) -/

theorem parkedOrder_ticket (orders : List Order) (k : TicketNo) : parkedOrder orders k.val =
    orders.find? fun x => decide (x.state = .parked) && x.ticket == k := by
  refine congrArg (orders.find? ·) (funext fun x => ?_)
  rw [Bool.eq_iff_iff]
  simp [Fin.ext_iff]

theorem parkedOrder_none (h : ∀ x ∈ s.orders, x.state = .parked → x.ticket.val ≠ n) :
    parkedOrder s.orders n = none := by
  refine List.find?_eq_none.mpr fun x hx => ?_
  simpa using h x hx

theorem pickupOrder_setPort (h : parkedOrder s.orders n = some o) (c : Port) :
    pickupOrder p n (s.setPort p c) = ({ s with orders := s.orders.map fun x =>
        if x.number = o.number then { x with state := .openAt p, idle := 0 } else x } : State).setPort p
      { c with held := none, service := .serving, displayDue := true } := by
  rw [pickupOrder, State.setPort_orders, h]
  dsimp only
  rw [clearHeld_setPort, modOrder_setPort, setService_setPort]

theorem pickupOrder_none (h : parkedOrder s.orders n = none) : pickupOrder p n s = refuseKey p .noOrder s := by
  rw [pickupOrder, h]

/-! ### ORDER_ABANDONED (R155) -/

theorem orderAbandoned_eq (h : orderOf s.orders n = some o) : exec (.orderAbandoned n) s =
    if o.state = .parked ∧ s.ret.config.parkTimeout * 60 ≤ o.idle + 1 then .next (abandonOrder o s) else .next s := by
  show execOrderAbandoned n s = _
  rw [execOrderAbandoned, h]
  rfl

/-- Settles O59: each key by the order it finds, and the park timeout. -/
theorem ordersAreParkedPickedUpAbandoned : Obligations.OrdersAreParkedPickedUpAbandoned := by
  refine ⟨fun s p i hq hs hitem hi => ?busy, fun s p o => ⟨fun hready hservice horder => ?park,
    fun hready hservice horder => ?pickup, fun n hready hservice hnone => ?noOrder, fun horder =>
      ⟨fun hparked hidle => ?abandoned, fun hkept => ?kept⟩⟩⟩
  case busy =>
    obtain rfl | ⟨n, rfl⟩ := hi <;> exact key_busy rfl hs hq hitem
  case park =>
    refine idleKey_taken (own := withOpenOrder p (parkOrder p)) (b := true) (base := { s with orders := _ }) rfl hready
      hready.1 rfl ⟨rfl, rfl, rfl, rfl⟩ ?_
    rw [withOpenOrder_open (c := reloadedPort s p) hservice horder, parkOrder_setPort]
    rfl
  case pickup =>
    refine idleKey_taken (own := pickupOp p o.ticket.val) (b := true) (base := { s with orders := _ }) rfl hready
      hready.1 rfl ⟨rfl, rfl, rfl, rfl⟩ ?_
    rw [pickupOp, State.port_setPort_self, serviceKey_taken (nextRefusal_free (c := reloadedPort s p) hservice),
      pickupOrder_setPort ((parkedOrder_ticket _ _).trans horder)]
    rfl
  case noOrder =>
    refine idleKey_refused (own := pickupOp p n) rfl hready ?_
    rw [pickupOp, State.port_setPort_self, serviceKey_taken (nextRefusal_free (c := reloadedPort s p) hservice)]
    exact pickupOrder_none (s := s.setPort p _) (parkedOrder_none hnone)
  case abandoned => exact (orderAbandoned_eq horder).trans (if_pos ⟨hparked, hidle⟩)
  case kept =>
    refine (orderAbandoned_eq horder).trans (if_neg fun h => ?_)
    obtain hnot | hearly := hkept
    · exact hnot h.1
    · exact absurd h.2 (Nat.not_le.mpr hearly)

/-! ### CLOSE_ORDER (R157, R158) -/

theorem liveLines_eq_zero_iff (o : Order) : liveLines o = 0 ↔ ∀ l ∈ o.lines, l.voided = true := by
  simp [liveLines, List.filter_eq_nil_iff]

theorem hasJob_of_queued {j : Job} (hj : j ∈ s.composer.queue) (hstation : j.station = p) : hasJob s p = true := by
  have hany : s.composer.queue.any (fun j => decide (j.station = p)) = true :=
    List.any_eq_true.mpr ⟨j, hj, decide_eq_true hstation⟩
  rw [hasJob, hany, Bool.true_or]

theorem serialExhausted_iff (s : State) :
    serialExhausted s = true ↔ 999999 < s.ret.day.nextSerial + serialJobs s := decide_eq_true_iff

theorem serialExhausted_setPort (s : State) (p : CounterPort) (c : Port) :
    serialExhausted (s.setPort p c) = serialExhausted s := rfl

theorem closeEmpty_setPort (s : State) (c : Port) : closeEmpty p o (s.setPort p c) =
    (notify (.orderClosed .empty o.number o.ticket (some p) none none none) (freeOrder o s)).setPort p
      { c with held := none, service := .free, displayDue := true } := by
  rw [closeEmpty, clearHeld_setPort]
  have hfree : ∀ d, freeOrder o (s.setPort p d) = (freeOrder o s).setPort p d := fun _ => rfl
  rw [hfree, setService_setPort, notify_setPort]

/-- The SUMMARY job of an order. -/
def summaryJob (s : State) (p : CounterPort) (o : Order) : Job :=
  { station := p, source := .summary o.number (s.port p).operator s.clock.stamp }

theorem queueSummary_setPort (s : State) {c : Port} (hsale : c.sale ≠ .printing) :
    queueSummary p o (s.setPort p c) = ({ s with
      orders := s.orders.map fun x => if x.number = o.number then { x with summaryInFlight := true } else x
      composer := { s.composer with
        queue := s.composer.queue ++ [⟨p, .summary o.number c.operator s.clock.stamp⟩] } } : State).setPort p
      { c with
        sale := .printing, held := if c.slots.free = [] then some .printerBusy else none, displayDue := true } := by
  rw [queueSummary, modOrder_setPort, setSale_setPort, State.port_setPort_self, joinComposer_setPort,
    if_neg (show ¬ (c.sale = .printing ∧ none = none) from fun h => hsale h.1)]
  dsimp only
  rw [ite_self]
  rfl

/-- Settles O60: what the order and the composer decide. -/
theorem closeOrderEndsOrQueuesSummary : Obligations.CloseOrderEndsOrQueuesSummary := by
  refine ⟨fun s p i hq hs hitem hi => ?busyItem, fun s p hready => ⟨fun o hservice horder => ⟨fun hqueue hcurrent =>
    ⟨fun hlines => ?empty, fun hlines hserial => ?summary, fun hlines hserial => ?exhausted⟩, fun hjob => ?busy⟩,
      fun hservice => ?noOrder⟩⟩
  case busyItem =>
    subst hi
    exact key_busy rfl hs hq hitem
  case noOrder =>
    exact idleKey_refused (own := withOpenOrder p (closeOrder p)) rfl hready
      (withOpenOrder_elsewhere (c := reloadedPort s p) hservice _)
  all_goals
    have hown := withOpenOrder_open (c := reloadedPort s p) hservice horder (closeOrder p)
  case busy =>
    obtain ⟨j, hj, hstation⟩ := hjob
    refine idleKey_refused (own := withOpenOrder p (closeOrder p)) rfl hready (hown.trans ?_)
    exact if_pos (hasJob_of_queued (s := s.setPort p _) hj hstation)
  all_goals
    have hnojob : ¬ hasJob (s.setPort p (reloadedPort s p)) p = true := by
      rw [Bool.not_eq_true]
      exact (hasJob_false_iff _ p).mpr ⟨hqueue, hcurrent⟩
    rw [closeOrder, if_neg hnojob] at hown
  case empty =>
    rw [if_pos ((liveLines_eq_zero_iff o).mpr hlines), closeEmpty_setPort] at hown
    exact idleKey_taken (own := withOpenOrder p (closeOrder p)) rfl hready ((notify_quiet_iff _ _).mpr hready.1)
      (by rw [notify_ret]) ⟨rfl, rfl, rfl, rfl⟩ hown
  all_goals
    have hlive : ¬ liveLines o = 0 := fun h => by
      obtain ⟨l, hl, hv⟩ := hlines
      rw [(liveLines_eq_zero_iff o).mp h l hl] at hv
      cases hv
    rw [if_neg hlive, serialExhausted_setPort] at hown
  case summary =>
    rw [if_neg (fun h => absurd ((serialExhausted_iff _).mp h) (Nat.not_lt.mpr hserial)), queueSummary_setPort] at hown
    · exact idleKey_taken (own := withOpenOrder p (closeOrder p)) (base := { s with orders := _, composer := _ }) rfl
        hready hready.1 rfl ⟨rfl, rfl, rfl, rfl⟩ hown
    · rw [show (reloadedPort s p).sale = .idle from hready.2.2]
      decide
  case exhausted =>
    rw [if_pos ((serialExhausted_iff _).mpr hserial)] at hown
    exact idleKey_refused (own := withOpenOrder p (closeOrder p)) rfl hready hown

end Sys2Proof.Machine
end

section
/-! PROOFS. The keys of a sale: QTY, CANCEL and PRINT (R53, R54, R56 to R59). -/

namespace Sys2Proof.Machine

variable {s base : State} {p q : CounterPort} {c : Port} {m : MsgCode} {sn : Snapshot} {n : Nat}

/-! ### QTY (R53) -/

theorem snapshotInItem_item (hitem : c.sale = .item) : snapshotInItem c = c.snapshot := if_pos hitem

theorem qtyRefusal_count (hsnap : snapshotInItem c = some sn) (hmode : sn.item.mode = .byCount) (hlow : 1 ≤ n)
    (hhigh : n ≤ 999) : qtyRefusal c n = none := by
  rw [qtyRefusal, hsnap]
  exact (if_neg (not_not.mpr hmode)).trans (if_neg (by omega))

theorem qtyRefusal_range (hsnap : snapshotInItem c = some sn) (hmode : sn.item.mode = .byCount)
    (hrange : n = 0 ∨ 999 < n) : qtyRefusal c n = some .qtyRange := by
  rw [qtyRefusal, hsnap]
  exact (if_neg (not_not.mpr hmode)).trans (if_pos (by omega))

theorem qtyRefusal_mode (hsnap : snapshotInItem c = some sn) (hmode : sn.item.mode ≠ .byCount) :
    qtyRefusal c n = some .notCountItem := by
  rw [qtyRefusal, hsnap]
  exact if_pos hmode

theorem qtyRefusal_noItem (hitem : c.sale ≠ .item) : qtyRefusal c n = some .notCountItem := by
  rw [qtyRefusal, snapshotInItem, if_neg hitem]

theorem qtyOp_refused (h : qtyRefusal c n = some m) :
    qtyOp p n (s.setPort p c) = refuseKey p m (s.setPort p c) := by
  rw [qtyOp, State.port_setPort_self, h]

theorem qtyOp_taken (h : qtyRefusal c n = none) (hsnap : c.snapshot = some sn) :
    qtyOp p n (s.setPort p c) = s.setPort p { c with
      held := none, displayDue := true
      snapshot := some { sn with
        quantity := n, live := some (livePrice { sn with quantity := n } c.weigh.latest) } } := by
  rw [qtyOp, State.port_setPort_self, h]
  dsimp only
  rw [modPort_setPort, reprice_setPort, clearHeld_setPort, hsnap]
  rfl

/-! ### CANCEL (R54) -/

theorem setSale_moves (s : State) (p : CounterPort) {v w : SaleState} (hsale : c.sale = w) (hne : w ≠ v)
    (message : Option MsgCode) : setSale p v message (s.setPort p c) =
      s.setPort p { c with sale := v, held := message, displayDue := true } := by
  rw [setSale_setPort, if_neg fun h => hne (hsale.symm.trans h.1)]

/-- A move to IDLE with the switch OFF. -/
theorem toIdle_off (s : State) (p : CounterPort) (hswitch : c.calSwitch = .off) {w : SaleState} (hsale : c.sale = w)
    (hne : w ≠ .idle) {message : Option MsgCode} : toIdle p message (s.setPort p c) =
      s.setPort p { c with sale := .idle, held := message, displayDue := true } := by
  rw [toIdle, State.port_setPort_self, if_neg (by rw [hswitch]; decide), setSale_moves s p hsale hne]

/-- A move to IDLE with the switch ON, of a station that does not ask. -/
theorem toIdle_on (s : State) (p : CounterPort) (hswitch : c.calSwitch = .on) (hservice : c.service ≠ .asking)
    {w : SaleState} (hsale : c.sale = w) (hne : w ≠ .calibrating) {message : Option MsgCode} :
    toIdle p message (s.setPort p c) =
      s.setPort p { c with sale := .calibrating, held := message, displayDue := true } := by
  rw [toIdle, State.port_setPort_self, if_pos hswitch, leaveCalling_setPort, if_neg hservice,
    setSale_moves s p hsale hne]

theorem dayTest_trading (hday : s.dayState = .trading) : dayTest s = s := by
  obtain ⟨hready, -⟩ | ⟨-, h⟩ := dayTest_cases s
  · obtain ⟨⟨n, b, hclosing⟩, -⟩ := (closeReady_iff s).mp hready
    rw [hday] at hclosing
    cases hclosing
  · exact h

/-- CANCEL of an open snapshot while no commit and no close waits, before the move of the sale state. -/
theorem cancelOp_item (hitem : c.sale = .item) (hsnap : c.snapshot = some sn) (hcommit : s.commit = .editing) :
    cancelOp p (s.setPort p c) =
      dayTest (toIdle p none (s.setPort p { closedPort s.ret.cal[p] c with displayDue := true })) := by
  have hclose : closeSnapshot p (s.setPort p c) =
      s.setPort p { closedPort s.ret.cal[p] c with displayDue := true } := by
    have h := closeSnapshot_eq (s := s.setPort p c) (p := p) (sn := sn) (by rw [State.port_setPort_self]; exact hsnap)
      (by rw [State.setPort_commit, hcommit]; simp)
    rw [State.port_setPort_self, State.setPort_setPort] at h
    exact h
  rw [cancelOp, State.port_setPort_self, if_pos hitem, hclose]

theorem cancelOp_idle (hitem : c.sale ≠ .item) : cancelOp p (s.setPort p c) = clearHeld p (s.setPort p c) := by
  rw [cancelOp, State.port_setPort_self, if_neg hitem]

/-- A key of a station with an item selected that its owner takes. -/
theorem itemKey_taken {i : Instr} {own : State → State} {b : Bool}
    (hexec : exec i s = .next (keyEvent p salesGate own s)) (hready : ItemReady s p sn) (hq : Quiet base)
    (hconfig : base.ret.config = s.ret.config)
    (hport : c.state = (s.port p).state ∧ c.online = (s.port p).online ∧ c.kind = (s.port p).kind ∧
      c.displayDue = (s.port p).displayDue)
    (hown : own (s.setPort p (reloadedPort s p)) =
      base.setPort p { c with supervision := s.ret.config.supervisionReload, displayDue := b }) :
    ∃ t, exec i s = .next t ∧ KeyAnswered base t p c :=
  key_taken hexec hready.2.1 (salesGate_item hready.2.2.1) hq hconfig hport (hready.1 p) hown

theorem itemKey_refused {i : Instr} {own : State → State} (hexec : exec i s = .next (keyEvent p salesGate own s))
    (hready : ItemReady s p sn)
    (hown : own (s.setPort p (reloadedPort s p)) = refuseKey p m (s.setPort p (reloadedPort s p))) :
    ∃ t, exec i s = .next t ∧ KeyAnswered s t p { s.port p with held := some m } :=
  key_refused hexec hready.2.1 hready.1 (salesGate_item hready.2.2.1) hown

/-- Settles O48: QTY by its table of refusals, CANCEL by the sale state and the switch. -/
theorem qtyAndCancelChangeSnapshot : Obligations.QtyAndCancelChangeSnapshot := by
  intro s p
  refine ⟨fun sn n hready => ?item, fun hready => ?cancelIdle, fun n hready => ?qtyIdle⟩
  case item =>
    obtain ⟨hq, hs, hitem, hsnap⟩ := hready
    have hshown : snapshotInItem (reloadedPort s p) = some sn := (snapshotInItem_item (c := reloadedPort s p) hitem).trans hsnap
    refine ⟨fun hmode hlow hhigh => ?count, fun hmode hrange => ?range, fun hmode => ?mode, fun hday hcommit =>
      ⟨fun hswitch => ?off, fun hswitch hservice => ?on⟩⟩
    case count =>
      refine itemKey_taken (own := qtyOp p n) (b := true) rfl ⟨hq, hs, hitem, hsnap⟩ hq rfl ⟨rfl, rfl, rfl, rfl⟩ ?_
      exact qtyOp_taken (c := reloadedPort s p) (qtyRefusal_count hshown hmode hlow hhigh) hsnap
    case range =>
      exact itemKey_refused (own := qtyOp p n) rfl ⟨hq, hs, hitem, hsnap⟩
        (qtyOp_refused (qtyRefusal_range hshown hmode hrange))
    case mode =>
      exact itemKey_refused (own := qtyOp p n) rfl ⟨hq, hs, hitem, hsnap⟩ (qtyOp_refused (qtyRefusal_mode hshown hmode))
    case off =>
      refine itemKey_taken (own := cancelOp p) (b := true) rfl ⟨hq, hs, hitem, hsnap⟩ hq rfl ⟨rfl, rfl, rfl, rfl⟩ ?_
      rw [cancelOp_item (c := reloadedPort s p) hitem hsnap hcommit,
        toIdle_off (c := { closedPort s.ret.cal[p] (reloadedPort s p) with displayDue := true }) _ _ hswitch hitem (by decide),
        dayTest_trading (s := s.setPort p _) hday]
      rfl
    case on =>
      refine itemKey_taken (own := cancelOp p) (b := true) rfl ⟨hq, hs, hitem, hsnap⟩ hq rfl ⟨rfl, rfl, rfl, rfl⟩ ?_
      rw [cancelOp_item (c := reloadedPort s p) hitem hsnap hcommit,
        toIdle_on (c := { closedPort s.ret.cal[p] (reloadedPort s p) with displayDue := true }) _ _ hswitch hservice hitem (by decide),
        dayTest_trading (s := s.setPort p _) hday]
      rfl
  case cancelIdle =>
    obtain ⟨hq, hs, hidle⟩ := hready
    have hitem : (reloadedPort s p).sale ≠ .item := by simp [reloadedPort, hidle]
    refine key_taken (own := cancelOp p) (b := true) rfl hs (salesGate_idle hidle) hq rfl ⟨rfl, rfl, rfl, rfl⟩ (hq p) ?_
    rw [cancelOp_idle hitem, clearHeld_setPort]
    rfl
  case qtyIdle =>
    obtain ⟨hq, hs, hidle⟩ := hready
    have hitem : (reloadedPort s p).sale ≠ .item := by simp [reloadedPort, hidle]
    exact key_refused (own := qtyOp p n) rfl hs hq (salesGate_idle hidle) (qtyOp_refused (qtyRefusal_noItem hitem))

end Sys2Proof.Machine
end

section
/-! PROOFS. PRINT: the checks of R56 in order, the frozen sale and the ITEM job (R57 to R59). -/

namespace Sys2Proof.Machine

variable {s base : State} {p q : CounterPort} {c : Port} {m : MsgCode} {sn : Snapshot} {n : Nat} {a : Amounts}
  {r : SaleRecord} {l : LivePrice}

/-! ### The checks of R56, each by its outcome -/

theorem printQuantity_ok {n : Nat} (h : sn.item.mode = .byCount ∧ n = sn.quantity ∨ sn.item.mode = .fixed ∧ n = 1 ∨
    sn.item.mode = .byWeight ∧ ∃ r x, c.weigh.latest = some r ∧ r.message = none ∧ r.weights = some x ∧
      n = x.d.toNat) : printQuantity c sn = .ok n := by
  obtain ⟨hmode, rfl⟩ | ⟨hmode, rfl⟩ | ⟨hmode, r, x, hr, hm, hx, rfl⟩ := h
  · simp only [printQuantity, hmode]
  · simp only [printQuantity, hmode]
  · simp only [printQuantity, hmode, hr, priceableNet, hm, hx]

theorem printAmounts_ok (hlive : sn.live = some l) (ha : l.amounts = some a) (hm : l.message = none) :
    printAmounts c sn = .ok a := by
  simp only [printAmounts, hlive, Option.getD_some, hm, ha]

theorem printAmounts_message (hlive : sn.live = some l) (hm : l.message = some m) : printAmounts c sn = .error m := by
  simp only [printAmounts, hlive, Option.getD_some, hm]

theorem servedOrder_setPort (s : State) (p : CounterPort) (c : Port) : servedOrder (s.setPort p c) p =
    if c.service = .serving then orderOpenAt s.orders p else none := by
  rw [servedOrder, State.port_setPort_self]
  rfl

theorem dateMissing_false (h : ∀ t, entryAt s.ret.templates (sn.item.template - 1) = some t → hasDateField t = true →
    s.clock.valid = true) : dateMissing s sn = false := by
  rw [dateMissing]
  cases ht : entryAt s.ret.templates (sn.item.template - 1) with
  | none => rw [Option.any_none, Bool.and_false]
  | some t =>
    cases hd : hasDateField t with
    | false => rw [Option.any_some, hd, Bool.and_false]
    | true => rw [h t ht hd, Bool.not_true, Bool.false_and]

/-- Checks 3, 4 and 7 passed: the order alone decides. -/
theorem printRefusal_order (hdate : dateMissing s sn = false) (hjob : hasJob s p = false)
    (hserial : s.ret.day.nextSerial + serialJobs s ≤ 999999) (final : Nat) : printRefusal s p sn final =
      if (servedOrder s p).any (fun o => Config.maxLines ≤ o.lines.length) then some .orderFull
      else if (servedOrder s p).any (fun o => Config.maxOrderTotal < o.total + final) then some .orderLimit
      else none := by
  have hexhausted : ¬ serialExhausted s = true := fun h =>
    absurd ((serialExhausted_iff s).mp h) (Nat.not_lt.mpr hserial)
  rw [printRefusal, hdate, hjob, if_neg Bool.false_ne_true, if_neg Bool.false_ne_true, if_neg hexhausted]

theorem printSale_accepted (hsnap : snapshotInItem (s.port p) = some sn) (hn : printQuantity (s.port p) sn = .ok n)
    (ha : printAmounts (s.port p) sn = .ok a) (hr : printRefusal s p sn a.final = none) :
    printSale s p = .ok (saleRecord s p sn n a) := by
  simp only [printSale, hsnap, hn, ha, hr]

theorem printSale_refused (hsnap : snapshotInItem (s.port p) = some sn) (hn : printQuantity (s.port p) sn = .ok n)
    (ha : printAmounts (s.port p) sn = .ok a) (hr : printRefusal s p sn a.final = some m) :
    printSale s p = .error m := by
  simp only [printSale, hsnap, hn, ha, hr]

theorem printSale_unpriced (hsnap : snapshotInItem (s.port p) = some sn) (hn : printQuantity (s.port p) sn = .ok n)
    (ha : printAmounts (s.port p) sn = .error m) : printSale s p = .error m := by
  simp only [printSale, hsnap, hn, ha]

theorem printOp_refused (h : printSale s p = .error m) : printOp p s = refuseKey p m s := by
  rw [printOp, h]

/-- The station as PRINTING begins, and its frozen sale. -/
def printingPort (c : Port) (sn : Snapshot) (r : SaleRecord) : Port :=
  { c with
    sale := .printing, record := some r, snapshot := some { sn with live := none }
    held := if c.slots.free = [] then some .printerBusy else none }

theorem enterPrinting_setPort (s : State) (p : CounterPort) (hsnap : c.snapshot = some sn) (r : SaleRecord) :
    enterPrinting p r (s.setPort p c) = ({ s with composer := { s.composer with
      queue := s.composer.queue ++ [{ station := p, source := .item r }] } } : State).setPort p
        { printingPort c sn r with displayDue := true } := by
  rw [enterPrinting, modPort_setPort, joinComposer_setPort, hsnap]
  dsimp only
  rw [ite_self]
  rfl

/-! ### O49 -/

section
variable (hready : ItemReady s p sn)
include hready

theorem reloaded_shown : snapshotInItem ((s.setPort p (reloadedPort s p)).port p) = some sn := by
  obtain ⟨-, -, hitem, hsnap⟩ := hready
  rw [State.port_setPort_self]
  exact (snapshotInItem_item (c := reloadedPort s p) hitem).trans hsnap

theorem print_refused (h : printSale (s.setPort p (reloadedPort s p)) p = .error m) :
    ∃ t, exec (.print p) s = .next t ∧ KeyAnswered s t p { s.port p with held := some m } :=
  itemKey_refused (own := printOp p) rfl hready (printOp_refused h)

theorem print_accepted (h : printSale (s.setPort p (reloadedPort s p)) p = .ok r) :
    ∃ t, exec (.print p) s = .next t ∧ KeyAnswered { s with composer := { s.composer with
      queue := s.composer.queue ++ [{ station := p, source := .item r }] } } t p (printingPort (s.port p) sn r) := by
  obtain ⟨hq, hs, hitem, hsnap⟩ := hready
  refine itemKey_taken (own := printOp p) (b := true) (base := { s with composer := _ }) rfl ⟨hq, hs, hitem, hsnap⟩ hq
    rfl ⟨rfl, rfl, rfl, rfl⟩ ?_
  rw [printOp, h]
  exact enterPrinting_setPort (c := reloadedPort s p) s p hsnap r

end

/-- Settles O49: the order served decides what is left of the checks. -/
theorem printFreezesSale : Obligations.PrintFreezesSale := by
  intro s p sn l hready hlive
  have hsnap := reloaded_shown hready
  generalize hu : s.setPort p (reloadedPort s p) = u at hsnap
  have hself : u.port p = reloadedPort s p := by rw [← hu, State.port_setPort_self]
  refine ⟨fun a n ha hm hmode hdate hqueue hcurrent hserial => ?checks, fun m hmode hm => ?message⟩
  case checks =>
    intro queued printing record
    have hn : printQuantity (u.port p) sn = .ok n := by rw [hself]; exact printQuantity_ok hmode
    have hamounts : printAmounts (u.port p) sn = .ok a := printAmounts_ok hlive ha hm
    have hrefusal : printRefusal u p sn a.final = _ := printRefusal_order
      (dateMissing_false (by rw [← hu]; exact hdate))
      ((hasJob_false_iff u p).mpr (by rw [← hu]; exact ⟨hqueue, hcurrent⟩)) (by rw [← hu]; exact hserial) a.final
    have hserved : servedOrder u p = if (s.port p).service = .serving then orderOpenAt s.orders p else none := by
      rw [← hu]
      exact servedOrder_setPort s p (reloadedPort s p)
    have hrecord : saleRecord u p sn n a =
        { record with order := (servedOrder u p).map fun o => (o.number, o.ticket) } := by
      rw [saleRecord, hself, ← hu]
      rfl
    refine ⟨fun hservice => ?alone, fun o hservice horder => ?served⟩
    case alone =>
      rw [if_neg hservice] at hserved
      rw [hserved] at hrefusal hrecord
      have hsale := printSale_accepted hsnap hn hamounts hrefusal
      rw [hrecord, ← hu] at hsale
      exact print_accepted hready hsale
    case served =>
      rw [if_pos hservice, horder] at hserved
      rw [hserved] at hrefusal hrecord
      simp only [Option.any_some, decide_eq_true_eq] at hrefusal
      refine ⟨fun hlines htotal => ?_, fun hlines => ?_, fun hlines htotal => ?_⟩
      · rw [if_neg (c := Config.maxLines ≤ _) (Nat.not_le.mpr hlines), if_neg (c := Config.maxOrderTotal < _) (Nat.not_lt.mpr htotal)] at hrefusal
        have hsale := printSale_accepted hsnap hn hamounts hrefusal
        rw [hrecord, ← hu] at hsale
        exact print_accepted hready hsale
      · rw [if_pos (c := Config.maxLines ≤ _) hlines] at hrefusal
        exact print_refused hready (hu ▸ printSale_refused hsnap hn hamounts hrefusal)
      · rw [if_neg (c := Config.maxLines ≤ _) (Nat.not_le.mpr hlines), if_pos (c := Config.maxOrderTotal < _) htotal] at hrefusal
        exact print_refused hready (hu ▸ printSale_refused hsnap hn hamounts hrefusal)
  case message =>
    have hn : ∃ n, printQuantity (u.port p) sn = .ok n := by
      cases hmode' : sn.item.mode with
      | byWeight => exact absurd hmode' hmode
      | byCount => exact ⟨_, printQuantity_ok (.inl ⟨hmode', rfl⟩)⟩
      | fixed => exact ⟨_, printQuantity_ok (.inr (.inl ⟨hmode', rfl⟩))⟩
    obtain ⟨n, hn⟩ := hn
    exact print_refused hready (hu ▸ printSale_unpriced hsnap hn (printAmounts_message hlive hm))

end Sys2Proof.Machine
end

section
/-! PROOFS. The weighing keys and the sample frames: ZERO, TARE, KEYED_TARE, SAMPLE and SAMPLE_GAP_EXPIRY (chapter
2). -/

namespace Sys2Proof.Machine

variable {s base : State} {p q : CounterPort} {c : Port} {m : MsgCode} {n : Nat} {cal : CalRecord} {w : WeighCtx}

/-! ### What the passes leave (R24 to R33) -/

theorem windowSum_eq (w : WeighCtx) : windowSum w = w.window.sum := List.sum_eq_foldl.symm

/-- A pass keeps the window, the tare, the initial zero, its mark and the gap timer. -/
theorem weighPass_kept (cal : CalRecord) (sum : Int) (w : WeighCtx) :
    (weighPass cal sum w).window = w.window ∧ (weighPass cal sum w).tare = w.tare ∧
      (weighPass cal sum w).zi = w.zi ∧ (weighPass cal sum w).pendingZero = w.pendingZero ∧
      (weighPass cal sum w).gapRunning = w.gapRunning := by
  unfold weighPass
  dsimp only
  split_ifs <;> exact ⟨rfl, rfl, rfl, rfl, rfl⟩

theorem initialZero_kept (cal : CalRecord) (sum : Int) (w : WeighCtx) :
    (initialZero cal sum w).window = w.window ∧ (initialZero cal sum w).gapRunning = w.gapRunning := by
  unfold initialZero
  split
  · exact ⟨rfl, rfl⟩
  · split
    · obtain ⟨hwindow, -, -, -, hgap⟩ := weighPass_kept cal sum { w with
        zo := windowAverage cal.toCalFields sum - cal.zero, zi := windowAverage cal.toCalFields sum - cal.zero
        pendingZero := false, band := [] }
      exact ⟨hwindow, hgap⟩
    · exact ⟨rfl, rfl⟩

theorem weighWindow_kept (cal : CalRecord) (w : WeighCtx) :
    (weighWindow cal w).window = w.window ∧ (weighWindow cal w).gapRunning = w.gapRunning := by
  unfold weighWindow
  split
  · exact ⟨rfl, rfl⟩
  · split
    · exact ⟨rfl, rfl⟩
    · obtain ⟨hwindow, hgap⟩ := initialZero_kept cal (windowSum w) (weighPass cal (windowSum w) w)
      obtain ⟨hpass, -, -, -, hrun⟩ := weighPass_kept cal (windowSum w) w
      exact ⟨hwindow.trans hpass, hgap.trans hrun⟩

theorem takeSamples_kept (cal : Option CalRecord) (samples : List Int) (w : WeighCtx) :
    (takeSamples cal samples w).window = pushWindow (windowLength cal) w.window samples ∧
      (takeSamples cal samples w).gapRunning = true := by
  unfold takeSamples
  split
  · exact ⟨rfl, rfl⟩
  · dsimp only
    split
    · exact ⟨rfl, rfl⟩
    · exact weighWindow_kept _ _

/-! ### Results and tares at a port (R38, R48) -/

theorem handResult_setPort (s : State) (p : CounterPort) (c : Port) (w : WeighCtx) (r : WeightResult) :
    handResult p w r (s.setPort p c) =
      s.setPort p { c with weigh := w, snapshot := repriced c r, displayDue := true } := modPort_setPort ..

theorem applyTare_setPort (hitem : c.sale ≠ .item) (t : Tare) : applyTare p t (s.setPort p c) =
    s.setPort p { c with weigh := retared s.ret.cal[p] t c.weigh, displayDue := true } := by
  obtain ⟨sn, h, hkept, -⟩ := applyTare_eq p t (s.setPort p c)
  rw [State.port_setPort_self] at h hkept
  rw [hkept hitem, State.setPort_setPort] at h
  exact h

/-! ### ZERO (R32) -/

theorem zeroKey_ok (hstable : w.state = .stable) (htare : w.tare.kind = .none)
    (hlimit : meetsZeroLimit cal.toCalFields (windowAverage cal.toCalFields (windowSum w) - cal.zero) w.zi = true) :
    zeroKey (some cal) w = .ok (weighPass cal (windowSum w)
      { w with zo := windowAverage cal.toCalFields (windowSum w) - cal.zero, band := [] }) := by
  simp only [zeroKey, hstable, htare, hlimit, ne_eq, not_true, if_false, Bool.not_true, Bool.false_eq_true]

theorem zeroKey_refused (h : w.state ≠ .stable ∧ m = .notStable ∨
    w.state = .stable ∧ w.tare.kind ≠ .none ∧ m = .tareActive ∨
    w.state = .stable ∧ w.tare.kind = .none ∧ meetsZeroLimit cal.toCalFields
      (windowAverage cal.toCalFields (windowSum w) - cal.zero) w.zi = false ∧ m = .zeroRange) :
    zeroKey (some cal) w = .error m := by
  unfold zeroKey
  dsimp only
  obtain ⟨hmotion, rfl⟩ | ⟨hstable, htare, rfl⟩ | ⟨hstable, htare, hlimit, rfl⟩ := h
  · rw [if_pos hmotion]
  · rw [if_neg (not_not.mpr hstable), if_pos htare]
  · rw [if_neg (not_not.mpr hstable), if_neg (not_not.mpr htare), hlimit, if_pos Bool.not_false]

theorem salesGate_selling (h : c.sale = .idle ∨ c.sale = .item) : salesGate c = none := by
  obtain h | h := h
  · exact salesGate_idle h
  · exact salesGate_item h

/-- Settles O43: the zero limit is the model's own, written out. -/
theorem zeroKeySetsZeroOffset : Obligations.ZeroKeySetsZeroOffset := by
  intro s p cal hq hs hsale hcal w zo z inLimit
  have hsum : windowSum w = w.window.sum := windowSum_eq w
  have hlimit : meetsZeroLimit cal.toCalFields (windowAverage cal.toCalFields (windowSum w) - cal.zero) w.zi = true ↔
      inLimit := by
    rw [hsum]
    exact decide_eq_true_iff
  refine ⟨fun hstable htare hin => ?moves, fun m hrefused => ?refused⟩
  case moves =>
    have hzero := zeroKey_ok hstable htare (hlimit.mpr hin)
    rw [hsum] at hzero
    have hzi : z.zi = w.zi := (weighPass_kept cal w.window.sum { w with zo := zo, band := [] }).2.2.1
    obtain ⟨t, hexec, ht⟩ := key_taken (i := .zero p) (own := zeroOp p) (gate := salesGate) (b := true) (base := s)
      (c := { s.port p with
        weigh := z, snapshot := repriced (s.port p) (z.latest.getD (blankResult z.state)), held := none })
      rfl hs (salesGate_selling (c := reloadedPort s p) hsale) hq rfl ⟨rfl, rfl, rfl, rfl⟩ (hq p) (by
        rw [zeroOp, State.port_setPort_self, State.setPort_ret, hcal, show zeroKey _ (reloadedPort s p).weigh = _ from hzero]
        dsimp only
        rw [handResult_setPort, clearHeld_setPort]
        rfl)
    exact ⟨t, hexec, ht, hzi⟩
  case refused =>
    have hzero : zeroKey (some cal) w = .error m := by
      refine zeroKey_refused (hrefused.imp_right (Or.imp_right fun ⟨hstable, htare, hout, hm⟩ =>
        ⟨hstable, htare, ?_, hm⟩))
      exact Bool.eq_false_iff.mpr fun h => hout (hlimit.mp h)
    refine key_refused (own := zeroOp p) rfl hs hq (salesGate_selling (c := reloadedPort s p) hsale) ?_
    rw [zeroOp, State.port_setPort_self, State.setPort_ret, hcal, show zeroKey _ (reloadedPort s p).weigh = _ from hzero]

/-! ### TARE and KEYED_TARE (R34 to R36) -/

section
variable {t : Tare} {i : Instr} {own : State → State} {r : Except MsgCode Tare}
  (hexec : exec i s = .next (keyEvent p salesGate own s)) (hready : KeyReady s p)
  (hown : own (s.setPort p (reloadedPort s p)) = tareOutcome p r (s.setPort p (reloadedPort s p)))
include hexec hready hown

theorem tareKey_taken (h : r = .ok t) : ∃ u, exec i s = .next u ∧ KeyAnswered s u p
    { s.port p with weigh := retared s.ret.cal[p] t (s.port p).weigh, held := none } := by
  obtain ⟨hq, hs, hidle⟩ := hready
  refine key_taken (b := true) hexec hs (salesGate_idle hidle) hq rfl ⟨rfl, rfl, rfl, rfl⟩ (hq p) ?_
  rw [hown, h]
  refine (congrArg (clearHeld p) (applyTare_setPort (c := reloadedPort s p) ?_ t)).trans (clearHeld_setPort ..)
  rw [show (reloadedPort s p).sale = _ from hidle]
  decide

theorem tareKey_refused (h : r = .error m) :
    ∃ u, exec i s = .next u ∧ KeyAnswered s u p { s.port p with held := some m } := by
  obtain ⟨hq, hs, hidle⟩ := hready
  refine key_refused hexec hs hq (salesGate_idle hidle) ?_
  rw [hown, h]
  rfl

end

theorem tareOp_reloaded (hcal : s.ret.cal[p] = some cal) : tareOp p (s.setPort p (reloadedPort s p)) =
    tareOutcome p (tareKey (some cal) (s.port p).weigh) (s.setPort p (reloadedPort s p)) := by
  rw [tareOp, State.port_setPort_self, State.setPort_ret, hcal]
  rfl

theorem tareKey_stable {x : Weights} {r : WeightResult} (hstable : w.state = .stable) (hr : w.latest = some r)
    (hx : r.weights = some x) : tareKey (some cal) w =
      if x.gross.natAbs ≤ 5 * cal.e1 then .ok noTare
      else if 0 < x.gross then
        if 2 * (cal.e1 * (roundHalfAway x.gross (10 * cal.e1)).toNat) > cal.max then .error .tareRange
        else .ok { kind := .weighed, value := cal.e1 * (roundHalfAway x.gross (10 * cal.e1)).toNat }
      else .error .tareInvalid := by
  simp only [tareKey, hstable, latestWeights, hr, Option.bind_some, hx, nearZero, decide_eq_true_eq]

theorem tareKey_unstable (h : w.state ≠ .stable) : tareKey (some cal) w = .error .notStable := by
  unfold tareKey
  dsimp only
  split
  · next hstable _ => exact absurd hstable h
  · rfl

theorem keyedTareKey_zero : keyedTareKey (some cal) 0 = .ok noTare := rfl

theorem keyedTareKey_accepted (hn : n ≠ 0) (hdivision : n % cal.e1 = 0) (hmax : 2 * n ≤ cal.max) :
    keyedTareKey (some cal) n = .ok { kind := .keyed, value := n } := by
  simp only [keyedTareKey, hn, tareRefusal, hdivision, Nat.not_lt.mpr hmax, ne_eq, not_true, if_false]

theorem keyedTareKey_invalid (hdivision : n % cal.e1 ≠ 0) : keyedTareKey (some cal) n = .error .tareInvalid := by
  have hn : n ≠ 0 := fun h => hdivision (by rw [h, Nat.zero_mod])
  simp only [keyedTareKey, hn, tareRefusal, if_pos hdivision, if_false]

theorem keyedTareKey_range (hdivision : n % cal.e1 = 0) (hmax : cal.max < 2 * n) :
    keyedTareKey (some cal) n = .error .tareRange := by
  have hn : n ≠ 0 := by omega
  simp only [keyedTareKey, hn, tareRefusal, hdivision, hmax, ne_eq, not_true, if_false, if_true]

/-- Settles O44: both keys by what `tareKey` and `keyedTareKey` decide. -/
theorem tareKeysSetTare : Obligations.TareKeysSetTare := by
  refine ⟨fun s p cal r x hq hs hidle hcal hr hx => ?weighed, fun s p n hq hs hidle => ⟨fun cal hcal => ?keyed, fun hcal => ?noCal⟩⟩
  case weighed =>
    intro w T near
    rw [← hcal]
    have hready : KeyReady s p := ⟨hq, hs, hidle⟩
    have hown := tareOp_reloaded hcal
    refine ⟨fun hstable hnear => ?_, fun hstable hnear hpos hmax => ?_, fun hstable hnear hpos hmax => ?_,
      fun hstable hnear hneg => ?_, fun hmotion => ?_⟩
    · exact tareKey_taken (own := tareOp p) (t := noTare) rfl hready hown ((tareKey_stable hstable hr hx).trans (if_pos hnear))
    · refine tareKey_taken (own := tareOp p) rfl hready hown ((tareKey_stable hstable hr hx).trans ?_)
      rw [if_neg hnear, if_pos hpos, if_neg (Nat.not_lt.mpr hmax)]
    · refine tareKey_refused (own := tareOp p) rfl hready hown ((tareKey_stable hstable hr hx).trans ?_)
      rw [if_neg hnear, if_pos hpos, if_pos hmax]
    · refine tareKey_refused (own := tareOp p) rfl hready hown ((tareKey_stable hstable hr hx).trans ?_)
      rw [if_neg hnear, if_neg (by omega)]
    · exact tareKey_refused (own := tareOp p) rfl hready hown (tareKey_unstable hmotion)
  all_goals
    have hready : KeyReady s p := ⟨hq, hs, hidle⟩
    have hown : keyedTareOp p n (s.setPort p (reloadedPort s p)) =
      tareOutcome p (keyedTareKey s.ret.cal[p] n) (s.setPort p (reloadedPort s p)) := rfl
    rw [hcal] at hown
  case keyed =>
    rw [← hcal]
    refine ⟨fun hn => ?_, fun hn hdivision hmax => ?_, fun hdivision => ?_, fun hdivision hmax => ?_⟩
    · subst hn
      exact tareKey_taken (own := keyedTareOp p 0) (t := noTare) rfl hready hown keyedTareKey_zero
    · exact tareKey_taken (own := keyedTareOp p n) rfl hready hown (keyedTareKey_accepted hn hdivision hmax)
    · exact tareKey_refused (own := keyedTareOp p n) rfl hready hown (keyedTareKey_invalid hdivision)
    · exact tareKey_refused (own := keyedTareOp p n) rfl hready hown (keyedTareKey_range hdivision hmax)
  case noCal => exact tareKey_refused (own := keyedTareOp p n) rfl hready hown rfl

/-! ### SAMPLE and SAMPLE_GAP_EXPIRY (R24, R25) -/

theorem flush_setPort_due (s : State) (p : CounterPort) (hdue : c.displayDue = true) :
    flush (s.setPort p c) = flush (markDisplay p (s.setPort p c)) := by
  rw [markDisplay_setPort, ← hdue]

/-- The end of an event that changed one ONLINE scale's port and owes it a display. -/
theorem flush_shown (hs : c.state = .up ∧ c.online = true ∧ c.kind = some .scale) (hdue : c.displayDue = false)
    (hq : Quiet base) :
    let t := flush (base.setPort p { c with displayDue := true })
    OnlyPort base t p ∧ t.port p = { c with tx := c.tx ++ [.display (displayOf t p)] } := by
  intro t
  obtain ⟨⟨hrest, hports⟩, hp⟩ := flush_markDisplay (s := base.setPort p { c with displayDue := true }) (p := p)
    (by unfold ScaleOnline; rw [State.port_setPort_self]; exact hs)
    (fun q hne => by rw [State.port_setPort_ne _ _ hne]; exact hq q)
  rw [← flush_setPort_due (c := { c with displayDue := true }) _ _ rfl] at hrest hports hp
  refine ⟨⟨hrest, fun q hne => (hports q hne).trans (State.port_setPort_ne _ _ hne)⟩, ?_⟩
  rw [State.port_setPort_self] at hp
  rw [hp, ← hdue]

theorem sampleGap_eq (cal : Option CalRecord) (w : WeighCtx) :
    let st : WeighState := if cal = none then .noCal else if w.pendingZero then .initialZero else .noData
    sampleGap cal w = { w with
      window := [], band := [], gapRunning := false, state := st
      latest := some { state := st, weights := none, message := stateMessage st } } := by
  intro st
  have hst : (if cal.isNone then WeighState.noCal else if w.pendingZero then .initialZero else .noData) = st := by
    cases cal <;> rfl
  have hmessage : some ((stateMessage st).getD .noData) = stateMessage st := by
    simp only [st]
    split_ifs <;> rfl
  rw [sampleGap, hst, blankResult, hmessage]

/-- Settles O41. -/
theorem samplesMakeWeightResults : Obligations.SamplesMakeWeightResults := by
  refine ⟨fun s p a b c d hq hs => ?sample, fun s p hq => ?gap⟩
  case sample =>
    intro w none_ r
    obtain ⟨hwindow, hgap⟩ := takeSamples_kept s.ret.cal[p] [a, b, c, d] (s.port p).weigh
    refine ⟨hgap, ?_, flush (s.setPort p { reloadedPort s p with
      weigh := w, snapshot := repriced (reloadedPort s p) r, displayDue := true }), ?_, ?_⟩
    · rw [show w.window = _ from hwindow, pushWindow, List.length_append]
      cases s.ret.cal[p] <;> rfl
    · obtain ⟨hup, honline, hkind⟩ := hs
      show execSample p a b c d s = _
      rw [execSample, handOn_up hup honline (by simp [scaleOnly, hkind]), reloadSupervision_eq, sampleOp,
        State.port_setPort_self, handResult_setPort]
      rfl
    · rw [flush_setPort_due _ _ rfl]
      exact keyAnswered_setPort (c := { s.port p with weigh := w, snapshot := repriced (s.port p) r }) hs (hq p) hq rfl
  case gap =>
    intro st r
    refine ⟨fun hs hrun => ?runs, fun hstopped => ?stopped⟩
    case runs =>
      refine ⟨flush (s.setPort p { s.port p with
        weigh := sampleGap s.ret.cal[p] (s.port p).weigh
        snapshot := repriced (s.port p) (reportedResult (sampleGap s.ret.cal[p] (s.port p).weigh))
        displayDue := true }), ?_, ?_⟩
      · show execSampleGapExpiry p s = _
        rw [execSampleGapExpiry, if_pos hrun, ← handResult_setPort, State.setPort_self]
      · rw [sampleGap_eq]
        exact flush_shown (c := { s.port p with
          weigh := { (s.port p).weigh with
            window := [], band := [], gapRunning := false, state := st, latest := some r }
          snapshot := repriced (s.port p) r }) hs (hq p) hq
    case stopped =>
      show execSampleGapExpiry p s = _
      rw [execSampleGapExpiry, hstopped, if_neg Bool.false_ne_true]

end Sys2Proof.Machine
end

section
/-! PROOFS. The weighing stages: clips, limits, the stability band, the result and its legal net, the initial zero
and zero tracking (R26 to R33, R38 to R40). -/

namespace Sys2Proof.Machine

variable {cal : CalRecord} {w : WeighCtx} {sum g : Int}

/-! ### Rounding (00 Rounding) -/

/-- A value rounded half away from zero is within half a unit. -/
theorem roundHalfAway_bound (num : Int) {den : Nat} (h : 0 < den) :
    2 * ((den : Int) * roundHalfAway num den - num).natAbs ≤ den := by
  unfold roundHalfAway
  dsimp only
  generalize hq : (2 * num.natAbs + den) / (2 * den) = q
  have hlow : 2 * (den * q) ≤ 2 * num.natAbs + den := by
    have := Nat.mul_div_le (2 * num.natAbs + den) (2 * den)
    rwa [hq, Nat.mul_assoc] at this
  have hhigh : 2 * num.natAbs + den < 2 * (den * q) + 2 * den := by
    have := Nat.lt_mul_div_succ (2 * num.natAbs + den) (by omega : 0 < 2 * den)
    rw [hq, Nat.mul_assoc] at this
    linarith [Nat.mul_succ den q]
  have hcast : (den : Int) * (q : Int) = ((den * q : Nat) : Int) := (Nat.cast_mul den q).symm
  split
  · rw [mul_neg, hcast]
    omega
  · rw [hcast]
    omega

/-! ### A legal net (R38 to R40) -/

theorem stateMessage_none {state : WeighState} (h : stateMessage state = none) : state = .motion ∨ state = .stable := by
  cases state <;> simp_all [stateMessage]

/-- A result with no message passed every check of R40. -/
theorem priceableMessage_none {cal : CalFields} {state : WeighState} {x : Weights}
    (h : priceableMessage cal state x = none) :
    state = .stable ∧ x.gross ≤ 10 * (cal.max : Int) ∧ 20 * (cal.e1 : Int) ≤ x.d := by
  unfold priceableMessage at h
  split at h
  · cases h
  · split_ifs at h with hstable hmax hmin
    exact ⟨not_not.mp hstable, Int.not_lt.mp hmax, Int.not_lt.mp hmin⟩

theorem weightsOf_d (cal : CalFields) (tare : Tare) (gross : Int) (stable : Bool) (he1 : 0 < cal.e1)
    (he2 : 0 < cal.e2) :
    let x := weightsOf cal tare gross stable
    let e := divisionOf cal x.netRange
    (e : Int) ∣ x.d ∧ 2 * (10 * x.d - x.net).natAbs ≤ 10 * e := by
  intro x e
  have hpos : 0 < e := by
    show 0 < divisionOf cal _
    cases x.netRange
    · exact he1
    · exact he2
  have hd : x.d = (e : Int) * roundHalfAway x.net (10 * e) := rfl
  refine ⟨⟨_, hd⟩, ?_⟩
  have hbound := roundHalfAway_bound x.net (by omega : 0 < 10 * e)
  rw [hd, ← Int.mul_assoc]
  exact_mod_cast hbound

/-! ### The pass by the gross it computes (R27 to R30) -/

theorem weighPass_overload (hg : grossOf cal.toCalFields sum w.zo = g) (h : overloadLimit cal.toCalFields < g) :
    weighPass cal sum w =
      { w with state := .overload, band := [], latest := some (blankResult .overload) } := by
  simp only [weighPass, hg]
  exact if_pos h

theorem weighPass_underload (hg : grossOf cal.toCalFields sum w.zo = g) (hhigh : g ≤ overloadLimit cal.toCalFields)
    (h : g < underloadLimit cal.toCalFields) : weighPass cal sum w =
      { w with state := .underload, band := [], latest := some (blankResult .underload) } := by
  simp only [weighPass, hg]
  exact (if_neg (Int.not_lt.mpr hhigh)).trans (if_pos h)

/-- The state that an in-limit gross brings. -/
def inLimitState (pending stable : Bool) : WeighState :=
  if pending then .initialZero else if stable then .stable else .motion

theorem weighPass_inLimits (hg : grossOf cal.toCalFields sum w.zo = g) (hhigh : g ≤ overloadLimit cal.toCalFields)
    (hlow : underloadLimit cal.toCalFields ≤ g) :
    let stable := bandStable cal.toCalFields (pushBand cal.toCalFields w.band g)
    let state := inLimitState w.pendingZero stable
    weighPass cal sum w = { w with
      state := state
      band := pushBand cal.toCalFields w.band g
      zo := trackedZero cal sum g state w
      latest := some (resultOf cal.toCalFields state w.tare g stable) } := by
  simp only [weighPass, hg]
  exact (if_neg (Int.not_lt.mpr hhigh)).trans (if_neg (Int.not_lt.mpr hlow))

theorem trackedZero_cases (cal : CalRecord) (sum g : Int) (state : WeighState) (w : WeighCtx) :
    trackedZero cal sum g state w = w.zo ∨
      trackedZero cal sum g state w = windowAverage cal.toCalFields sum - cal.zero := by
  unfold trackedZero
  dsimp only
  split
  · exact .inr rfl
  · exact .inl rfl

/-- The offset a pass leaves is the old one, or the one that tracking takes. -/
theorem weighPass_zo (cal : CalRecord) (sum : Int) (w : WeighCtx) : (weighPass cal sum w).zo = w.zo ∨
    (weighPass cal sum w).zo = windowAverage cal.toCalFields sum - cal.zero := by
  unfold weighPass
  dsimp only
  split
  · exact .inl rfl
  · split
    · exact .inl rfl
    · exact trackedZero_cases _ _ _ _ _

theorem bandStable_iff (cal : CalFields) (band : List Int) : bandStable cal band = true ↔
    band.length = cal.stability ∧ ∀ a ∈ band, ∀ b ∈ band, a - b ≤ 5 * (cal.e1 : Int) := by
  simp [bandStable]

theorem pushBand_eq (cal : CalFields) (band : List Int) (g : Int) :
    pushBand cal band g = (band ++ [g]).drop (band.length + 1 - cal.stability) := by
  rw [pushBand, List.length_append, List.length_singleton]

theorem weighWindow_high (h : Config.clipHigh ∈ w.window) : weighWindow cal w =
    { w with state := .overload, band := [], latest := some (blankResult .overload) } :=
  if_pos (List.contains_iff_mem.mpr h)

theorem weighWindow_low (hhigh : Config.clipHigh ∉ w.window) (h : Config.clipLow ∈ w.window) : weighWindow cal w =
    { w with state := .underload, band := [], latest := some (blankResult .underload) } :=
  (if_neg fun hc => hhigh (List.contains_iff_mem.mp hc)).trans (if_pos (List.contains_iff_mem.mpr h))

theorem weighWindow_clear (hhigh : Config.clipHigh ∉ w.window) (hlow : Config.clipLow ∉ w.window) :
    weighWindow cal w = initialZero cal w.window.sum (weighPass cal w.window.sum w) := by
  refine ((if_neg fun hc => hhigh (List.contains_iff_mem.mp hc)).trans
    (if_neg fun hc => hlow (List.contains_iff_mem.mp hc))).trans ?_
  rw [windowSum_eq]

/-! ### The initial zero (R31) -/

theorem initialZero_settled (h : w.pendingZero = false) : initialZero cal sum w = w := by
  unfold initialZero
  split
  · rfl
  · rw [if_neg (by rw [h]; simp)]

theorem initialZero_noWeights (h : latestWeights w = none) : initialZero cal sum w = w := by
  rw [initialZero, h]

theorem initialZero_some {x : Weights} (h : latestWeights w = some x) : initialZero cal sum w =
    if w.pendingZero ∧ x.stable ∧ inZeroRange cal.toCalFields x.gross then
      weighPass cal sum { w with
        zo := windowAverage cal.toCalFields sum - cal.zero, zi := windowAverage cal.toCalFields sum - cal.zero
        pendingZero := false, band := [] }
    else w := by
  rw [initialZero, h]

/-! ### O42 -/

/-- The band with the gross of the window. -/
def bandWith (cal : CalRecord) (w : WeighCtx) (g : Int) : List Int :=
  (w.band ++ [g]).drop (w.band.length + 1 - cal.stability)

theorem inLimits_iff : (-200 * (cal.e1 : Int) ≤ g ∧ g ≤ 10 * ((cal.max : Int) + 9 * (eTop cal.toCalFields : Nat))) ↔
    underloadLimit cal.toCalFields ≤ g ∧ g ≤ overloadLimit cal.toCalFields := by
  unfold underloadLimit overloadLimit
  constructor <;> rintro ⟨hlow, hhigh⟩ <;> constructor <;> omega

section
variable (hlow : underloadLimit cal.toCalFields ≤ g) (hhigh : g ≤ overloadLimit cal.toCalFields)
  (hg : grossOf cal.toCalFields sum w.zo = g)
include hlow hhigh hg

/-- Stages 3 to 13 of an in-limit window with no initial zero pending. -/
theorem weighPass_settled (hpending : w.pendingZero = false) :
    let stable := bandStable cal.toCalFields (bandWith cal w g)
    let state := if stable then WeighState.stable else .motion
    weighPass cal sum w = { w with
      state := state
      band := bandWith cal w g
      zo := trackedZero cal sum g state w
      latest := some (resultOf cal.toCalFields state w.tare g stable) } := by
  intro stable state
  have hstate : inLimitState w.pendingZero stable = state := by rw [hpending]; rfl
  rw [weighPass_inLimits hg hhigh hlow, pushBand_eq]
  exact congrArg (fun st : WeighState => ({ w with
      state := st
      band := bandWith cal w g
      zo := trackedZero cal sum g st w
      latest := some (resultOf cal.toCalFields st w.tare g stable) } : WeighCtx)) hstate

/-- Stages 3 to 13 of an in-limit window while an initial zero is pending: nothing tracks. -/
theorem weighPass_pending (hpending : w.pendingZero = true) :
    let stable := bandStable cal.toCalFields (bandWith cal w g)
    weighPass cal sum w = { w with
      state := .initialZero
      band := bandWith cal w g
      latest := some (resultOf cal.toCalFields .initialZero w.tare g stable) } := by
  intro stable
  have hstate : inLimitState w.pendingZero stable = .initialZero := by rw [hpending]; rfl
  have hzo : trackedZero cal sum g .initialZero w = w.zo := if_neg fun h => by cases h.2.1
  rw [weighPass_inLimits hg hhigh hlow, pushBand_eq]
  refine (congrArg (fun st : WeighState => ({ w with
      state := st
      band := bandWith cal w g
      zo := trackedZero cal sum g st w
      latest := some (resultOf cal.toCalFields st w.tare g stable) } : WeighCtx)) hstate).trans ?_
  rw [hzo]

end

/-- Beyond the limits a pass keeps the offset and carries no weights. -/
theorem weighPass_outside (hg : grossOf cal.toCalFields sum w.zo = g)
    (h : ¬ (underloadLimit cal.toCalFields ≤ g ∧ g ≤ overloadLimit cal.toCalFields)) :
    (weighPass cal sum w).zo = w.zo ∧ latestWeights (weighPass cal sum w) = none := by
  by_cases hover : overloadLimit cal.toCalFields < g
  · rw [weighPass_overload hg hover]
    exact ⟨rfl, rfl⟩
  · have hhigh := Int.not_lt.mp hover
    rw [weighPass_underload hg hhigh (Int.not_le.mp fun hlow => h ⟨hlow, hhigh⟩)]
    exact ⟨rfl, rfl⟩

/-- The band of one gross is never full at a stability of 2 and more. -/
theorem single_not_stable (h : 2 ≤ cal.stability) (g : Int) : bandStable cal.toCalFields [g] = false := by
  refine Bool.eq_false_iff.mpr fun hs => ?_
  have hlength := ((bandStable_iff _ _).mp hs).1
  rw [List.length_singleton] at hlength
  omega

/-- The window weighed once more at the initial zero taken, as the first entry of an empty band (R31). -/
theorem initialZero_weighs {u v : WeighCtx} (hstability : 2 ≤ cal.stability)
    (hv : v = weighPass cal sum { u with
      zo := windowAverage cal.toCalFields sum - cal.zero, zi := windowAverage cal.toCalFields sum - cal.zero
      pendingZero := false, band := [] }) :
    let offset := windowAverage cal.toCalFields sum - cal.zero
    let g := grossOf cal.toCalFields sum offset
    v.pendingZero = false ∧ v.zo = offset ∧ v.zi = offset ∧
      (-200 * (cal.e1 : Int) ≤ g ∧ g ≤ 10 * ((cal.max : Int) + 9 * (eTop cal.toCalFields : Nat)) →
        v.state = .motion ∧ v.band = [g] ∧ ∃ r x, v.latest = some r ∧ r.weights = some x ∧ x.gross = g) := by
  intro offset g
  generalize hz : ({ u with zo := offset, zi := offset, pendingZero := false, band := [] } : WeighCtx) = z at hv
  have hmark : z.pendingZero = false := by rw [← hz]
  have hband : bandWith cal z g = [g] := by
    rw [bandWith, ← hz, List.nil_append, List.length_nil, show 0 + 1 - cal.stability = 0 by omega, List.drop_zero]
  obtain ⟨-, -, hzi, hkept, -⟩ := weighPass_kept cal sum z
  subst hv
  refine ⟨hkept.trans hmark, ?_, hzi.trans (by rw [← hz]), fun hin => ?_⟩
  · obtain h | h := weighPass_zo cal sum z
    · rw [h, ← hz]
    · exact h
  · obtain ⟨hlow, hhigh⟩ := inLimits_iff.mp hin
    have hpass := weighPass_settled hlow hhigh (show grossOf cal.toCalFields sum z.zo = g by rw [← hz]) hmark
    rw [hband, single_not_stable hstability] at hpass
    rw [hpass]
    exact ⟨rfl, rfl, _, _, rfl, rfl, rfl⟩

/-- Settles O42. -/
theorem weighingStagesMakeLegalWeights : Obligations.WeighingStagesMakeLegalWeights := by
  refine ⟨fun cal w hlength hstability hclipHigh hclipLow hpending => ?judged,
    fun cal state tare gross stable x he1 he2 hmessage hx => ?legal,
    fun cal w => ⟨fun h => weighWindow_high h, fun hhigh h => weighWindow_low hhigh h⟩,
    fun cal w hlength hstability hclipHigh hclipLow => ?zero⟩
  case judged =>
    intro g eTop' band stable v
    have hv : v = weighPass cal w.window.sum w := by
      show weighWindow cal w = _
      rw [weighWindow_clear hclipHigh hclipLow,
        initialZero_settled ((weighPass_kept cal _ w).2.2.2.1.trans hpending)]
    have hg : grossOf cal.toCalFields w.window.sum w.zo = g := rfl
    refine ⟨fun hover => ?_, fun hunder hin => ?_, fun hlow hhigh => ?_⟩
    · rw [hv, weighPass_overload hg hover]
      exact ⟨rfl, rfl, rfl⟩
    · rw [hv, weighPass_underload hg hin (by unfold underloadLimit; omega)]
      exact ⟨rfl, rfl⟩
    · obtain ⟨hlow, hhigh⟩ := inLimits_iff.mp ⟨hlow, hhigh⟩
      have hpass := weighPass_settled hlow hhigh hg hpending
      have hstable := bandStable_iff cal.toCalFields (bandWith cal w g)
      rw [hv, hpass]
      exact ⟨rfl, fun h => if_pos (hstable.mpr h), fun h => if_neg (fun hb => h (hstable.mp hb)), rfl, rfl, rfl, _, _, rfl,
        rfl, rfl, rfl⟩
  case legal =>
    obtain rfl : weightsOf cal tare gross stable = x := Option.some.inj hx
    obtain ⟨hstate, hmax, hmin⟩ := priceableMessage_none hmessage
    obtain ⟨hdvd, hclose⟩ := weightsOf_d cal tare gross stable he1 he2
    refine ⟨hstate, rfl, hmax, hmin, rfl, fun hone => ?_, fun htwo hbeyond => ?_⟩
    · have hrange : (weightsOf cal tare gross stable).netRange = .one := if_pos hone
      rw [hrange] at hdvd hclose
      exact ⟨hrange, hdvd, hclose⟩
    · have hrange : (weightsOf cal tare gross stable).netRange = .two := if_neg (not_or.mpr ⟨htwo, Nat.not_le.mpr hbeyond⟩)
      rw [hrange] at hdvd hclose
      exact ⟨hrange, hdvd, hclose⟩
  case zero =>
    intro gross eTop' inLimits g band stable nearEmpty offset tracks v
    have hv : v = initialZero cal w.window.sum (weighPass cal w.window.sum w) := weighWindow_clear hclipHigh hclipLow
    have hg : grossOf cal.toCalFields w.window.sum w.zo = g := rfl
    have hstable : bandStable cal.toCalFields (bandWith cal w g) = true ↔ stable := bandStable_iff _ _
    have hnear : inZeroRange cal.toCalFields g = true ↔ nearEmpty := decide_eq_true_iff
    have hlimits : ∀ {y}, inLimits y ↔ underloadLimit cal.toCalFields ≤ y ∧ y ≤ overloadLimit cal.toCalFields :=
      inLimits_iff
    obtain ⟨-, -, hzi, hmark, -⟩ := weighPass_kept cal w.window.sum w
    refine ⟨fun hpending => ?pending, fun hsettled => ?settled⟩
    case settled =>
      rw [initialZero_settled (hmark.trans hsettled)] at hv
      by_cases hin : inLimits g
      · obtain ⟨hlow, hhigh⟩ := hlimits.mp hin
        have hzo := congrArg WeighCtx.zo (hv.trans (weighPass_settled hlow hhigh hg hsettled))
        have htracks : (cal.tracking ∧ (if bandStable cal.toCalFields (bandWith cal w g) then WeighState.stable
            else .motion) = .stable ∧ w.tare.kind = .none ∧ nearZero cal.toCalFields g ∧
              meetsZeroLimit cal.toCalFields offset w.zi) ↔ tracks := by
          have hstate (b : Bool) : (if b then WeighState.stable else .motion) = .stable ↔ b = true := by
            cases b <;> decide
          rw [hstate, hstable]
          exact ⟨fun ⟨htracking, hst, htare, hzero, hlimit⟩ =>
              ⟨htracking, hin, hst, htare, of_decide_eq_true hzero, of_decide_eq_true hlimit⟩,
            fun ⟨htracking, _, hst, htare, hzero, hlimit⟩ =>
              ⟨htracking, hst, htare, decide_eq_true hzero, decide_eq_true hlimit⟩⟩
        exact ⟨fun h => hzo.trans (if_pos (htracks.mpr h)), fun h => hzo.trans (if_neg (mt htracks.mp h))⟩
      · rw [hv, (weighPass_outside hg (mt hlimits.mpr hin)).1]
        exact ⟨fun h => absurd h.2.1 hin, fun _ => rfl⟩
    case pending =>
      by_cases hin : inLimits g
      · obtain ⟨hlow, hhigh⟩ := hlimits.mp hin
        have hpass := weighPass_pending hlow hhigh hg hpending
        have hweights : latestWeights (weighPass cal w.window.sum w) = some (weightsOf cal.toCalFields w.tare g
            (bandStable cal.toCalFields (bandWith cal w g))) := by rw [hpass]; rfl
        rw [initialZero_some hweights, hmark, hpending] at hv
        have hcond : (true = true ∧ bandStable cal.toCalFields (bandWith cal w g) = true ∧
            inZeroRange cal.toCalFields g = true) ↔ stable ∧ nearEmpty := by
          rw [hstable, hnear]
          exact ⟨fun h => h.2, fun h => ⟨rfl, h⟩⟩
        refine ⟨fun _ hst hempty => ?_, fun _ hnot => ?_, fun hnot => ?_⟩
        · have htaken := hv.trans (if_pos (hcond.mpr ⟨hst, hempty⟩))
          exact initialZero_weighs hstability htaken
        · rw [hv.trans (if_neg (mt hcond.mp hnot)), hpass]
          exact ⟨rfl, rfl, _, rfl, rfl⟩
        · rw [hv.trans (if_neg (mt hcond.mp fun h => hnot ⟨hin, h⟩))]
          exact ⟨hmark.trans hpending, by rw [hpass], hzi⟩
      · obtain ⟨hzo, hweights⟩ := weighPass_outside hg (mt hlimits.mpr hin)
        rw [initialZero_noWeights hweights] at hv
        rw [hv]
        exact ⟨fun h => absurd h hin, fun h => absurd h hin, fun _ => ⟨hmark.trans hpending, hzo, hzi⟩⟩

end Sys2Proof.Machine
end

section
/-! PROOFS. The key gate, and operators who log in and out at the stations (R11, R14 to R16). -/

namespace Sys2Proof.Machine

variable {s u base : State} {p q : CounterPort} {c : Port} {m : MsgCode} {n : Nat} {k : OperatorNo}

/-! ### The end of an event at one station -/

theorem flush_port_shown (hs : ScaleOnline s q) (hdue : (s.port q).displayDue = true) :
    (flush s).port q = { s.port q with
      displayDue := false, tx := (s.port q).tx ++ [.display (displayOf (flush s) q)] } := by
  have hport := (flush_port s q).trans (flushPort_of_scaleOnline hs hdue)
  rw [displayOf_congr s (flush s) q rfl ⟨false, _, _, hport⟩, hport]

theorem flush_port_kept (hdue : (s.port q).displayDue = false) : (flush s).port q = s.port q :=
  (flush_port s q).trans (flushPort_of_due_false s q hdue)

/-! ### The gate (R11) -/

theorem salesGate_refused (h : c.sale = .noOperator ∧ m = .loginRequired ∨ c.sale = .printing ∧ m = .busy ∨
    c.sale = .calibrating ∧ m = .calMode) : salesGate c = some m := by
  obtain ⟨h, rfl⟩ | ⟨h, rfl⟩ | ⟨h, rfl⟩ := h <;> rw [salesGate, h]

theorem logGate_busy (h : c.sale = .item ∨ c.sale = .printing) (taken : Bool) : logGate c taken = some .busy := by
  obtain h | h := h <;> rw [logGate, h]

/-- Each sales key is a key event of its own behind the gate for sales keys. -/
theorem salesKey_event {i : Instr} (h : SalesKey p i) (s : State) :
    ∃ own, exec i s = .next (keyEvent p salesGate own s) := by
  obtain h | ⟨n, h⟩ := h <;> simp only [List.mem_cons, List.not_mem_nil, or_false] at h
  · obtain rfl | rfl | rfl | rfl | rfl | rfl | rfl | rfl | rfl | rfl | rfl := h <;> exact ⟨_, rfl⟩
  · obtain rfl | rfl | rfl | rfl | rfl | rfl | rfl := h <;> exact ⟨_, rfl⟩

/-! ### LOGIN (R15) -/

theorem stationOf_some {k : OperatorNo} (h : (s.port q).operator = some k)
    (honly : ∀ x, x ≠ q → (s.port x).operator ≠ some k) : stationOf s k = some q := by
  cases hfind : stationOf s k with
  | none => exact absurd h ((stationOf_eq_none_iff s k).mp hfind q)
  | some x =>
    have hx := List.find?_some hfind
    refine congrArg some (by_contra fun hne => honly x hne ?_)
    simpa using hx

theorem loginRefusal_unknown (h : ∀ r, s.ret.operators[k] = some r → r.enabled = false) :
    loginRefusal s p k.number = some .operatorUnknown := by
  have hany : ¬ (s.ret.operators[k]).any (·.enabled) = true := by
    cases hr : s.ret.operators[k] with
    | none => simp
    | some r => simp [h r hr]
  rw [loginRefusal, operatorOfNumber_number]
  exact if_neg hany

section
variable {r : OperatorRecord} (hr : s.ret.operators[k] = some r) (henabled : r.enabled = true)
include hr henabled

theorem loginRefusal_enabled : loginRefusal s p k.number =
    (stationOf s k).bind fun q => if q ≠ p ∧ ((s.port q).sale = .item ∨ (s.port q).sale = .printing) then
      some .operatorBusy else none := by
  have hany : (s.ret.operators[k]).any (·.enabled) = true := by rw [hr]; exact henabled
  rw [loginRefusal, operatorOfNumber_number]
  refine (if_pos hany).trans ?_
  cases stationOf s k <;> rfl

theorem loginOp_nowhere (h : ∀ q : CounterPort, (s.port q).operator ≠ some k) :
    loginOp p k.number s = loginAt p k s := by
  have hnone := (stationOf_eq_none_iff s k).mpr h
  have hrefusal := loginRefusal_enabled (p := p) hr henabled
  rw [hnone] at hrefusal
  simp only [loginOp, show loginRefusal s p k.number = none from hrefusal, operatorOfNumber_number, hnone]

variable (hne : q ≠ p) (hstation : stationOf s k = some q)
include hne hstation

theorem loginOp_busy (hsale : (s.port q).sale = .item ∨ (s.port q).sale = .printing) :
    loginOp p k.number s = refuseKey p .operatorBusy s := by
  have hrefusal := loginRefusal_enabled (p := p) hr henabled
  rw [hstation, Option.bind_some, if_pos ⟨hne, hsale⟩] at hrefusal
  simp only [loginOp, hrefusal]

theorem loginOp_taken (hsale : (s.port q).sale = .idle) :
    loginOp p k.number s = loginAt p k (logoutAt q s) := by
  have hrefusal := loginRefusal_enabled (p := p) hr henabled
  rw [hstation, Option.bind_some, if_neg (by rw [hsale]; simp)] at hrefusal
  simp only [loginOp, hrefusal, operatorOfNumber_number, hstation]
  rw [if_pos hne]

end

theorem loginAt_idle (s : State) (p : CounterPort) (hsale : c.sale = .noOperator) (hswitch : c.calSwitch = .off) :
    loginAt p k (s.setPort p c) =
      s.setPort p { c with operator := some k, sale := .idle, held := none, displayDue := true } := by
  have hcond : ((s.setPort p c).port p).sale = .noOperator ∧ ((s.setPort p c).port p).calSwitch = .off := by
    rw [State.port_setPort_self]
    exact ⟨hsale, hswitch⟩
  rw [loginAt, if_pos hcond, modPort_setPort,
    setSale_moves (c := { c with operator := some k, held := none, displayDue := true }) s p hsale (by decide)]

theorem loginAt_kept (s : State) (p : CounterPort) (hsale : c.sale ≠ .noOperator) :
    loginAt p k (s.setPort p c) = s.setPort p { c with operator := some k, held := none, displayDue := true } := by
  have hcond : ¬ (((s.setPort p c).port p).sale = .noOperator ∧ ((s.setPort p c).port p).calSwitch = .off) := by
    rw [State.port_setPort_self]
    exact fun h => hsale h.1
  rw [loginAt, if_neg hcond, modPort_setPort]

theorem logoutAt_idle (hsale : (s.port q).sale = .idle) (hservice : (s.port q).service ≠ .asking) :
    logoutAt q s = s.setPort q { s.port q with
      operator := none, sale := .noOperator, held := none, displayDue := true } := by
  rw [logoutAt, if_pos hsale, show modPort q _ s = s.setPort q { s.port q with operator := none, displayDue := true } from rfl,
    leaveCalling_setPort, if_neg hservice,
    setSale_moves (c := { s.port q with operator := none, displayDue := true }) s q hsale (by decide)]

/-! ### LOGOUT (R16) -/

theorem logoutOp_idle (s : State) (p : CounterPort) (hsale : c.sale = .idle) (hservice : c.service ≠ .asking) :
    logoutOp p (s.setPort p c) =
      s.setPort p { c with operator := none, sale := .noOperator, held := none, displayDue := true } := by
  rw [logoutOp, State.port_setPort_self, if_pos hsale]
  rw [modPort_setPort, leaveCalling_setPort, if_neg hservice,
    setSale_moves (c := { c with operator := none, held := none, displayDue := true }) s p hsale (by decide)]

theorem logoutOp_asking (s : State) (p : CounterPort) (hsale : c.sale = .idle) (hservice : c.service = .asking) :
    logoutOp p (s.setPort p c) =
      ({ s with tickets := { s.tickets with calling := s.tickets.calling.filter (· ≠ p) } } : State).setPort p
        { c with operator := none, sale := .noOperator, service := .free, held := none, displayDue := true } := by
  rw [logoutOp, State.port_setPort_self, if_pos hsale]
  dsimp only
  rw [modPort_setPort, leaveCalling_setPort, if_pos hservice,
    setSale_moves (c := { c with operator := none, service := .free, held := none, displayDue := true })
      { s with tickets := { s.tickets with calling := s.tickets.calling.filter (· ≠ p) } } p hsale (by decide)]

/-! ### O45 -/

theorem reloaded_operator (s : State) (p q : CounterPort) :
    ((s.setPort p (reloadedPort s p)).port q).operator = (s.port q).operator := by
  rw [State.port_setPort]
  split
  · next h => rw [h]; rfl
  · rfl

/-- A LOGIN that its gate passes and its owner refuses. -/
theorem login_refused (hq : Quiet s) (hs : ScaleOnline s p) (hgate : logGate (reloadedPort s p) true = none)
    (h : loginOp p n (s.setPort p (reloadedPort s p)) = refuseKey p m (s.setPort p (reloadedPort s p))) :
    ∃ t, exec (.login p n) s = .next t ∧ KeyAnswered s t p { s.port p with held := some m } :=
  key_refused (gate := (logGate · true)) rfl hs hq hgate h

/-- Settles O45. -/
theorem gateAndLoginMoveOperator : Obligations.GateAndLoginMoveOperator := by
  intro s p hq hs
  refine ⟨fun i m h => ?gate, fun k r hr henabled => ⟨fun hnowhere => ⟨fun hsale hswitch => ?opens, fun hsale => ?joins⟩,
    fun q hne hoperator honly hidle => ⟨fun hsale => ?busy, fun hsq hsaleq hserviceq => ?moves⟩⟩,
    fun k hunknown hidle => ?unknown, fun hidle hasking => ?leavesAsking, fun hidle hservice => ?leaves⟩
  case gate =>
    obtain ⟨hkey, h⟩ | ⟨rfl | ⟨n, rfl⟩, rfl, h⟩ | ⟨rfl, rfl, h⟩ := h
    · obtain ⟨own, hexec⟩ := salesKey_event hkey s
      exact key_blocked hexec hs hq (salesGate_refused (c := reloadedPort s p) h)
    · exact key_blocked (gate := (logGate · false)) rfl hs hq (logGate_busy (c := reloadedPort s p) h false)
    · exact key_blocked (gate := (logGate · true)) rfl hs hq (logGate_busy (c := reloadedPort s p) h true)
    · refine key_blocked (gate := (logGate · false)) rfl hs hq ?_
      rw [logGate, show (reloadedPort s p).sale = _ from h]
      rfl
  case unknown =>
    refine login_refused hq hs (by rw [logGate, show (reloadedPort s p).sale = _ from hidle]) ?_
    simp only [loginOp, loginRefusal_unknown (s := s.setPort p (reloadedPort s p)) hunknown]
  case leavesAsking =>
    refine key_taken (gate := (logGate · false)) (own := logoutOp p) (b := true) (base := { s with tickets := _ }) rfl hs
      (by rw [logGate, show (reloadedPort s p).sale = _ from hidle]) hq rfl ⟨rfl, rfl, rfl, rfl⟩ (hq p) ?_
    exact logoutOp_asking (c := reloadedPort s p) s p hidle hasking
  case leaves =>
    refine key_taken (gate := (logGate · false)) (own := logoutOp p) (b := true) rfl hs
      (by rw [logGate, show (reloadedPort s p).sale = _ from hidle]) hq rfl ⟨rfl, rfl, rfl, rfl⟩ (hq p) ?_
    exact logoutOp_idle (c := reloadedPort s p) s p hidle hservice
  case opens =>
    refine key_taken (gate := (logGate · true)) (own := loginOp p k.number) (b := true) rfl hs
      (by rw [logGate, show (reloadedPort s p).sale = _ from hsale]; rfl) hq rfl ⟨rfl, rfl, rfl, rfl⟩ (hq p) ?_
    rw [loginOp_nowhere (s := s.setPort p (reloadedPort s p)) hr henabled fun q => by
      rw [reloaded_operator]; exact hnowhere q]
    exact loginAt_idle (c := reloadedPort s p) s p hsale hswitch
  case joins =>
    refine key_taken (gate := (logGate · true)) (own := loginOp p k.number) (b := true) rfl hs
      (by obtain h | h := hsale <;> rw [logGate, show (reloadedPort s p).sale = _ from h]) hq rfl
      ⟨rfl, rfl, rfl, rfl⟩ (hq p) ?_
    rw [loginOp_nowhere (s := s.setPort p (reloadedPort s p)) hr henabled fun q => by
      rw [reloaded_operator]; exact hnowhere q]
    refine loginAt_kept (c := reloadedPort s p) s p ?_
    obtain h | h := hsale <;> rw [show (reloadedPort s p).sale = _ from h] <;> decide
  all_goals
    have hstation : stationOf (s.setPort p (reloadedPort s p)) k = some q := stationOf_some
      (by rw [reloaded_operator]; exact hoperator) (fun x hx => by rw [reloaded_operator]; exact honly x hx)
    have hportq : (s.setPort p (reloadedPort s p)).port q = s.port q := State.port_setPort_ne _ _ hne
    have hgate : logGate (reloadedPort s p) true = none := by rw [logGate, show (reloadedPort s p).sale = _ from hidle]
  case busy =>
    refine login_refused hq hs hgate ?_
    exact loginOp_busy (s := s.setPort p (reloadedPort s p)) hr henabled hne hstation (by rw [hportq]; exact hsale)
  case moves =>
    let d : Port := { s.port q with operator := none, sale := .noOperator, held := none, displayDue := true }
    let c : Port := { reloadedPort s p with operator := some k, held := none, displayDue := true }
    let v := ((s.setPort p (reloadedPort s p)).setPort q d).setPort p c
    have hself : ((s.setPort p (reloadedPort s p)).setPort q d).port p = reloadedPort s p := by
      rw [State.port_setPort_ne _ _ hne.symm, State.port_setPort_self]
    have hlogin : loginOp p k.number (s.setPort p (reloadedPort s p)) = v := by
      rw [loginOp_taken (s := s.setPort p (reloadedPort s p)) hr henabled hne hstation (by rw [hportq]; exact hsaleq),
        logoutAt_idle (by rw [hportq]; exact hsaleq) (by rw [hportq]; exact hserviceq), hportq,
        ← State.setPort_self (State.setPort _ q _) p, hself]
      exact loginAt_kept _ p (by rw [show (reloadedPort s p).sale = _ from hidle]; decide)
    have hvp : v.port p = c := State.port_setPort_self ..
    have hvq : v.port q = d := by
      rw [State.port_setPort_ne _ _ hne, State.port_setPort_self]
    have hvx : ∀ x, x ≠ p → x ≠ q → v.port x = s.port x := fun x hxp hxq => by
      rw [State.port_setPort_ne _ _ hxp, State.port_setPort_ne _ _ hxq, State.port_setPort_ne _ _ hxp]
    refine ⟨flush v, ?_, rfl, fun x hxp hxq => ?_, ?_, ?_⟩
    · show execLogin p k.number s = _
      rw [execLogin, keyEvent_passed hs hgate, hlogin, markDisplay_setPort]
    · rw [flush_port_kept (by rw [hvx x hxp hxq]; exact hq x), hvx x hxp hxq]
    · rw [flush_port_shown (by unfold ScaleOnline; rw [hvq]; exact hsq) (by rw [hvq]), hvq, ← hq q]
    · rw [flush_port_shown (by unfold ScaleOnline; rw [hvp]; exact hs) (by rw [hvp]), hvp, ← hq p]
      rfl

end Sys2Proof.Machine
end

section
/-! PROOFS. VOID and REPRINT: the checks of R121 and R123 in order, and what an accepted key leaves (R122, R123). -/

namespace Sys2Proof.Machine

variable {s u base : State} {p q : CounterPort} {c : Port} {m : MsgCode} {n : Nat} {k : OperatorNo} {e : LogEntry}
  {sr : SaleRecord} {o : Order} {l : OrderLine}

theorem logEntry_none_iff : logEntry s n = none ↔ ∀ x ∈ s.log, x.serial ≠ n := by
  simp [logEntry]

theorem logEntry_serial (h : logEntry s n = some e) : e.serial = n := by
  simpa using List.find?_some h

/-! ### The checks of R121 -/

theorem voidTarget_missing (h : logEntry s n = none) : voidTarget s p n = .error .notInLog := by
  rw [voidTarget, h]

theorem voidTarget_already (he : logEntry s n = some e) (h : e.state = .voided ∨ e.state = .unprinted) :
    voidTarget s p n = .error .alreadyVoid := by
  rw [voidTarget, he]
  exact if_pos h

section
variable (he : logEntry s n = some e) (hlive : ¬ (e.state = .voided ∨ e.state = .unprinted))
include he hlive

theorem voidTarget_notVoidable
    (h : e.sale = none ∨ e.state = .posted ∨ e.station ≠ p ∨ entryOrderOpen s p e = false) :
    voidTarget s p n = .error .notVoidable := by
  rw [voidTarget, he]
  refine (if_neg hlive).trans ?_
  cases hsale : e.sale with
  | none => rfl
  | some sr =>
    obtain h | h := h
    · rw [hsale] at h
      cases h
    · exact if_pos (by simpa using h)

theorem voidTarget_sale (hsale : e.sale = some sr) (hposted : e.state ≠ .posted) (hstation : e.station = p)
    (horder : entryOrderOpen s p e = true) :
    voidTarget s p n = if mayVoid s p then .ok (e, sr) else .error .noPermission := by
  rw [voidTarget, he]
  refine (if_neg hlive).trans ?_
  rw [hsale]
  refine (if_neg (by simp [hposted, hstation, horder])).trans ?_
  cases mayVoid s p <;> rfl

end

theorem printed_live (h : e.state = .printed) : ¬ (e.state = .voided ∨ e.state = .unprinted) := by
  rw [h]
  decide

/-! ### The entry's order and the permission, at a port whose context is given -/

theorem entryOrderOpen_served {number : Nat} (he : e.order = some number) (hservice : c.service = .serving)
    (horder : orderOpenAt s.orders p = some o) (hnumber : o.number = number) (hl : l ∈ o.lines)
    (hserial : l.serial = e.serial) : entryOrderOpen (s.setPort p c) p e = true := by
  rw [entryOrderOpen, he]
  dsimp only
  rw [servedOrder_setPort, if_pos hservice, horder, Option.any_some, Bool.and_eq_true, List.any_eq_true]
  exact ⟨beq_iff_eq.mpr hnumber, l, hl, beq_iff_eq.mpr hserial⟩

theorem entryOrderOpen_elsewhere {number : Nat} (he : e.order = some number)
    (h : c.service ≠ .serving ∨ ∀ o, orderOpenAt s.orders p = some o → o.number ≠ number) :
    entryOrderOpen (s.setPort p c) p e = false := by
  rw [entryOrderOpen, he]
  dsimp only
  rw [servedOrder_setPort]
  obtain hservice | hother := h
  · rw [if_neg hservice]
    rfl
  · split
    · cases horder : orderOpenAt s.orders p with
      | none => rfl
      | some o =>
        rw [Option.any_some, show (o.number == number) = false from beq_eq_false_iff_ne.mpr (hother o horder),
          Bool.false_and]
    · rfl

theorem entryOrderOpen_none (he : e.order = none) : entryOrderOpen s p e = true := by
  rw [entryOrderOpen, he]

theorem mayVoid_setPort (s : State) (p : CounterPort) (c : Port) :
    mayVoid (s.setPort p c) p = (c.operator.bind fun k => s.ret.operators[k]).any (·.voidPermission) := by
  rw [mayVoid, State.port_setPort_self]
  rfl

theorem mayVoid_permitted {op : OperatorRecord} (hk : c.operator = some k) (hop : s.ret.operators[k] = some op)
    (h : op.voidPermission = true) : mayVoid (s.setPort p c) p = true := by
  rw [mayVoid_setPort, hk, Option.bind_some, hop, Option.any_some, h]

theorem mayVoid_refused (h : ∀ k op, c.operator = some k → s.ret.operators[k] = some op → op.voidPermission = false) :
    mayVoid (s.setPort p c) p = false := by
  rw [mayVoid_setPort]
  cases hk : c.operator with
  | none => rfl
  | some k =>
    rw [Option.bind_some]
    cases hop : s.ret.operators[k] with
    | none => rfl
    | some op => rw [Option.any_some, h k op hk hop]

/-! ### An accepted VOID (R122) -/

theorem withdrawReprints_setPort (s : State) (p : CounterPort) (c : Port) :
    withdrawReprints n (s.setPort p c) = (withdrawReprints n s).setPort p
      { c with slots := withdrawAt n s.ret.day.number c.slots } := by
  have hmap : ∀ (u : State) (x : CounterPort), (withdrawReprints n u).port x =
      { u.port x with slots := withdrawAt n u.ret.day.number (u.port x).slots } := fun u x => by
    simp [withdrawReprints, State.port]
  refine State.ext_ports _ _ (fun x => ?_) rfl
  rw [hmap, State.port_setPort, State.port_setPort]
  split
  · rfl
  · exact (hmap s x).symm

theorem markLineVoided_setPort {number : Nat} (ho : orderOf s.orders number = some o) (hl : l ∈ o.lines)
    (hserial : l.serial = n) (hvoided : l.voided = false) (c : Port) :
    markLineVoided number n true (s.setPort p c) =
      (modOrder number (fun x => { voidLine n x with idle := 0 }) s).setPort p c := by
  have hany : (o.lines.any fun l => l.serial == n && !l.voided) = true :=
    List.any_eq_true.mpr ⟨l, hl, by simp [hserial, hvoided]⟩
  rw [markLineVoided, State.setPort_orders, ho]
  exact if_pos hany

/-- The state an accepted VOID leaves, but for the copies it withdraws, its notice and the key's own port. -/
def voidedState (n : Nat) (p : CounterPort) (op : Option OperatorNo) (sr : SaleRecord) (orders : List Order)
    (s : State) : State :=
  { s with
    log := s.log.map fun x => if x.serial = n then { x with state := .voided } else x
    ret := countGrand { voids := 1, voidValue := sr.amounts.final } (countStation p { voids := 1 }
      (countOperator op { voids := 1, voidValue := sr.amounts.final } (moveSale false sr s.ret)))
    orders := orders }

/-- The orders with the line of an entry struck. -/
def struckOrders (n : Nat) (order : Option Nat) (orders : List Order) : List Order :=
  match order with
  | none => orders
  | some m => orders.map fun o => if o.number = m then { voidLine n o with idle := 0 } else o

/-- The line of the entry stands, unvoided, in its order. -/
def LineStands (s : State) (n : Nat) (order : Option Nat) : Prop :=
  ∀ number, order = some number → ∃ o l, orderOf s.orders number = some o ∧ l ∈ o.lines ∧ l.serial = n ∧
    l.voided = false

/-- An accepted VOID by the state `v` in which the line of the entry is struck. -/
theorem acceptVoid_of {v : State} (hnone : e.order = none → countVoid p (s.port p).operator sr.amounts.final
      (modRet (moveSale false sr) (modLog e.serial (fun x => { x with state := .voided }) s)) = v)
    (hsome : ∀ number, e.order = some number → markLineVoided number e.serial true (countVoid p (s.port p).operator
      sr.amounts.final (modRet (moveSale false sr) (modLog e.serial (fun x => { x with state := .voided }) s))) = v) :
    acceptVoid p e sr s =
      clearHeld p (notify (.labelVoided e.serial p (.key (s.port p).operator)) (withdrawReprints e.serial v)) := by
  unfold acceptVoid
  cases horder : e.order with
  | none =>
    obtain rfl := hnone horder
    rfl
  | some number =>
    obtain rfl := hsome number horder
    rfl

theorem acceptVoid_setPort (hserial : e.serial = n) (hlines : LineStands s n e.order) (c : Port) :
    acceptVoid p e sr (s.setPort p c) = (notify (.labelVoided n p (.key c.operator)) (withdrawReprints n
      (voidedState n p c.operator sr (struckOrders n e.order s.orders) s))).setPort p
        { c with slots := withdrawAt n s.ret.day.number c.slots, held := none, displayDue := true } := by
  subst hserial
  have hvoided := acceptVoid_of (p := p) (e := e) (sr := sr) (s := s.setPort p c)
    (v := (voidedState e.serial p c.operator sr (struckOrders e.serial e.order s.orders) s).setPort p c)
  rw [State.port_setPort_self] at hvoided
  rw [hvoided (fun horder => ?_) (fun number horder => ?_), withdrawReprints_setPort, notify_setPort, clearHeld_setPort]
  · rfl
  · rw [horder]
    rfl
  · obtain ⟨o, l, ho, hl, hls, hv⟩ := hlines number horder
    rw [horder]
    exact markLineVoided_setPort (s := voidedState e.serial p c.operator sr s.orders s) ho hl hls hv c

/-! ### REPRINT (R123) -/

theorem reprintRefusal_missing (h : logEntry s n = none) : reprintRefusal s p n = some .notInLog := by
  rw [reprintRefusal, h]

theorem reprintRefusal_notVoidable (he : logEntry s n = some e) (h : e.sale = none ∨ e.state ≠ .printed) :
    reprintRefusal s p n = some .notVoidable := by
  rw [reprintRefusal, he]
  exact if_pos (by simpa using h)

theorem reprintRefusal_printed (he : logEntry s n = some e) (hsale : e.sale = some sr) (hstate : e.state = .printed) :
    reprintRefusal s p n = if Config.maxReprints ≤ e.reprints then some .reprintLimit
      else if hasJob s p then some .busy else none := by
  rw [reprintRefusal, he]
  exact if_neg (by simp [hsale, hstate])

/-! ### O50 -/

section
variable (hready : KeyReady s p)
include hready

theorem void_refused (h : voidTarget (s.setPort p (reloadedPort s p)) p n = .error m) :
    ∃ t, exec (.void p n) s = .next t ∧ KeyAnswered s t p { s.port p with held := some m } := by
  refine idleKey_refused (own := voidOp p n) rfl hready ?_
  rw [voidOp, h]

theorem reprint_refused (h : reprintRefusal (s.setPort p (reloadedPort s p)) p n = some m) :
    ∃ t, exec (.reprint p n) s = .next t ∧ KeyAnswered s t p { s.port p with held := some m } := by
  refine idleKey_refused (own := reprintOp p n) rfl hready ?_
  rw [reprintOp, h]

theorem reprint_queued (h : reprintRefusal (s.setPort p (reloadedPort s p)) p n = none) :
    ∃ t, exec (.reprint p n) s = .next t ∧ KeyAnswered { s with composer := { s.composer with
        queue := s.composer.queue ++ [{ station := p, source := .reprint n }] } } t p
      { s.port p with held := if (s.port p).slots.free = [] then some .printerBusy else none } := by
  refine idleKey_taken (own := reprintOp p n) (b := true) (base := { s with composer := _ }) rfl hready hready.1 rfl
    ⟨rfl, rfl, rfl, rfl⟩ ?_
  rw [reprintOp, h]
  dsimp only
  rw [clearHeld_setPort, joinComposer_setPort]
  dsimp only
  rw [ite_self]
  rfl

theorem void_accepted (he : logEntry s n = some e) (hlines : LineStands s n e.order)
    (h : voidTarget (s.setPort p (reloadedPort s p)) p n = .ok (e, sr)) :
    ∃ t, exec (.void p n) s = .next t ∧
      KeyAnswered (notify (.labelVoided n p (.key (s.port p).operator)) (withdrawReprints n
        (voidedState n p (s.port p).operator sr (struckOrders n e.order s.orders) s))) t p
        { s.port p with slots := withdrawAt n s.ret.day.number (s.port p).slots, held := none } := by
  refine idleKey_taken (own := voidOp p n) (b := true) rfl hready ?_ (by rw [notify_ret]; rfl) ⟨rfl, rfl, rfl, rfl⟩ ?_
  · refine (notify_quiet_iff _ _).mpr fun x => ?_
    simp only [withdrawReprints, State.port, Fin.getElem_fin, Vector.getElem_map]
    exact hready.1 x
  · rw [voidOp, h]
    exact acceptVoid_setPort (c := reloadedPort s p) (logEntry_serial he) hlines

end

/-- Settles O50. -/
theorem voidReversesAndReprintQueues : Obligations.VoidReversesAndReprintQueues := by
  refine ⟨fun s p i hq hs hitem hi => ?busy, fun s p n hready => ⟨fun e sr he hsale => ?sold, fun e he => ?live,
    fun hmissing => ?missing⟩⟩
  case busy =>
    obtain ⟨n, rfl | rfl⟩ := hi <;> exact key_busy rfl hs hq hitem
  case missing =>
    have hnone := logEntry_none_iff.mpr hmissing
    exact ⟨void_refused hready (voidTarget_missing hnone), reprint_refused hready (reprintRefusal_missing hnone)⟩
  case sold =>
    have hentry : ∀ c : Port, logEntry (s.setPort p c) n = some e := fun _ => he
    intro openHere
    have hopen : openHere → entryOrderOpen (s.setPort p (reloadedPort s p)) p e = true := by
      rintro (hnone | ⟨o, l, hservice, horder, hnumber, -, hl, hls, -⟩)
      · exact entryOrderOpen_none hnone
      · exact entryOrderOpen_served (c := reloadedPort s p) hnumber hservice horder rfl hl
          (hls.trans (logEntry_serial he).symm)
    refine ⟨fun k op hstate hstation hhere hk hop hpermitted => ?_, fun hstate hstation hhere hrefused => ?_,
      fun hstate hlow hqueue hcurrent => ?_, fun hstate hlow hjob => ?_, fun hstate hhigh => ?_⟩
    · intro waits withdrawn reversed counted struck
      have hlines : LineStands s n e.order := fun number hnumber => by
        obtain hnone | ⟨o, l, -, -, hsome, hfound, hl, hls, hv⟩ := hhere
        · rw [hnone] at hnumber
          cases hnumber
        · obtain rfl : o.number = number := Option.some.inj (hsome.symm.trans hnumber)
          exact ⟨o, l, hfound, hl, hls, hv⟩
      have htarget := voidTarget_sale (s := s.setPort p (reloadedPort s p)) (p := p) (hentry _) (printed_live hstate) hsale
        (by rw [hstate]; decide) hstation (hopen hhere)
      rw [if_pos (mayVoid_permitted (c := reloadedPort s p) hk hop hpermitted)] at htarget
      have h := void_accepted hready he hlines htarget
      rw [hk] at h
      cases horder : e.order <;> rw [horder] at h <;> exact h
    · have htarget := voidTarget_sale (s := s.setPort p (reloadedPort s p)) (p := p) (hentry _) (printed_live hstate) hsale
        (by rw [hstate]; decide) hstation (hopen hhere)
      rw [mayVoid_refused (c := reloadedPort s p) hrefused, if_neg Bool.false_ne_true] at htarget
      exact void_refused hready htarget
    all_goals
      have hrefusal := reprintRefusal_printed (p := p) (hentry (reloadedPort s p)) hsale hstate
    · rw [if_neg (c := Config.maxReprints ≤ e.reprints) (Nat.not_le.mpr hlow),
        (hasJob_false_iff (s.setPort p _) p).mpr ⟨hqueue, hcurrent⟩] at hrefusal
      exact reprint_queued hready hrefusal
    · obtain ⟨j, hj, hstation⟩ := hjob
      rw [if_neg (c := Config.maxReprints ≤ e.reprints) (Nat.not_le.mpr hlow),
        if_pos (hasJob_of_queued (s := s.setPort p _) hj hstation)] at hrefusal
      exact reprint_refused hready hrefusal
    · rw [if_pos (c := Config.maxReprints ≤ e.reprints) hhigh] at hrefusal
      exact reprint_refused hready hrefusal
  case live =>
    have hentry : ∀ c : Port, logEntry (s.setPort p c) n = some e := fun _ => he
    refine ⟨fun hended => ⟨?_, ?_⟩, fun hposted => ⟨?_, ?_⟩, fun hprinted hsale => ⟨?_, ?_⟩, fun hprinted hstation => ?_,
      fun number hprinted horder helse => ?_⟩
    · exact void_refused hready (voidTarget_already (hentry _) hended)
    · refine reprint_refused hready (reprintRefusal_notVoidable (hentry _) (.inr ?_))
      obtain h | h := hended <;> rw [h] <;> decide
    · exact void_refused hready (voidTarget_notVoidable (hentry _) (by rw [hposted]; decide) (.inr (.inl hposted)))
    · exact reprint_refused hready (reprintRefusal_notVoidable (hentry _) (.inr (by rw [hposted]; decide)))
    · exact void_refused hready (voidTarget_notVoidable (hentry _) (printed_live hprinted) (.inl hsale))
    · exact reprint_refused hready (reprintRefusal_notVoidable (hentry _) (.inl hsale))
    · exact void_refused hready
        (voidTarget_notVoidable (hentry _) (printed_live hprinted) (.inr (.inr (.inl hstation))))
    · exact void_refused hready (voidTarget_notVoidable (hentry _) (printed_live hprinted)
        (.inr (.inr (.inr (entryOrderOpen_elsewhere (c := reloadedPort s p) horder helse)))))

end Sys2Proof.Machine
end

section
/-! PROOFS. PLU: the record a number selects, the close of the old snapshot and the new one (R37, R43 to R47). -/

namespace Sys2Proof.Machine

variable {s u base : State} {p q : CounterPort} {c : Port} {m : MsgCode} {n : Nat} {r : ItemRecord} {sn : Snapshot}
  {t : Template} {preset : Nat} {cal : CalRecord} {named : List Nat} {g : Nat} {d : CommitDrain}

/-! ### The checks of R43 -/

theorem pluInRange_iff (n : Nat) : pluInRange n = true ↔ 1 ≤ n ∧ n ≤ 99999 := by
  rw [pluInRange, Bool.and_eq_true, decide_eq_true_iff, decide_eq_true_iff, Config.maxPlu]

theorem pluRecord_closing {l : Nat} {b : Bool} (hday : s.dayState = .closing l b) :
    pluRecord s n = .error .dayClosing := by
  rw [pluRecord, hday]
  rfl

section
variable (hday : s.dayState = .trading)
include hday

theorem pluRecord_noItem (h : n = 0 ∨ 99999 < n ∨ itemOf s.ret.items n = none) :
    pluRecord s n = .error .noItem := by
  have hopen : s.dayState.isClosing = false := by rw [hday]; rfl
  by_cases hrange : pluInRange n = true
  · have hnone : itemOf s.ret.items n = none := by
      have := (pluInRange_iff n).mp hrange
      obtain h | h | h := h
      · omega
      · omega
      · exact h
    simp only [pluRecord, hopen, hrange, hnone, Bool.not_true, Bool.false_eq_true, if_false]
  · simp only [pluRecord, hopen, Bool.not_eq_true _ ▸ hrange, Bool.not_false, Bool.false_eq_true, if_false, if_true]

variable (hlow : 1 ≤ n) (hhigh : n ≤ 99999) (hr : itemOf s.ret.items n = some r)
include hlow hhigh hr

theorem pluRecord_retired (h : r.status = .retired) : pluRecord s n = .error .itemRetired := by
  have hopen : s.dayState.isClosing = false := by rw [hday]; rfl
  have hrange := (pluInRange_iff n).mpr ⟨hlow, hhigh⟩
  simp only [pluRecord, hopen, hrange, hr, h, Bool.not_true, Bool.false_eq_true, if_false, if_true]

variable (hlive : r.status = .live)
include hlive

theorem pluRecord_templateMissing (h : itemTemplate s.ret r.item.template = none) :
    pluRecord s n = .error .templateMissing := by
  have hopen : s.dayState.isClosing = false := by rw [hday]; rfl
  have hrange := (pluInRange_iff n).mpr ⟨hlow, hhigh⟩
  simp only [pluRecord, hopen, hrange, hr, hlive, h, Bool.not_true, Bool.false_eq_true, if_false, reduceCtorEq]

variable (ht : itemTemplate s.ret r.item.template = some t)
include ht

theorem pluRecord_clockNotSet (hdate : hasDateField t = true) (hclock : s.clock.valid = false) :
    pluRecord s n = .error .clockNotSet := by
  have hopen : s.dayState.isClosing = false := by rw [hday]; rfl
  have hrange := (pluInRange_iff n).mpr ⟨hlow, hhigh⟩
  simp only [pluRecord, hopen, hrange, hr, hlive, ht, hdate, hclock, Bool.not_true, Bool.not_false, Bool.true_and,
    Bool.false_eq_true, if_false, if_true, reduceCtorEq]

theorem pluRecord_ok (hclock : hasDateField t = true → s.clock.valid = true) : pluRecord s n = .ok r := by
  have hopen : s.dayState.isClosing = false := by rw [hday]; rfl
  have hrange := (pluInRange_iff n).mpr ⟨hlow, hhigh⟩
  have hdate : (hasDateField t && !s.clock.valid) = false := by
    cases hd : hasDateField t with
    | false => rfl
    | true => rw [hclock hd]; rfl
  simp only [pluRecord, hopen, hrange, hr, hlive, ht, hdate, Bool.not_true, Bool.false_eq_true, if_false, reduceCtorEq]

end

/-! ### The new snapshot (R37, R44 to R46) -/

/-- A tare taken with an open snapshot, and the snapshot priced again. -/
theorem reprice_applyTare (hsnap : c.snapshot = some sn) (tare : Tare) :
    reprice p (applyTare p tare (s.setPort p c)) = s.setPort p { c with
      weigh := retared s.ret.cal[p] tare c.weigh
      snapshot := some { sn with live := some (livePrice sn (retared s.ret.cal[p] tare c.weigh).latest) }
      displayDue := true } := by
  unfold applyTare retared
  dsimp only
  rw [State.port_setPort_self, State.setPort_ret]
  generalize reweigh _ _ = o
  cases o with
  | none =>
    dsimp only
    rw [modPort_setPort, reprice_setPort, hsnap]
    rfl
  | some x =>
    dsimp only
    rw [handResult_setPort, reprice_setPort, repriced, hsnap]
    split <;> rfl

theorem offerPreset_kept (h : preset = 0 ∨ c.weigh.tare.kind = .weighed ∨ c.weigh.tare.kind = .keyed) :
    offerPreset p preset (s.setPort p c) = (s.setPort p c, none) := by
  unfold offerPreset
  rw [State.port_setPort_self]
  split
  · rfl
  · rfl
  · rfl
  · next hw hk =>
    obtain h | h | h := h
    · exact if_pos h
    · exact absurd h hw
    · exact absurd h hk

theorem offerPreset_noCal (hcal : s.ret.cal[p] = none) :
    offerPreset p preset (s.setPort p c) = (s.setPort p c, none) := by
  unfold offerPreset
  rw [State.port_setPort_self, State.setPort_ret, hcal]
  split
  · rfl
  · rfl
  · rfl
  · next h _ _ => cases h

theorem tareRefusal_isSome (cal : CalFields) (n : Nat) :
    (tareRefusal cal n).isSome = true ↔ n % cal.e1 ≠ 0 ∨ cal.max < 2 * n := by
  unfold tareRefusal
  split_ifs with h1 h2
  · simp [h1]
  · simp [h2]
  · simpa using ⟨not_not.mp h1, Nat.not_lt.mp h2⟩

theorem offerPreset_offered (hcal : s.ret.cal[p] = some cal)
    (h : ¬ (preset = 0 ∨ c.weigh.tare.kind = .weighed ∨ c.weigh.tare.kind = .keyed)) :
    offerPreset p preset (s.setPort p c) = if preset % cal.e1 ≠ 0 ∨ cal.max < 2 * preset then
        (s.setPort p c, some .tareInvalid)
      else (applyTare p { kind := .preset, value := preset } (s.setPort p c), none) := by
  obtain ⟨hpreset, hweighed, hkeyed⟩ := not_or.mp h |>.imp_right not_or.mp
  rw [← if_congr (tareRefusal_isSome cal.toCalFields preset) rfl rfl]
  unfold offerPreset
  rw [State.port_setPort_self, State.setPort_ret, hcal]
  split
  · next h => exact absurd h hweighed
  · next h => exact absurd h hkeyed
  · next h _ _ => cases h
  · next h _ _ => cases h; exact if_neg hpreset

/-- The state a new snapshot leaves, at a port with none open. -/
theorem openSnapshot_setPort (s : State) (p : CounterPort) (c : Port) (r : ItemRecord) :
    openSnapshot p r (s.setPort p c) =
      s.setPort p { itemOpened s s.ret.cal[p] r c with displayDue := true } := by
  have hopen : openSnapshot p r (s.setPort p c) =
      modPort p (fun x => { x with
        sale := .item
        held := (offerPreset p r.item.presetTare (s.setPort p { c with snapshot := some (snapshotOf s r) })).2
        displayDue := true })
      (reprice p (offerPreset p r.item.presetTare (s.setPort p { c with snapshot := some (snapshotOf s r) })).1) := by
    rw [openSnapshot, modPort_setPort]
    rfl
  rw [hopen]
  cases hcal : s.ret.cal[p] with
  | none =>
    rw [offerPreset_noCal hcal, reprice_setPort, modPort_setPort]
    rfl
  | some cal =>
    by_cases hkept : r.item.presetTare = 0 ∨ c.weigh.tare.kind = .weighed ∨ c.weigh.tare.kind = .keyed
    · rw [offerPreset_kept (c := { c with snapshot := some (snapshotOf s r) }) hkept, reprice_setPort, modPort_setPort,
        itemOpened]
      dsimp only
      rw [if_pos hkept]
      rfl
    · rw [offerPreset_offered (c := { c with snapshot := some (snapshotOf s r) }) hcal hkept, itemOpened]
      dsimp only
      rw [if_neg hkept]
      by_cases hbad : r.item.presetTare % cal.e1 ≠ 0 ∨ cal.max < 2 * r.item.presetTare
      · rw [if_pos hbad, if_pos hbad, reprice_setPort, modPort_setPort]
        rfl
      · rw [if_neg hbad, if_neg hbad, reprice_applyTare rfl, modPort_setPort, hcal]
        rfl

/-! ### The close of the old snapshot (R47, R79) -/

theorem removePreset_setPort (hsnap : c.snapshot = none) : removePreset p (s.setPort p { c with displayDue := true }) =
    s.setPort p { closedPort s.ret.cal[p] c with displayDue := true } := by
  obtain ⟨hkind, h⟩ | ⟨hkind, h⟩ := removePreset_cases p (s.setPort p { c with displayDue := true }) <;>
    rw [State.port_setPort_self] at hkind
  · obtain ⟨sn, htare, -, hnone⟩ := applyTare_eq p noTare (s.setPort p { c with displayDue := true })
    rw [State.port_setPort_self] at htare hnone
    rw [hnone hsnap, State.setPort_setPort] at htare
    rw [h, htare, closedPort, if_pos hkind]
    rfl
  · rw [h, closedPort, if_neg hkind, ← hsnap]

theorem closeSnapshotFor_setPort (hsnap : c.snapshot = some sn) : closeSnapshotFor named p (s.setPort p c) =
    reportClose named sn.generation (s.setPort p { closedPort s.ret.cal[p] c with displayDue := true }) := by
  have hclose : closeSnapshotFor named p (s.setPort p c) = reportClose named sn.generation
      (removePreset p (s.setPort p { { c with snapshot := none } with displayDue := true })) := by
    rw [closeSnapshotFor, State.port_setPort_self, hsnap]
    dsimp only
    rw [modPort_setPort]
  rw [hclose, removePreset_setPort rfl]
  rfl

theorem closeSnapshotFor_none (hsnap : c.snapshot = none) :
    closeSnapshotFor named p (s.setPort p c) = s.setPort p c := by
  rw [closeSnapshotFor, State.port_setPort_self, hsnap]

/-- A close that no commit counts. -/
theorem reportClose_uncounted (h : ∀ d, s.commit = .waiting d → g ≠ prevGen s.ret.generation) :
    reportClose named g s = s := by
  obtain h' | ⟨d, hd, hg, -⟩ := reportClose_cases named g s
  · exact h'
  · exact absurd hg (h d hd)

theorem reportClose_counted (hd : s.commit = .waiting d) (hg : g = prevGen s.ret.generation) (hmany : 2 ≤ d.awaited) :
    reportClose named g s = { s with commit := .waiting { d with awaited := d.awaited - 1 } } := by
  simp only [reportClose, hd, hg, if_true, show ¬ d.awaited - 1 = 0 by omega, if_false]

theorem reportClose_completes (hd : s.commit = .waiting d) (hg : g = prevGen s.ret.generation) (hlast : d.awaited ≤ 1) :
    reportClose named g s = markAllDisplays (appliedFor named d.forced s) := by
  have h : reportClose named g s =
      completeCommit named { s with commit := .waiting { d with awaited := d.awaited - 1 } } := by
    simp only [reportClose, hd, hg, if_true, show d.awaited - 1 = 0 by omega]
  rw [h, completeCommit_waiting named rfl]
  rfl

theorem openPlus_congr {t : State} (h : ∀ q, (t.port q).snapshot = (s.port q).snapshot) : openPlus t = openPlus s := by
  have hsnapshots : t.ports.map (·.snapshot) = s.ports.map (·.snapshot) := by
    refine Vector.ext fun i hi => ?_
    rw [Vector.getElem_map, Vector.getElem_map]
    exact h ⟨i, hi⟩
  have heach : ∀ v : State, openPlus v =
      (v.ports.map (·.snapshot)).toList.filterMap (Option.map (·.item.plu)) := fun v => by
    rw [openPlus, Vector.toList_map, List.filterMap_map]
    rfl
  rw [heach, heach, hsnapshots]

theorem openPlus_setPort (s : State) (p : CounterPort) (hsnap : c.snapshot = (s.port p).snapshot) :
    openPlus (s.setPort p c) = openPlus s := by
  refine openPlus_congr fun q => ?_
  rw [State.port_setPort]
  split
  · next h => rw [h, hsnap]
  · rfl

/-- A completed commit takes the port's context along. -/
theorem appliedFor_setPort (named : List Nat) (forced : Nat) (s : State) (p : CounterPort)
    (hsnap : c.snapshot = (s.port p).snapshot) :
    appliedFor named forced (s.setPort p c) = (appliedFor named forced s).setPort p c := by
  unfold appliedFor
  rw [openPlus_setPort s p hsnap]
  dsimp only
  rw [← notify_setPort]
  rfl

theorem markAllDisplays_setPort (s : State) (p : CounterPort) (c : Port) :
    markAllDisplays (s.setPort p c) = (markAllDisplays s).setPort p { c with displayDue := true } := by
  refine State.ext_ports _ _ (fun q => ?_) rfl
  rw [markAllDisplays_port, State.port_setPort, State.port_setPort, markAllDisplays_port]
  split <;> rfl

/-! ### The owner of PLU -/

theorem pluOp_refused (h : pluRecord s n = .error m) : pluOp p n s = refuseKey p m s := by
  rw [pluOp, h]

theorem pluOp_taken (h : pluRecord s n = .ok r) : pluOp p n s =
    openSnapshot p ((itemOf (closeSnapshotFor [n] p s).ret.items n).getD r) (closeSnapshotFor [n] p s) := by
  rw [pluOp, h]

theorem itemOpened_kept {o : Option CalRecord}
    (h : r.item.presetTare = 0 ∨ o = none ∨ c.weigh.tare.kind = .weighed ∨ c.weigh.tare.kind = .keyed) :
    itemOpened s o r c = { c with
      snapshot := some { snapshotOf s r with live := some (livePrice (snapshotOf s r) c.weigh.latest) }
      sale := .item, held := none } := by
  cases o with
  | none => rfl
  | some cal => exact if_pos (h.imp_right fun h => h.resolve_left nofun)

section
variable (h : ¬ (r.item.presetTare = 0 ∨ c.weigh.tare.kind = .weighed ∨ c.weigh.tare.kind = .keyed))
include h

theorem itemOpened_preset (hgood : ¬ (r.item.presetTare % cal.e1 ≠ 0 ∨ cal.max < 2 * r.item.presetTare)) :
    let v := retared (some cal) { kind := .preset, value := r.item.presetTare } c.weigh
    itemOpened s (some cal) r c = { c with
      weigh := v
      snapshot := some { snapshotOf s r with live := some (livePrice (snapshotOf s r) v.latest) }
      sale := .item, held := none } :=
  (if_neg h).trans (if_neg hgood)

theorem itemOpened_invalid (hbad : r.item.presetTare % cal.e1 ≠ 0 ∨ cal.max < 2 * r.item.presetTare) :
    itemOpened s (some cal) r c = { c with
      snapshot := some { snapshotOf s r with live := some (livePrice (snapshotOf s r) c.weigh.latest) }
      sale := .item, held := some .tareInvalid } :=
  (if_neg h).trans (if_pos hbad)

end

theorem itemOpened_shown (s : State) (o : Option CalRecord) (r : ItemRecord) (c : Port) (l : Nat) (b : Bool) :
    ({ itemOpened s o r { c with supervision := l, displayDue := b } with displayDue := true } : Port) =
      { itemOpened s o r c with supervision := l, displayDue := true } := by
  unfold itemOpened
  cases o with
  | none => rfl
  | some cal =>
    dsimp only
    split_ifs <;> rfl

theorem itemOpened_frame (s : State) (o : Option CalRecord) (r : ItemRecord) (c : Port) :
    (itemOpened s o r c).state = c.state ∧ (itemOpened s o r c).online = c.online ∧
      (itemOpened s o r c).kind = c.kind ∧ (itemOpened s o r c).displayDue = c.displayDue := by
  unfold itemOpened
  cases o with
  | none => exact ⟨rfl, rfl, rfl, rfl⟩
  | some cal =>
    dsimp only
    split_ifs <;> exact ⟨rfl, rfl, rfl, rfl⟩

/-! ### O47 -/

section
variable (hq : Quiet s) (hs : ScaleOnline s p) (hsale : (s.port p).sale = .idle ∨ (s.port p).sale = .item)
include hq hs hsale

theorem plu_refused (h : pluRecord s n = .error m) :
    ∃ t, exec (.plu p n) s = .next t ∧ KeyAnswered s t p { s.port p with held := some m } :=
  key_refused (own := pluOp p n) rfl hs hq (salesGate_selling (c := reloadedPort s p) hsale)
    (pluOp_refused (s := s.setPort p (reloadedPort s p)) h)

/-- A new snapshot opened in `base`, at the port `d` that is closed. -/
theorem plu_opened {d : Port} (hbase : Quiet base) (hret : base.ret = s.ret)
    (hport : d.state = (s.port p).state ∧ d.online = (s.port p).online ∧ d.kind = (s.port p).kind ∧
      d.displayDue = (s.port p).displayDue) {b : Bool} (h : pluRecord s n = .ok r)
    (hr : itemOf s.ret.items n = some r)
    (hclose : closeSnapshotFor [n] p (s.setPort p (reloadedPort s p)) =
      base.setPort p { d with supervision := s.ret.config.supervisionReload, displayDue := b }) :
    ∃ t, exec (.plu p n) s = .next t ∧ KeyAnswered base t p (itemOpened base s.ret.cal[p] r d) := by
  obtain ⟨hstate, honline, hkind, hdue⟩ := itemOpened_frame base s.ret.cal[p] r d
  obtain ⟨hstate', honline', hkind', hdue'⟩ := hport
  refine key_taken (own := pluOp p n) (b := true) rfl hs (salesGate_selling (c := reloadedPort s p) hsale) hbase
    (by rw [hret]) ⟨hstate.trans hstate', honline.trans honline', hkind.trans hkind', hdue.trans hdue'⟩ (hq p) ?_
  rw [pluOp_taken (s := s.setPort p (reloadedPort s p)) h, hclose, State.setPort_ret, hret, hr, Option.getD_some,
    openSnapshot_setPort, hret]
  exact congrArg (base.setPort p) (itemOpened_shown ..)

end

/-- An accepted PLU whose old snapshot closes: at the commit it may complete. -/
theorem plu_reselects (hready : ItemReady s p sn)
    (hr : itemOf s.ret.items n = some r) (h : pluRecord s n = .ok r) :
    let closed := closedPort s.ret.cal[p] (s.port p)
    let stale := sn.generation = prevGen s.ret.generation
    let reselected : State → Prop := fun base =>
      ∃ u, exec (.plu p n) s = .next u ∧ KeyAnswered base u p (itemOpened base s.ret.cal[p] r closed)
    ((∀ d, s.commit = .waiting d → ¬ stale) → reselected s) ∧
    (∀ d, s.commit = .waiting d → stale → 2 ≤ d.awaited →
      reselected { s with commit := .waiting { d with awaited := d.awaited - 1 } }) := by
  intro closed stale reselected
  obtain ⟨hq, hs, hitem, hsnap⟩ := hready
  have hclose := closeSnapshotFor_setPort (s := s) (p := p) (named := [n]) (c := reloadedPort s p) hsnap
  refine ⟨fun hcommit => ?_, fun d hd hstale hmany => ?_⟩
  · rw [reportClose_uncounted (s := s.setPort p _) hcommit] at hclose
    exact plu_opened hq hs (.inr hitem) hq rfl ⟨rfl, rfl, rfl, rfl⟩ h hr hclose
  · rw [reportClose_counted (s := s.setPort p _) hd hstale hmany] at hclose
    exact plu_opened hq hs (.inr hitem) (base := { s with commit := _ }) hq rfl ⟨rfl, rfl, rfl, rfl⟩ h hr hclose

/-- A new snapshot opened in the state `done` that a completed commit leaves, every station shown. -/
theorem plu_shown {done : State} {closed : Port} {r' : ItemRecord} {l : Nat} (hs : ScaleOnline s p)
    (hitem : (s.port p).sale = .item) (h : pluRecord s n = .ok r)
    (hclose : closeSnapshotFor [n] p (s.setPort p (reloadedPort s p)) =
      (markAllDisplays done).setPort p { closed with supervision := l, displayDue := true })
    (hcal : done.ret.cal = s.ret.cal) (hquiet : Quiet done) (hdue : closed.displayDue = false)
    (hr : itemOf done.ret.items n = some r') :
    ∃ u, exec (.plu p n) s = .next u ∧
      EveryStationShown (done.setPort p { itemOpened done s.ret.cal[p] r' closed with supervision := l }) u := by
  generalize hX : ({ itemOpened done s.ret.cal[p] r' closed with supervision := l } : Port) = X
  have hXdue : X.displayDue = false := by
    rw [← hX]
    exact (itemOpened_frame done s.ret.cal[p] r' closed).2.2.2.trans hdue
  have hown : pluOp p n (s.setPort p (reloadedPort s p)) = markAllDisplays (done.setPort p X) := by
    rw [pluOp_taken (s := s.setPort p (reloadedPort s p)) h, hclose, openSnapshot_setPort, markAllDisplays_setPort,
      State.setPort_ret, markAllDisplays_ret, hr, Option.getD_some, hcal, ← hX]
    exact congrArg ((markAllDisplays done).setPort p) (itemOpened_shown done ..)
  refine ⟨flush (markAllDisplays (done.setPort p X)), ?_, flush_markAllDisplays (hquiet.setPort hXdue)⟩
  show execPlu p n s = _
  rw [execPlu, keyEvent_passed hs (salesGate_item hitem), hown, markAllDisplays_setPort, markDisplay_setPort]

/-- An accepted PLU whose old snapshot is the last that a commit awaits. -/
theorem plu_completes {r' : ItemRecord} (hready : ItemReady s p sn) (h : pluRecord s n = .ok r)
    (hd : s.commit = .waiting d) (hstale : sn.generation = prevGen s.ret.generation) (hlast : d.awaited ≤ 1)
    (hr : itemOf (appliedFor [n] d.forced (s.setPort p (closedPort s.ret.cal[p] (s.port p)))).ret.items n = some r') :
    let closed := closedPort s.ret.cal[p] (s.port p)
    let done := appliedFor [n] d.forced (s.setPort p closed)
    ∃ u, exec (.plu p n) s = .next u ∧ EveryStationShown (done.setPort p
      { itemOpened done s.ret.cal[p] r' closed with supervision := s.ret.config.supervisionReload }) u := by
  intro closed done
  obtain ⟨hq, hs, hitem, hsnap⟩ := hready
  let d' : Port := { closed with supervision := s.ret.config.supervisionReload, displayDue := true }
  have hclose := closeSnapshotFor_setPort (s := s) (p := p) (named := [n]) (c := reloadedPort s p) hsnap
  rw [reportClose_completes (s := s.setPort p _) hd hstale hlast] at hclose
  have hdone : closeSnapshotFor [n] p (s.setPort p (reloadedPort s p)) = (markAllDisplays done).setPort p d' := by
    have happlied := appliedFor_setPort (c := d') [n] d.forced (s.setPort p closed) p (by rw [State.port_setPort_self])
    rw [State.setPort_setPort] at happlied
    exact hclose.trans ((congrArg markAllDisplays happlied).trans (markAllDisplays_setPort ..))
  have hcal : done.ret.cal = s.ret.cal := by simp only [done, appliedFor, notify_ret, State.setPort_ret]
  have hquiet : Quiet done := fun q => by
    simp only [done, appliedFor, notify_port]
    exact hq.setPort (c := closed) (hq p) q
  exact plu_shown hs hitem h hdone hcal hquiet (hq p) hr

/-- Settles O47. -/
theorem pluOpensSnapshot : Obligations.PluOpensSnapshot := by
  refine ⟨fun s p n hq hs hsale => ?refusals, fun s p n sn r t hready hday hlow hhigh hr hlive ht hclock => ?reselects,
    fun s p n hready hday hsnap hlow hhigh => ?opens⟩
  case refusals =>
    intro refused
    refine ⟨fun k b hday => plu_refused hq hs hsale (pluRecord_closing hday), fun hday =>
      ⟨fun hnone => plu_refused hq hs hsale (pluRecord_noItem hday hnone), fun r hlow hhigh hr =>
        ⟨fun hretired => plu_refused hq hs hsale (pluRecord_retired hday hlow hhigh hr hretired), fun hlive hmissing =>
          plu_refused hq hs hsale (pluRecord_templateMissing hday hlow hhigh hr hlive hmissing),
          fun t hlive ht hdate hclock =>
            plu_refused hq hs hsale (pluRecord_clockNotSet hday hlow hhigh hr hlive ht hdate hclock)⟩⟩⟩
  case reselects =>
    intro closed stale reselected
    have h := pluRecord_ok hday hlow hhigh hr hlive ht hclock
    obtain ⟨hkept, hcounted⟩ := plu_reselects hready hr h
    exact ⟨hkept, fun d hd hstale => ⟨fun hmany => hcounted d hd hstale hmany, fun r' hlast hr' =>
      plu_completes hready h hd hstale hlast hr'⟩⟩
  case opens =>
    obtain ⟨hq, hs, hidle⟩ := hready
    refine ⟨fun r t hr hlive ht hclock => ?_, fun hnone => ?_, fun r hr hretired => ?_⟩
    · intro pct sn w
      have h := plu_opened hq hs (.inl hidle) hq rfl (d := s.port p) ⟨rfl, rfl, rfl, rfl⟩
        (pluRecord_ok hday hlow hhigh hr hlive ht hclock) hr (closeSnapshotFor_none (c := reloadedPort s p) hsnap)
      have hoffered (htare : (s.port p).weigh.tare.kind = .none) (hpreset : r.item.presetTare ≠ 0) :
          ¬ (r.item.presetTare = 0 ∨ (s.port p).weigh.tare.kind = .weighed ∨ (s.port p).weigh.tare.kind = .keyed) := by
        simp only [hpreset, htare, reduceCtorEq, or_false, not_false_eq_true]
      refine ⟨fun hkept => ?_, fun cal hcal htare hpreset => ⟨fun hdivision hmax => ?_, fun hbad => ?_⟩⟩
      · rw [itemOpened_kept hkept] at h
        exact h
      · rw [hcal, itemOpened_preset (hoffered htare hpreset) (by simp [hdivision, hmax])] at h
        exact h
      · rw [hcal, itemOpened_invalid (hoffered htare hpreset) hbad] at h
        exact h
    · exact plu_refused hq hs (.inl hidle) (pluRecord_noItem hday (.inr (.inr hnone)))
    · exact plu_refused hq hs (.inl hidle) (pluRecord_retired hday hlow hhigh hr hretired)

end Sys2Proof.Machine
end

section
/-! PROOFS. CAL_WRITE and HUB_RESET (R20, R193). -/

namespace Sys2Proof.Machine

variable {s u base : State} {p q : CounterPort} {c : Port} {m : MsgCode} {n : Nat}

/-! ### CAL_WRITE (R20, R22) -/

section
variable {f : CalFields} {k : TrackingSetting}

theorem calWriteRefusal_locked (hswitch : (s.port p).calSwitch = .off) (tracking : Option TrackingSetting) :
    calWriteRefusal (some p) f tracking s = some .calLocked := by
  rw [calWriteRefusal]
  exact if_pos (by simp [hswitch])

theorem calWriteRefusal_none (hs : ScaleOnline s p) (hswitch : (s.port p).calSwitch = .on)
    (hitem : (s.port p).sale ≠ .item) (hprinting : (s.port p).sale ≠ .printing) (hvalid : calValid f = true) :
    calWriteRefusal (some p) f (some k) s = none := by
  obtain ⟨-, honline, hkind⟩ := hs
  rw [calWriteRefusal, if_neg (by simp [honline, hkind, hswitch]), if_neg (not_or.mpr ⟨hitem, hprinting⟩),
    if_neg (by simp [hvalid])]

/-- An accepted CAL_WRITE, ahead of its display. -/
theorem calWriteOp_accepted {tag : Nat} (h : calWriteRefusal (some p) f (some k) s = none) :
    calWriteOp tag p.number f (some k) s =
      (let r : CalRecord := { toCalFields := f, tracking := trackingValue s.ret.config k }
      let audit := satUp Config.max16 s.ret.audit 1
      (reply tag .ok .none (notify (.calChanged p audit)
        { s with ret := { s.ret with cal := s.ret.cal.set p (some r), audit := audit } })).setPort p
          { s.port p with weigh := WeighCtx.fresh (some r) true, displayDue := true }) := by
  unfold calWriteOp
  rw [portOfNumber_number, h]
  dsimp only
  rw [show storeCal p { toCalFields := f, tracking := trackingValue s.ret.config k } s =
    ({ s with ret := { s.ret with
      cal := s.ret.cal.set p (some { toCalFields := f, tracking := trackingValue s.ret.config k })
      audit := satUp Config.max16 s.ret.audit 1 } } : State).setPort p { s.port p with
        weigh := WeighCtx.fresh (some { toCalFields := f, tracking := trackingValue s.ret.config k }) true
        displayDue := true } from rfl, notify_setPort]
  rfl

end

/-- Settles O17: the checks pass or the switch refuses. -/
theorem calWriteStoresRecord : Obligations.CalWriteStoresRecord := by
  intro s tag p f k hopen
  obtain ⟨hq, -, -⟩ := id hopen
  refine ⟨fun hs hswitch hitem hprinting hvalid => ?stored, fun hswitch => ?locked⟩
  case stored =>
    intro r audit
    have hown := calWriteOp_accepted (s := uplinkRaised s) (p := p) (tag := tag)
      (calWriteRefusal_none (s := uplinkRaised s) (k := k) hs hswitch hitem hprinting hvalid)
    have hr : r = { toCalFields := f, tracking := trackingValue s.ret.config k } := by
      cases k <;> rfl
    rw [hr]
    refine ⟨_, ?_, flush_shown (base := replied tag .ok .none (notify (.calChanged p audit) { s with ret := { s.ret with
      cal := s.ret.cal.set p (some { toCalFields := f, tracking := trackingValue s.ret.config k }), audit := audit } }))
      (c := { s.port p with weigh := WeighCtx.fresh (some { toCalFields := f, tracking := trackingValue s.ret.config k }) true })
      hs (hq p) ?_⟩
    · show execCalWrite tag p.number f (some k) s = _
      rw [execCalWrite, arrive_open hopen]
      refine congrArg Host.Outcome.next (congrArg flush (hown.trans ?_))
      show State.setPort (reply tag .ok .none (notify _ (uplinkRaised { s with ret := _ }))) p _ = _
      rw [notify_uplinkRaised]
      rfl
    · exact (notify_quiet_iff _ _).mpr hq
  case locked =>
    refine exec_refused hopen rfl ?_
    have hrefusal := calWriteRefusal_locked (s := uplinkRaised s) (p := p) (f := f) hswitch (some k)
    unfold calWriteOp
    rw [portOfNumber_number, hrefusal]
    rfl

/-! ### HUB_RESET (R193) -/

theorem replyParts_none (tag : Nat) (code : ResultCode) :
    replyParts { tag := tag, result := code, data := .none } = [[]] := rfl

/-- Settles O15. -/
theorem hubResetThenWarmReset : Obligations.HubResetThenWarmReset := by
  refine ⟨fun s tag hopen => ?asked, fun s tag len rest hpending => ⟨?status, ?malformed⟩,
    fun s tag hup hpending hsent hreplies => ?reset⟩
  case asked =>
    exact exec_replied hopen (own := hubResetOp tag) rfl hopen.1 rfl
  case status => exact congrArg Host.Outcome.next (arrive_resetPending hpending _ _)
  case malformed =>
    show execMalformedRequest len rest s = _
    rw [execMalformedRequest]
    split
    · exact congrArg Host.Outcome.next (arrive_resetPending hpending _ _)
    · rfl
  case reset =>
    have hsend : transmit s = resetAfterReply { s with uplink := { s.uplink with
        replies := [], sentParts := 0
        lastSent := some (replyFrameAt { tag := tag, result := .ok, data := .none } 0) } } := by
      rw [transmit, if_pos hup, hreplies]
      dsimp only
      rw [sendReply, hsent, replyParts_none, if_neg (by decide), replySent]
      exact if_pos ⟨hpending, rfl⟩
    exact ⟨transmit s, rfl, by rw [hsend]; rfl, by rw [hsend]; rfl⟩

end Sys2Proof.Machine
end

section
/-! PROOFS. The uplink transmitter, the request that waits and the drops of lines (R1, R5, R185, R188 to R190,
R195). -/

namespace Sys2Proof.Machine

variable {s : State} {p : CounterPort} {r : Reply} {rest : List Reply}

/-! ### UPLINK_TRANSMIT (R189) -/

theorem transmit_down (h : s.uplink.up = false) : transmit s = s := by
  rw [transmit, h]
  rfl

theorem transmit_reply (hup : s.uplink.up = true) (hreplies : s.uplink.replies = r :: rest) :
    transmit s = sendReply r rest s := by
  rw [transmit, if_pos hup, hreplies]

theorem transmit_notice {n : Notice} {notices : List Notice} (hup : s.uplink.up = true) (hreplies : s.uplink.replies = [])
    (hnotices : s.notices.queue = n :: notices) : transmit s = sendNotice n notices s := by
  rw [transmit, if_pos hup, hreplies, hnotices]

theorem transmit_nothing (hup : s.uplink.up = true) (hreplies : s.uplink.replies = [])
    (hnotices : s.notices.queue = []) : transmit s = s := by
  rw [transmit, if_pos hup, hreplies, hnotices]

/-- The state after the last frame of the oldest reply. -/
def replyLeft (s : State) (r : Reply) (rest : List Reply) : State :=
  { s with uplink := { s.uplink with
      replies := rest, sentParts := 0, lastSent := some (replyFrameAt r s.uplink.sentParts) } }

theorem sendReply_last (hlast : (replyParts r).length ≤ s.uplink.sentParts + 1) (hreset : s.uplink.resetPending = false) :
    sendReply r rest s = takeWaiting (replyLeft s r rest) := by
  rw [sendReply, if_neg (Nat.not_lt.mpr hlast), replySent]
  exact if_neg (by simp [hreset])

theorem takeWaiting_none (h : s.uplink.waiting = none) : takeWaiting s = s := by
  rw [takeWaiting, h]

theorem takeWaiting_some {i : Instr} (h : s.uplink.waiting = some i) (hroom : s.uplink.replies.length < 4) :
    takeWaiting s = flush (requestOp i { s with uplink := { s.uplink with waiting := none } }) := by
  rw [takeWaiting, h]
  exact if_pos hroom

/-- Settles O35: the transmitter's choice, and what arrives behind four replies. -/
theorem uplinkSendsRepliesBeforeNotices : Obligations.UplinkSendsRepliesBeforeNotices := by
  have hexec : ∀ s, exec .uplinkTransmit s = .next (transmit s) := fun _ => rfl
  refine ⟨fun s => ⟨fun hdown => ?down, fun r rest hup hreplies => ⟨fun hmore => ?part, fun hlast hreset hwaiting => ?last,
    fun tag e hlast hq hreset hroom hwaiting => ?taken⟩, fun n rest hup hreplies hnotices => ?notice,
    fun hup hreplies hnotices => ?nothing⟩, fun s tag hreset hfull => ⟨fun hwaiting => ?waits, fun hwaiting => ?overrun⟩⟩
  case down => rw [hexec, transmit_down hdown]
  case notice =>
    rw [hexec, transmit_notice hup hreplies hnotices]
    rfl
  case nothing => rw [hexec, transmit_nothing hup hreplies hnotices]
  case waits => exact congrArg Host.Outcome.next (arrive_waits hreset hfull hwaiting _ _)
  case overrun =>
    obtain ⟨j, hj⟩ := Option.ne_none_iff_exists'.mp hwaiting
    exact congrArg Host.Outcome.next (arrive_overrun hreset hfull hj _ _)
  all_goals
    rw [hexec, transmit_reply hup hreplies]
  case part => exact congrArg Host.Outcome.next (if_pos hmore)
  case last =>
    rw [sendReply_last hlast hreset, takeWaiting_none (s := replyLeft s r rest) hwaiting]
    rfl
  case taken =>
    rw [sendReply_last hlast hreset, takeWaiting_some (s := replyLeft s r rest) hwaiting hroom]
    exact congrArg Host.Outcome.next (flush_of_quiet hq)

/-! ### The drops of lines (R1, R190, R195) -/

theorem noticeMaySend_false (h : s.uplink.up = false ∨ s.uplink.sentParts ≠ 0 ∨ s.notices.queue = []) :
    noticeMaySend s = false := by
  rw [noticeMaySend]
  obtain h | h | h := h <;> simp [h]

theorem loseNotice_sent {n : Notice} {rest : List Notice} (hup : s.uplink.up = true) (hsent : s.uplink.sentParts = 0)
    (hnotices : s.notices.queue = n :: rest) : loseNotice s = { s with
      notices := { s.notices with queue := if Config.freeBit s.free then rest else n :: rest }
      free := s.free + 1 } := by
  have hmay : noticeMaySend s = true := by simp [noticeMaySend, hup, hsent, hnotices]
  rw [loseNotice, if_pos hmay, hnotices]
  split <;> rfl

theorem lineDrop_refused (h : (s.port p).state = .refused) : exec (.lineDrop p) s = .next (portDown p s) := by
  show execLineDrop p s = _
  rw [execLineDrop, h]

theorem lineDrop_offline (h : (s.port p).state = .up) (honline : (s.port p).online = false) :
    exec (.lineDrop p) s = .next (portDown p s) := by
  show execLineDrop p s = _
  rw [execLineDrop, h, honline]
  rfl

/-- Settles O36. -/
theorem lineDropsWithoutOfflineEvent : Obligations.LineDropsWithoutOfflineEvent := by
  refine ⟨fun s => ⟨fun hreset => ⟨fun n rest hup hsent hnotices => ?cut, fun hnone => ?kept⟩, fun hreset => ?reset,
    fun _ => rfl⟩, fun s p => ⟨fun hdown => ?downAlready, fun h => ?drops⟩⟩
  case cut =>
    have hdrop : exec .uplinkLineDrop s = .next (uplinkDrop s) := if_neg (by simp [hreset])
    rw [hdrop, uplinkDrop, loseNotice_sent hup hsent hnotices]
    rfl
  case kept =>
    have hdrop : exec .uplinkLineDrop s = .next (uplinkDrop s) := if_neg (by simp [hreset])
    rw [hdrop, uplinkDrop, loseNotice, noticeMaySend_false hnone]
    rfl
  case reset =>
    have hdrop : exec .uplinkLineDrop s = .next (warmReset (uplinkDrop s)) := if_pos hreset
    refine ⟨(uplinkDrop s).free, ?_⟩
    rw [hdrop]
    unfold uplinkDrop loseNotice
    split <;> rfl
  case downAlready =>
    show execLineDrop p s = _
    rw [execLineDrop, hdown]
  case drops =>
    obtain h | ⟨h, honline⟩ := h
    · exact lineDrop_refused h
    · exact lineDrop_offline h honline

end Sys2Proof.Machine
end

section
/-! PROOFS. The two resets and the retained store (R193, R197, R198). -/

namespace Sys2Proof.Machine

/-- The store with the areas of a list emptied. -/
def emptied (l : List Area) (r : Retained) : Retained where
  items := if Area.items ∈ l then [] else r.items
  templates := if Area.templates ∈ l then Vector.replicate 16 none else r.templates
  table0 := if Area.translation ∈ l then identityTable else r.table0
  table1 := if Area.translation ∈ l then identityTable else r.table1
  operators := if Area.operators ∈ l then Vector.replicate 32 none else r.operators
  cal := if Area.calibration ∈ l then Vector.replicate 14 none else r.cal
  config := if Area.config ∈ l then ConfigRecord.default else r.config
  totals := if Area.totals ∈ l then Totals.empty else r.totals
  day := if Area.day ∈ l then DayArea.empty else r.day
  generation := if Area.generation ∈ l then 0 else r.generation
  audit := if Area.audit ∈ l then 0 else r.audit

theorem emptied_cons (a : Area) (l : List Area) (r : Retained) : emptied (a :: l) r = emptied l (emptyArea r a) := by
  cases a <;> simp [emptied, emptyArea, Retained.empty]

theorem foldl_emptyArea (l : List Area) (r : Retained) : l.foldl emptyArea r = emptied l r := by
  induction l generalizing r with
  | nil => rfl
  | cons a l ih => rw [List.foldl_cons, ih, emptied_cons]

theorem failedAreas_eq (found : List (Area × Nat)) (r : Retained) {fails : Area → Bool}
    (h : ∀ a, fails a = areaFails found r a) : failedAreas found r = allAreas.filter fails :=
  congrArg (allAreas.filter ·) (funext fun a => (h a).symm)

theorem losesTotals_eq (l : List Area) :
    losesTotals l = decide (Area.totals ∈ l ∨ Area.items ∈ l ∨ Area.day ∈ l) := by
  rw [Bool.eq_iff_iff, decide_eq_true_iff]
  simp [losesTotals, or_assoc]

/-- Settles O34: each area's fields by its place in the failed list. -/
theorem resetsKeepTheRetainedStore : Obligations.ResetsKeepTheRetainedStore := by
  refine fun s => ⟨rfl, fun found => ?_⟩
  intro fails failed
  have hfails : ∀ a, fails a = areaFails found s.ret a := fun a => by
    show (match found.lookup a with | none => false | some v => v != areaCheck s.ret a) = _
    rw [areaFails]
    cases found.lookup a <;> rfl
  have hfailed : failedAreas found s.ret = failed := failedAreas_eq found s.ret hfails
  have hstore : checkedStore failed s.ret = { emptied failed s.ret with day := { (emptied failed s.ret).day with
      totalsLost := (emptied failed s.ret).day.totalsLost || losesTotals failed } } := by
    rw [checkedStore, foldl_emptyArea]
  refine ⟨checkedStore failed s.ret, ?_, ?_⟩
  · show execPowerUp found s = _
    rw [execPowerUp, powerUp, hfailed]
    rfl
  · rw [hstore, losesTotals_eq]
    refine ⟨rfl, rfl, rfl, rfl, rfl, rfl, rfl, rfl, rfl, ?_, rfl, rfl⟩
    dsimp only [emptied]
    split
    · next hmem => simp [hmem, DayArea.empty]
    · rfl

end Sys2Proof.Machine
end

section
/-! PROOFS. The clock at a tick, and its CLOCK_LOST notice ahead of every notice of what falls due (R201; log 29). -/

namespace Sys2Proof.Machine

/-- The clock stands at `c`, and the notices begin with those of `q`. -/
def Later (c : Clock) (q : List Notice) (s : State) : Prop := s.clock = c ∧ q <+: s.notices.queue

namespace Later
variable {c : Clock} {q : List Notice} {s t : State} {p : CounterPort} {k : TicketNo} {o : Order}

theorem congr (h : Later c q s) (hclock : t.clock = s.clock) (hnotices : t.notices = s.notices) : Later c q t :=
  ⟨hclock.trans h.1, hnotices ▸ h.2⟩

theorem foldl {α : Type} {f : State → α → State} (hf : ∀ s a, Later c q s → Later c q (f s a))
    {l : List α} (h : Later c q s) : Later c q (l.foldl f s) := by
  induction l generalizing s with
  | nil => exact h
  | cons a l ih => exact ih (hf s a h)

theorem notify (h : Later c q s) {b : NoticeBody} : Later c q (notify b s) := by
  obtain hb | hb := notify_cases b s <;> rw [hb]
  · exact h
  · refine ⟨h.1, ?_⟩
    show q <+: (s.notices.push _).queue
    unfold NoticeQueue.push
    split
    · exact h.2.trans (List.prefix_append _ _)
    · exact h.2

/-! ### Commits and snapshots -/

theorem completeCommit (h : Later c q s) {named : List Nat} : Later c q (completeCommit named s) := by
  unfold Machine.completeCommit
  split
  · exact (notify (by exact h.congr rfl rfl)).congr (markAllDisplays_clock _) (markAllDisplays_notices _)
  · exact h

theorem reportClose (h : Later c q s) {named : List Nat} {g : Nat} : Later c q (reportClose named g s) := by
  obtain hr | ⟨d, -, -, ⟨-, hr⟩ | ⟨-, hr⟩⟩ := reportClose_cases named g s <;> rw [hr]
  · exact h
  · exact h.congr rfl rfl
  · exact completeCommit (by exact h.congr rfl rfl)

theorem applyTare (h : Later c q s) {p : CounterPort} {t : Tare} : Later c q (applyTare p t s) := by
  obtain ⟨sn, ht, -⟩ := applyTare_eq p t s
  exact h.congr (by rw [ht]; rfl) (by rw [ht]; rfl)

theorem closeSnapshot (h : Later c q s) {p : CounterPort} : Later c q (closeSnapshot p s) := by
  unfold Machine.closeSnapshot closeSnapshotFor
  split
  · exact h
  · refine reportClose ?_
    obtain ⟨-, hp⟩ | ⟨-, hp⟩ := removePreset_cases p
      (modPort p (fun c => { c with snapshot := none, displayDue := true }) s) <;> rw [hp]
    · exact applyTare (by exact h.congr rfl rfl)
    · exact h.congr rfl rfl

theorem leaveCalling (h : Later c q s) {p : CounterPort} : Later c q (leaveCalling p s) := by
  unfold Machine.leaveCalling
  split
  · exact h.congr rfl rfl
  · exact h

theorem toIdle (h : Later c q s) {p : CounterPort} {m : Option MsgCode} : Later c q (toIdle p m s) := by
  unfold Machine.toIdle
  split
  · exact h.leaveCalling.congr rfl rfl
  · exact h.congr rfl rfl

theorem forcedCancel (h : Later c q s) {m : MsgCode} {p : CounterPort} : Later c q (forcedCancel m p s) := by
  unfold Machine.forcedCancel
  refine (closeSnapshot ?_).toIdle
  split <;> exact h.congr rfl rfl

theorem enterWaiting (h : Later c q s) : Later c q (enterWaiting s) := by
  unfold Machine.enterWaiting
  dsimp only
  split
  · exact completeCommit (by exact h.congr rfl rfl)
  · exact h.congr rfl rfl

theorem activationTest (h : Later c q s) : Later c q (activationTest s) := by
  unfold Machine.activationTest activateCommit
  split
  · split
    · exact h.enterWaiting
    · exact notify (by exact h.congr rfl rfl)
  · exact h

theorem completeIfDrained (h : Later c q s) : Later c q (completeIfDrained s) := by
  unfold Machine.completeIfDrained
  split
  · split
    · exact h.completeCommit
    · exact h
  · exact h

theorem commitDrainExpired (h : Later c q s) : Later c q (commitDrainExpired s) := by
  unfold Machine.commitDrainExpired
  split
  · exact completeIfDrained (foldl (fun s p hs => forcedCancel hs) (by exact h.congr rfl rfl))
  · exact h

/-! ### The day -/

theorem endOrderByDay (h : Later c q s) {o : Order} : Later c q (endOrderByDay s o) := by
  have hcounted : Later c q (modRet (countGrand { ordersClosedByDay := 1 }) s) := h.congr rfl rfl
  unfold Machine.endOrderByDay
  dsimp only
  split <;> exact hcounted.notify.congr rfl rfl

theorem dayTest (h : Later c q s) : Later c q (dayTest s) := by
  obtain ⟨-, ht⟩ | ⟨-, ht⟩ := dayTest_cases s <;> rw [ht]
  · have hended : Later c q (endLiveOrders s) :=
      foldl (fun s o hs => endOrderByDay hs) (by exact h.congr rfl rfl)
    have hline : Later c q (endServiceLine (endLiveOrders s)) := hended.congr rfl rfl
    unfold completeDayClose openNewDay
    exact (notify (by exact hline.congr rfl rfl)).congr (markAllDisplays_clock _) (markAllDisplays_notices _)
  · exact h

theorem closeDrainExpired (h : Later c q s) : Later c q (closeDrainExpired s) := by
  unfold Machine.closeDrainExpired
  exact dayTest (foldl (fun s p hs => forcedCancel hs) (by exact h.congr rfl rfl))

/-! ### Tickets, orders and stations -/

theorem skipTicket (h : Later c q s) {k : TicketNo} {p : CounterPort} : Later c q (skipTicket k p s) := by
  unfold Machine.skipTicket
  dsimp only
  split
  · split <;> exact h.congr rfl rfl
  · exact h.congr rfl rfl

theorem abandonOrder (h : Later c q s) {o : Order} : Later c q (abandonOrder o s) :=
  notify (by exact h.congr rfl rfl)

theorem markLineVoided (h : Later c q s) {n serial : Nat} {keyed : Bool} :
    Later c q (markLineVoided n serial keyed s) := by
  obtain hm | ⟨o, -, hm⟩ := markLineVoided_cases n serial keyed s <;> rw [hm]
  · exact h
  · exact h.congr rfl rfl

theorem voidUnprinted (h : Later c q s) {p : CounterPort} {k : SlotNo} : Later c q (voidUnprinted p s k) := by
  unfold Machine.voidUnprinted
  split
  · exact h
  · split
    · exact h
    · split
      · exact h.notify
      · refine notify ?_
        split
        · split
          · exact markLineVoided (by exact h.congr rfl rfl)
          · exact h.congr rfl rfl
        · exact h.congr rfl rfl

theorem returnTicket (h : Later c q s) {p : CounterPort} : Later c q (returnTicket p s) := by
  unfold Machine.returnTicket
  split
  · exact h
  · split
    · rw [callTicket_calledState]
      exact (notify (by exact h.congr rfl rfl)).congr rfl rfl
    · exact h.congr rfl rfl

theorem offlineSlots (h : Later c q s) : Later c q (offlineSlots p s) := by
  have hvoided : Later c q ((s.port p).slots.post.foldl (Machine.voidUnprinted p) s) :=
    foldl (fun s k hs => voidUnprinted hs) h
  exact hvoided.congr (modPort_clock ..) (modPort_notices ..)

theorem offlineStart (h : Later c q s) : Later c q (offlineStart p s) := by
  have hcounted : Later c q (offlineCounted p s) := by
    unfold offlineCounted
    dsimp only
    split <;> split <;> exact h.congr rfl rfl
  unfold Machine.offlineStart
  split
  · exact hcounted.closeSnapshot
  · exact hcounted

theorem offlineScale (h : Later c q s) : Later c q (offlineScale p s) := by
  rw [offlineScale_eq]
  have hreturned : Later c q (Machine.returnTicket p (Machine.leaveCalling p (Machine.offlineSlots p
      (Machine.offlineStart p s)))) := h.offlineStart.offlineSlots.leaveCalling.returnTicket
  have hcomposer : Later c q (offlineComposer p (offlineOrder p (Machine.returnTicket p (Machine.leaveCalling p
      (Machine.offlineSlots p (Machine.offlineStart p s)))))) :=
    hreturned.congr (by rw [offlineComposer_clock, offlineOrder_clock]) (by rw [offlineComposer_notices, offlineOrder_notices])
  exact hcomposer.closeSnapshot.congr (offlineContext_clock ..) (offlineContext_notices ..)

theorem goOffline (h : Later c q s) {cause : StationCause} : Later c q (goOffline p cause s) := by
  have hlink : Later c q (offlineLink p s) := h.congr rfl rfl
  unfold Machine.goOffline
  dsimp only
  split
  · exact hlink.offlineScale.notify
  · exact hlink.notify

theorem takeTickEvent (h : Later c q s) {e : TickEvent} : Later c q (takeTickEvent s e) := by
  have hrun : Later c q (runTickEvent s e) := by
    cases e with
    | supervision p => exact (goOffline (by exact h.congr rfl rfl)).dayTest
    | call k =>
      unfold runTickEvent
      dsimp only
      split
      · exact h.skipTicket
      · exact h
    | abandon n =>
      unfold runTickEvent
      dsimp only
      split
      · exact h.abandonOrder
      · exact h
    | activation => exact h.activationTest
    | commitDrain => exact h.commitDrainExpired
    | closeDrain => exact h.closeDrainExpired
  unfold Machine.takeTickEvent
  split
  · exact hrun.congr (flush_clock _) (flush_notices _)
  · exact h

/-- What falls due at a tick leaves the clock and the notices ahead of it. -/
theorem clockTick (s : State) : Later (tickClock s).clock (tickClock s).notices.queue (clockTick s) :=
  foldl (fun _ _ hs => takeTickEvent hs)
    ⟨rfl, (List.prefix_refl (tickClock s).notices.queue)⟩

end Later

/-! ### The clock's own step (R201) -/

theorem tickClock_clock (s : State) : (tickClock s).clock = s.clock.tick.1 := by
  unfold tickClock
  dsimp only
  split
  · rw [notify_clock]
  · rfl

section
variable {c : Clock} {d : Date}

theorem Clock.tick_below (h : c.second < 86399) : c.tick = ({ c with second := c.second + 1 }, false) := if_pos h

theorem Clock.tick_invalid (h : 86399 ≤ c.second) (hvalid : c.valid = false) :
    c.tick = ({ c with second := 0 }, false) := by
  rw [Clock.tick, if_neg (Nat.not_lt.mpr h), if_pos (by rw [hvalid]; rfl)]

theorem Clock.tick_next (h : 86399 ≤ c.second) (hvalid : c.valid = true) (hbefore : dateBefore c.date lastDate = true) :
    c.tick = ({ c with date := nextDate c.date, second := 0 }, false) := by
  rw [Clock.tick, if_neg (Nat.not_lt.mpr h), if_neg (by rw [hvalid]; decide), if_pos hbefore]

theorem Clock.tick_last (h : 86399 ≤ c.second) (hvalid : c.valid = true) (hlast : dateBefore c.date lastDate = false) :
    c.tick = ({ c with second := 0, valid := false }, true) := by
  rw [Clock.tick, if_neg (Nat.not_lt.mpr h), if_neg (by rw [hvalid]; decide), hlast, if_neg Bool.false_ne_true]

theorem daysInMonth_pos (year month : Nat) : 1 ≤ daysInMonth year month := by
  unfold daysInMonth
  split_ifs <;> decide

theorem dateValid_iff (d : Date) : dateValid d = true ↔ (2000 ≤ d.year ∧ d.year ≤ 2099) ∧
    (1 ≤ d.month ∧ d.month ≤ 12) ∧ 1 ≤ d.day ∧ d.day ≤ daysInMonth d.year d.month := by
  simp only [dateValid, Bool.and_eq_true, decide_eq_true_eq, and_assoc]

theorem dateBefore_iff (a b : Date) : dateBefore a b = true ↔
    a.year < b.year ∨ a.year = b.year ∧ (a.month < b.month ∨ a.month = b.month ∧ a.day < b.day) := by
  simp only [dateBefore, Bool.or_eq_true, Bool.and_eq_true, decide_eq_true_eq, beq_iff_eq]

/-- The day after a valid date that is not the clock's last is a valid date. -/
theorem nextDate_valid (hd : dateValid d = true) (hbefore : dateBefore d lastDate = true) :
    dateValid (nextDate d) = true := by
  obtain ⟨⟨hyear, hyear'⟩, ⟨hmonth, hmonth'⟩, hday, hday'⟩ := (dateValid_iff d).mp hd
  have hlast : d.year < 2099 ∨ d.year = 2099 ∧ (d.month < 12 ∨ d.month = 12 ∧ d.day < 31) :=
    (dateBefore_iff d lastDate).mp hbefore
  rw [dateValid_iff]
  unfold nextDate
  split_ifs with hmore hnext
  · exact ⟨⟨hyear, hyear'⟩, ⟨hmonth, hmonth'⟩, Nat.le_add_left .., hmore⟩
  · exact ⟨⟨hyear, hyear'⟩, ⟨Nat.le_add_left .., hnext⟩, le_rfl, daysInMonth_pos _ _⟩
  · have hdecember : d.month = 12 := by omega
    have hdays : daysInMonth d.year d.month = 31 := by rw [hdecember]; rfl
    have hearlier : d.year < 2099 := by omega
    exact ⟨⟨Nat.le_succ_of_le hyear, hearlier⟩, ⟨le_rfl, (by decide : 1 ≤ 12)⟩, le_rfl, daysInMonth_pos _ _⟩

end

/-- Settles O33: the tick moves the clock first, and what falls due then leaves it. -/
theorem tickMovesClock : Obligations.TickMovesClock := by
  intro s
  obtain ⟨hclock, hnotices⟩ := Later.clockTick s
  rw [tickClock_clock] at hclock
  refine ⟨clockTick s, rfl, fun hbelow => ?below, fun hend hinvalid => ?invalid, fun hend hvalid => ⟨fun hbefore => ?next,
    fun hlast => ⟨?last, fun hmaster hclass hroom => ?lost⟩⟩, fun hdate => ?valid⟩
  case below => rw [hclock, Clock.tick_below hbelow]
  case invalid => rw [hclock, Clock.tick_invalid hend hinvalid]
  case next => rw [hclock, Clock.tick_next hend hvalid hbefore]
  case last => rw [hclock, Clock.tick_last hend hvalid hlast]
  case lost =>
    have htick : tickClock s = notify (.clockLost s.clock.date)
        { s with clock := { s.clock with second := 0, valid := false } } := by
      rw [tickClock, Clock.tick_last hend hvalid hlast]
      rfl
    have hqueued : (tickClock s).notices.queue =
        s.notices.queue ++ [{ stamp := { date := none, second := 0 }, body := .clockLost s.clock.date }] := by
      rw [htick, notify, if_pos ⟨hmaster, hclass⟩]
      exact congrArg NoticeQueue.queue (if_pos hroom)
    rwa [hqueued] at hnotices
  case valid =>
    rw [hclock]
    obtain hbelow | hend := Nat.lt_or_ge s.clock.second 86399
    · rw [Clock.tick_below hbelow]
      exact hdate
    · cases hvalid : s.clock.valid with
      | false =>
        rw [Clock.tick_invalid hend hvalid]
        exact hdate
      | true =>
        cases hbefore : dateBefore s.clock.date lastDate with
        | true =>
          rw [Clock.tick_next hend hvalid hbefore]
          exact nextDate_valid hdate hbefore
        | false =>
          rw [Clock.tick_last hend hvalid hbefore]
          exact hdate

end Sys2Proof.Machine
end

section
/-! PROOFS. A SCHEDULED commit at its minute, and the completion of one that awaits no snapshot (R75, R76, R79). -/

namespace Sys2Proof.Machine

variable {s : State} {p : CounterPort} {d : CommitDrain} {sn : Snapshot}

/-! ### COMMIT_ACTIVATION (R75, R76) -/

theorem activationDue_scheduled {e : Date} {m : Nat} (hc : s.commit = .scheduled e m) :
    activationDue s = clockReached s.clock e m := by
  rw [activationDue, hc]

theorem execCommitActivation_due (hminute : s.clock.second % 60 = 0) (hdue : activationDue s = true) :
    exec .commitActivation s = .next (flush (activateCommit s)) := by
  show execCommitActivation s = _
  rw [execCommitActivation, if_pos (by simpa [atMinute] using hminute), activationTest, if_pos hdue]

theorem execCommitActivation_kept (hq : Quiet s) (h : s.clock.second % 60 ≠ 0 ∨ activationDue s = false) :
    exec .commitActivation s = .next s := by
  show execCommitActivation s = _
  by_cases hminute : s.clock.second % 60 = 0
  · have hdue : ¬ activationDue s = true := by
      rw [h.resolve_left (not_not.mpr hminute)]
      decide
    rw [execCommitActivation, if_pos (by simpa [atMinute] using hminute), activationTest, if_neg hdue, flush_of_quiet hq]
  · rw [execCommitActivation, if_neg (by simpa [atMinute] using hminute)]

/-- Settles O24: the clock and the minute decide the test, the list and the open snapshots its outcome. -/
theorem commitActivatesAtItsMinute : Obligations.CommitActivatesAtItsMinute := by
  intro s e m hq hc reached
  have hreached : activationDue s = true ↔ reached := by
    rw [activationDue_scheduled hc, clockReached_iff]
  refine ⟨fun hminute h => ?_, fun h => execCommitActivation_kept hq (h.imp_right fun h => ?_)⟩
  · have hexec := execCommitActivation_due hminute (hreached.mpr h)
    refine ⟨fun hfits hstale => ?_, fun hfits hstale => ?_, fun hfull => ?_⟩
    · rw [hexec, activateCommit, if_pos ((tableFits_iff s).mpr hfits), enterWaiting_none_stale hstale]
      exact ⟨_, rfl, flush_markAllDisplays (applied_quiet hq 0)⟩
    · rw [hexec, activateCommit, if_pos ((tableFits_iff s).mpr hfits), enterWaiting_stale hstale]
      exact congrArg Host.Outcome.next (flush_of_quiet (s := { s with commit := _ }) hq)
    · rw [hexec, activateCommit, if_neg fun h => absurd ((tableFits_iff s).mp h) (Nat.not_le.mpr hfull)]
      exact congrArg Host.Outcome.next (flush_of_quiet ((notify_quiet_iff _ _).mpr hq))
  · exact Bool.not_eq_true _ ▸ fun hdue => h (hreached.mp hdue)

/-! ### COMMIT_COMPLETION (R79, R80) -/

theorem completeIfDrained_drained (hc : s.commit = .waiting d) (h : d.awaited = 0) :
    completeIfDrained s = markAllDisplays (applied d.forced s) := by
  rw [completeIfDrained, hc]
  exact (if_pos h).trans (completeCommit_waiting [] hc)

theorem completeIfDrained_awaiting (hc : s.commit = .waiting d) (h : d.awaited ≠ 0) : completeIfDrained s = s := by
  rw [completeIfDrained, hc]
  exact if_neg h

theorem completeIfDrained_other (h : ∀ d, s.commit ≠ .waiting d) : completeIfDrained s = s := by
  unfold completeIfDrained
  split
  · next d hc => exact absurd hc (h d)
  · rfl

theorem execCommitCompletion_kept (hq : Quiet s) (h : completeIfDrained s = s) :
    exec .commitCompletion s = .next s := by
  show execCommitCompletion s = _
  rw [execCommitCompletion, h, flush_of_quiet hq]

theorem markDisplay_markAllDisplays (s : State) (p : CounterPort) :
    markDisplay p (markAllDisplays s) = markAllDisplays s := by
  rw [← State.setPort_self (markAllDisplays s) p, markDisplay_setPort, markAllDisplays_port]

/-! ### CANCEL of the last awaited snapshot (R54, R79) -/

/-- The close of the last awaited snapshot at a station, and its move to IDLE, before the displays are sent. -/
theorem cancelOp_completes {c : Port} (hitem : c.sale = .item) (hsnap : c.snapshot = some sn)
    (hswitch : c.calSwitch = .off) (hday : s.dayState = .trading) (hc : s.commit = .waiting d) (hlast : d.awaited = 1)
    (hstale : sn.generation = prevGen s.ret.generation) : cancelOp p (s.setPort p c) =
      markAllDisplays (applied d.forced (s.setPort p { closedPort s.ret.cal[p] c with sale := .idle, held := none })) := by
  let closed : Port := closedPort s.ret.cal[p] c
  let done := applied d.forced (s.setPort p closed)
  have hclose : closeSnapshot p (s.setPort p c) =
      (markAllDisplays done).setPort p { closed with displayDue := true } := by
    have h := closeSnapshotFor_setPort (s := s) (p := p) (named := []) hsnap
    rw [reportClose_completes (s := s.setPort p _) hc hstale (by omega)] at h
    have happlied := appliedFor_setPort (c := { closed with displayDue := true }) [] d.forced (s.setPort p closed) p
      (by rw [State.port_setPort_self])
    rw [State.setPort_setPort] at happlied
    exact h.trans ((congrArg markAllDisplays happlied).trans (markAllDisplays_setPort ..))
  have hfinal : applied d.forced (s.setPort p { closed with sale := .idle, held := none }) =
      done.setPort p { closed with sale := .idle, held := none } := by
    have happlied := appliedFor_setPort (c := { closed with sale := .idle, held := none }) [] d.forced
      (s.setPort p closed) p (by rw [State.port_setPort_self])
    rw [State.setPort_setPort] at happlied
    exact happlied
  have htrading : (markAllDisplays done).dayState = .trading := by
    simp only [done, applied, appliedFor, markAllDisplays_dayState, notify_dayState]
    exact hday
  rw [cancelOp, State.port_setPort_self, if_pos hitem, hclose, hfinal, markAllDisplays_setPort,
    toIdle_off (c := { closed with displayDue := true }) _ p hswitch hitem (by decide),
    dayTest_trading (s := (markAllDisplays done).setPort p _) htrading]

/-- Settles O25: completion by the commit state, CANCEL by the close it counts. -/
theorem drainedCommitCompletes : Obligations.DrainedCommitCompletes := by
  refine ⟨fun s hq => ⟨fun d hc h => ?_, fun d hc h => execCommitCompletion_kept hq (completeIfDrained_awaiting hc h),
    fun h => execCommitCompletion_kept hq (completeIfDrained_other h)⟩,
    fun s p sn d hready hswitch hday hc hlast hstale => ?cancel⟩
  · refine ⟨_, ?_, flush_markAllDisplays (applied_quiet hq d.forced)⟩
    show execCommitCompletion s = _
    rw [execCommitCompletion, completeIfDrained_drained hc h]
  case cancel =>
    obtain ⟨hq, hs, hitem, hsnap⟩ := hready
    have hown := cancelOp_completes (p := p) (c := reloadedPort s p) hitem hsnap hswitch hday hc hlast hstale
    refine ⟨_, ?_, flush_markAllDisplays (applied_quiet (hq.setPort ?_) _)⟩
    · show execCancel p s = _
      rw [execCancel, keyEvent_passed hs (salesGate_item hitem), hown, markDisplay_markAllDisplays]
      rfl
    · exact hq p

end Sys2Proof.Machine
end

section
/-! PROOFS. Frames on a port by its state, and the STATUS frame's report of switch and printer (R4, R6, R12, R13,
R116). -/

namespace Sys2Proof.Machine

variable {s : State} {p : CounterPort} {c : Port} {i : Instr} {sw : Switch} {pr : PrinterCondition}

/-! ### Which frames a port hands on -/

theorem scaleFrame_handed (h : ScaleFrame p i) (s : State) :
    ∃ f, exec i s = .next (flush (handOn p scaleOnly f s)) := by
  obtain h | rfl | ⟨n, rfl⟩ | ⟨w, x, y, z, rfl⟩ | ⟨n, o, rfl⟩ := h
  · obtain ⟨own, hexec⟩ := salesKey_event h s
    exact ⟨_, hexec⟩
  all_goals exact ⟨_, rfl⟩

theorem deviceFrame_handed (h : DeviceFrame p i) (s : State) :
    ∃ accepts f, exec i s = .next (flush (handOn p accepts f s)) := by
  obtain h | rfl | ⟨sw, pr, rfl⟩ := h
  · exact ⟨scaleOnly, scaleFrame_handed h s⟩
  · exact ⟨dispenserOnly, _, rfl⟩
  · exact ⟨anyKind, _, rfl⟩

/-- A frame that only a scale may send, from a station that is none, or TAKE_REQUEST of one that is no dispenser. -/
theorem wrongKind_handed (h : ScaleFrame p i ∧ (s.port p).kind ≠ some .scale ∨
      i = .takeRequest p ∧ (s.port p).kind ≠ some .dispenser) :
    ∃ accepts f, accepts (s.port p).kind = false ∧ exec i s = .next (flush (handOn p accepts f s)) := by
  obtain ⟨hframe, hkind⟩ | ⟨rfl, hkind⟩ := h
  · obtain ⟨f, hexec⟩ := scaleFrame_handed hframe s
    exact ⟨scaleOnly, f, decide_eq_false hkind, hexec⟩
  · exact ⟨dispenserOnly, _, decide_eq_false hkind, rfl⟩

section
variable {accepts : Option DeviceKind → Bool} {f : State → State}

theorem handOn_refused (h : (s.port p).state = .refused) :
    handOn p accepts f s = s.setPort p { s.port p with tx := (s.port p).tx ++ [.refused] } := by
  rw [handOn, h]
  rfl

theorem handOn_down (h : (s.port p).state = .down) : handOn p accepts f s = protocolError p s := by
  rw [handOn, h]

theorem handOn_wrongKind (hup : (s.port p).state = .up) (honline : (s.port p).online = true)
    (hkind : accepts (s.port p).kind = false) : handOn p accepts f s = protocolError p s := by
  simp only [handOn, hup, honline, hkind, if_true, Bool.false_eq_true, if_false]

theorem handOn_lost (hup : (s.port p).state = .up) (hoff : (s.port p).online = false) : handOn p accepts f s = s := by
  simp only [handOn, hup, hoff, Bool.false_eq_true, if_false]

end

theorem protocolError_eq (p : CounterPort) (s : State) : protocolError p s =
    s.setPort p { s.port p with errors := { (s.port p).errors with
      protocol := min 65535 ((s.port p).errors.protocol + 1) } } := rfl

/-- Settles O38: the port's state and the kinds that the frame's owner accepts decide. -/
theorem framesFollowPortState : Obligations.FramesFollowPortState := by
  intro s p i hq hframe
  obtain ⟨accepts, f, hexec⟩ := deviceFrame_handed hframe s
  have hcounted : flush (protocolError p s) = protocolError p s := by
    rw [protocolError_eq]
    exact flush_of_quiet (hq.setPort (hq p))
  refine ⟨fun hrefused => ?_, fun hcount => ?_, fun hup hoff => ?_⟩
  · rw [hexec, handOn_refused hrefused, flush_of_quiet (hq.setPort ?_)]
    exact hq p
  · rw [← protocolError_eq]
    obtain hdown | ⟨hup, honline, hwrong⟩ := hcount
    · rw [hexec, handOn_down hdown, hcounted]
    · obtain ⟨accepts, f, hkind, hexec⟩ := wrongKind_handed hwrong
      rw [hexec, handOn_wrongKind hup honline hkind, hcounted]
  · rw [hexec, handOn_lost hup hoff, flush_of_quiet hq]

/-! ### STATUS (R12, R13, R116) -/

theorem switchReport_same (s : State) (p : CounterPort) (h : c.calSwitch = sw) :
    switchReport p sw (s.setPort p c) = s.setPort p c := by
  rw [switchReport, State.port_setPort_self]
  exact if_pos h

theorem switchReport_on (s : State) (p : CounterPort) (hswitch : c.calSwitch = .off)
    (hsale : c.sale = .idle ∨ c.sale = .noOperator) (hservice : c.service ≠ .asking) :
    switchReport p .on (s.setPort p c) =
      s.setPort p { c with calSwitch := .on, sale := .calibrating, held := none, displayDue := true } := by
  have hmoved : setSale p .calibrating none (leaveCalling p (s.setPort p { c with calSwitch := .on })) =
      s.setPort p { c with calSwitch := .on, sale := .calibrating, held := none, displayDue := true } := by
    rw [leaveCalling_setPort, if_neg hservice, setSale_setPort, if_neg]
    rintro ⟨h, -⟩
    obtain h' | h' := hsale <;> exact absurd (h.symm.trans h') (by decide)
  unfold switchReport
  rw [State.port_setPort_self]
  dsimp only
  rw [if_neg (by rw [hswitch]; decide), modPort_setPort]
  obtain h | h := hsale <;> rw [h] at hmoved ⊢ <;> exact hmoved

theorem switchReport_off (s : State) (p : CounterPort) (hswitch : c.calSwitch = .on) (hsale : c.sale = .calibrating) :
    switchReport p .off (s.setPort p c) = s.setPort p { c with
      calSwitch := .off, held := none, sale := if c.operator = none then .noOperator else .idle
      displayDue := true } := by
  unfold switchReport
  rw [State.port_setPort_self]
  dsimp only
  rw [if_neg (by rw [hswitch]; decide), modPort_setPort, hsale]
  dsimp only
  rw [setSale_moves s p (c := { c with calSwitch := .off, sale := .calibrating }) (w := .calibrating) rfl (by split <;> decide)]
  cases ho : c.operator <;> rfl

theorem printerReport_ready (s : State) (p : CounterPort) (h : c.printer = .ready) :
    printerReport p .ready (s.setPort p c) = s.setPort p c := by
  unfold printerReport
  rw [State.port_setPort_self, h]

theorem printerReport_fault (s : State) (p : CounterPort) (c : Port) (h : pr ≠ .ready) :
    printerReport p pr (s.setPort p c) = s.setPort p { c with printer := .fault } := by
  cases pr with
  | ready => exact absurd rfl h
  | paperOut | jam =>
    unfold printerReport
    exact modPort_setPort ..

theorem printerReport_recovers (s : State) (p : CounterPort) (h : c.printer = .fault) :
    printerReport p .ready (s.setPort p c) = feedPrinter p (s.setPort p { c with printer := .ready }) := by
  unfold printerReport
  rw [State.port_setPort_self, h]
  dsimp only
  rw [modPort_setPort]

section
variable (hup : (s.port p).state = .up) (honline : (s.port p).online = true)
include hup honline

theorem exec_statusFrame_other (hq : Quiet s) (hkind : (s.port p).kind ≠ some .scale) (sw : Switch)
    (pr : PrinterCondition) : exec (.statusFrame p sw pr) s = .next (s.setPort p (reloadedPort s p)) := by
  show execStatusFrame p sw pr s = _
  rw [execStatusFrame, handOn_up hup honline rfl, reloadSupervision_eq, statusOp, State.port_setPort_self,
    if_neg (show ¬ (reloadedPort s p).kind = some .scale from hkind), flush_of_quiet (hq.setPort ?_)]
  exact hq p

theorem exec_statusFrame_scale (hkind : (s.port p).kind = some .scale) (sw : Switch) (pr : PrinterCondition) :
    exec (.statusFrame p sw pr) s =
      .next (flush (printerReport p pr (switchReport p sw (s.setPort p (reloadedPort s p))))) := by
  show execStatusFrame p sw pr s = _
  rw [execStatusFrame, handOn_up hup honline rfl, reloadSupervision_eq, statusOp, State.port_setPort_self,
    if_pos (show (reloadedPort s p).kind = some .scale from hkind)]

/-- A report that moves the station, which is then shown. -/
theorem exec_statusFrame_shown (hq : Quiet s) (hkind : (s.port p).kind = some .scale)
    (hc : c.state = (s.port p).state ∧ c.online = (s.port p).online ∧ c.kind = (s.port p).kind ∧
      c.displayDue = (s.port p).displayDue)
    (h : printerReport p pr (switchReport p sw (s.setPort p (reloadedPort s p))) =
      s.setPort p { c with supervision := s.ret.config.supervisionReload, displayDue := true }) :
    ∃ t, exec (.statusFrame p sw pr) s = .next t ∧ KeyAnswered s t p c := by
  obtain ⟨hstate, honline', hkind', hdue⟩ := hc
  have hanswered := keyAnswered_setPort (p := p) (b := true) ⟨hstate.trans hup, honline'.trans honline, hkind'.trans hkind⟩
    (hdue.trans (hq p)) hq rfl
  rw [markDisplay_setPort] at hanswered
  refine ⟨_, ?_, hanswered⟩
  rw [exec_statusFrame_scale hup honline hkind, h]

end

/-- Settles O39: the switch's report first, then the printer's. -/
theorem statusFrameReportsSwitchAndPrinter : Obligations.StatusFrameReportsSwitchAndPrinter := by
  intro s p sw pr hq hup honline reload
  refine ⟨fun hkind => exec_statusFrame_other hup honline hq hkind sw pr, fun hkind =>
    ⟨fun hsw hready hpr => ?same, fun hsw hpr => ?fault, fun k l rest hsw hpr hfault hpost hl hout => ?feeds,
      fun hoff hon hready hpr hsale hservice => ?turnedOn, fun hon hoff hready hpr hsale => ?turnedOff⟩⟩
  case same =>
    subst hpr
    rw [exec_statusFrame_scale hup honline hkind, switchReport_same s p (c := reloadedPort s p) hsw,
      printerReport_ready s p (c := reloadedPort s p) hready, flush_of_quiet (hq.setPort ?_)]
    · rfl
    · exact hq p
  case fault =>
    rw [exec_statusFrame_scale hup honline hkind, switchReport_same s p (c := reloadedPort s p) hsw,
      printerReport_fault s p _ hpr, flush_of_quiet (hq.setPort ?_)]
    · rfl
    · exact hq p
  case feeds =>
    subst hpr
    rw [exec_statusFrame_scale hup honline hkind, switchReport_same s p (c := reloadedPort s p) hsw,
      printerReport_recovers s p (c := reloadedPort s p) hfault,
      feedPrinter_setPort_sends (c := { reloadedPort s p with printer := .ready }) hpost hl
        (by simp [reachable, reloadedPort, hup, honline]) rfl hout, flush_of_quiet (hq.setPort ?_)]
    · rfl
    · exact hq p
  case turnedOn =>
    subst hpr hon
    refine exec_statusFrame_shown hup honline hq hkind ⟨rfl, rfl, rfl, rfl⟩ ?_
    rw [switchReport_on s p (c := reloadedPort s p) hoff hsale hservice,
      printerReport_ready s p (c := { reloadedPort s p with calSwitch := _, sale := _, held := _, displayDue := _ }) hready]
    rfl
  case turnedOff =>
    subst hpr hoff
    refine exec_statusFrame_shown hup honline hq hkind ⟨rfl, rfl, rfl, rfl⟩ ?_
    rw [switchReport_off s p (c := reloadedPort s p) hon hsale,
      printerReport_ready s p (c := { reloadedPort s p with calSwitch := _, sale := _, held := _, displayDue := _ }) hready]
    rfl

end Sys2Proof.Machine
end

section
/-! PROOFS. The end of a day: what its completion leaves, and DAY_CLOSE and DAY_CLOSE_COMPLETION (R172 to R178). -/

namespace Sys2Proof.Machine

variable {s t : State} {p : CounterPort} {k : TicketNo} {o : Order} {os : List Order} {figures : Prop}

/-! ### Notices (R194) -/

/-- The queue that a notice made at `stamp` leaves. -/
def NoticeQueue.noticed (stamp : Stamp) (b : NoticeBody) (q : NoticeQueue) : NoticeQueue :=
  if q.enables.master ∧ classEnabled q.enables b then q.push { stamp := stamp, body := b } else q

theorem notify_eq (b : NoticeBody) (s : State) :
    notify b s = { s with notices := s.notices.noticed s.clock.stamp b } := by
  rw [notify, NoticeQueue.noticed, apply_ite fun q => ({ s with notices := q } : State)]

theorem orderEnded_eq (s : State) (o : Order) : orderEnded s o = { s with notices := (orderEnded s o).notices } := by
  unfold orderEnded
  simp only [notify_eq]

theorem foldl_orderEnded_eq (os : List Order) : ∀ s, os.foldl orderEnded s =
    { s with notices := (os.foldl orderEnded s).notices } := by
  induction os with
  | nil => exact fun s => rfl
  | cons o os ih =>
    intro s
    rw [List.foldl_cons, ih, orderEnded_eq]

theorem foldl_orderEnded_off (h : s.notices.enables.master = false) : os.foldl orderEnded s = s := by
  induction os with
  | nil => rfl
  | cons o os ih =>
    have hoff : orderEnded s o = s := notify_off h
    rw [List.foldl_cons, hoff, ih]

/-! ### The live orders end (R161) -/

theorem endOrderByDay_notices (hn : s.notices = t.notices) (hc : s.clock = t.clock) (o : Order) :
    (endOrderByDay s o).notices = (orderEnded t o).notices := by
  unfold endOrderByDay orderEnded
  dsimp only
  cases o.state <;> simp only [setService_notices, freeOrder_notices, notify_eq, modRet_notices, modRet_clock, hn, hc,
    liveLines]

@[simp] theorem endOrderByDay_clock (s : State) (o : Order) : (endOrderByDay s o).clock = s.clock := by
  unfold endOrderByDay
  dsimp only
  split <;> simp

theorem foldl_endOrderByDay_notices (os : List Order) : ∀ s t, s.notices = t.notices → s.clock = t.clock →
    (os.foldl endOrderByDay s).notices = (os.foldl orderEnded t).notices := by
  induction os with
  | nil => exact fun s t hn _ => hn
  | cons o os ih =>
    intro s t hn hc
    refine ih _ _ (endOrderByDay_notices hn hc o) ?_
    rw [endOrderByDay_clock, hc, orderEnded_eq]

theorem endOrderByDay_ret (s : State) (o : Order) :
    (endOrderByDay s o).ret = countGrand { ordersClosedByDay := 1 } s.ret := by
  unfold endOrderByDay
  dsimp only
  split <;> simp only [setService_ret, freeOrder_ret, notify_ret] <;> rfl

theorem foldl_endOrderByDay_ret (os : List Order) : ∀ s, (os.foldl endOrderByDay s).ret =
    (countGrand { ordersClosedByDay := 1 })^[os.length] s.ret := by
  induction os with
  | nil => exact fun s => rfl
  | cons o os ih =>
    intro s
    rw [List.foldl_cons, ih, endOrderByDay_ret]
    rfl

theorem setTicket_ticket (k j : TicketNo) (r : TicketRec) (s : State) :
    (setTicket k r s).ticket j = if j = k then r else s.ticket j := by
  split
  · next h => rw [h, setTicket_ticket_self]
  · next h => exact setTicket_ticket_ne r s h

theorem endOrderByDay_ticket (s : State) (o : Order) (k : TicketNo) :
    (endOrderByDay s o).ticket k = if k = o.ticket then TicketRec.fresh else s.ticket k := by
  have hended (u : State) (hu : u.tickets = s.tickets) :
      (freeOrder o u).ticket k = if k = o.ticket then TicketRec.fresh else s.ticket k := by
    rw [freeOrder, freeTicket, setTicket_ticket]
    simp only [State.ticket, hu]
  unfold endOrderByDay
  dsimp only
  split
  · exact hended _ (by simp)
  · exact hended _ (by simp)

/-- An order that ends frees its ticket; the others keep theirs. -/
theorem foldl_endOrderByDay_ticket (os : List Order) (k : TicketNo) : ∀ s, (os.foldl endOrderByDay s).ticket k =
    if ∃ o ∈ os, o.ticket = k then TicketRec.fresh else s.ticket k := by
  induction os with
  | nil => exact fun s => by simp
  | cons o os ih =>
    intro s
    rw [List.foldl_cons, ih, endOrderByDay_ticket]
    by_cases ho : o.ticket = k <;> by_cases hos : ∃ x ∈ os, x.ticket = k <;> simp [ho, Ne.symm, eq_comm]

/-- The parts of a state that the orders' end does not reach. -/
def State.besideOrders (s : State) : State :=
  { s with
    ret := State.reset.ret, ports := s.ports.map fun c => { c with service := .free }, notices := State.reset.notices
    tickets := { s.tickets with recs := State.reset.tickets.recs }, orders := [] }

theorem besideOrders_setService (p : CounterPort) (v : ServiceState) (s : State) :
    (setService p v s).besideOrders = s.besideOrders := by
  have hports : (setService p v s).ports.map (fun c => { c with service := .free }) =
      s.ports.map fun c => { c with service := .free } := by
    refine Vector.ext fun i hi => ?_
    rw [Vector.getElem_map, Vector.getElem_map]
    have hport : (setService p v s).port ⟨i, hi⟩ = if ⟨i, hi⟩ = p then { s.port p with service := v }
        else s.port ⟨i, hi⟩ := modPort_port ..
    split at hport
    · next h => exact (congrArg (fun c : Port => { c with service := .free }) hport).trans (by rw [← h])
    · exact congrArg (fun c : Port => { c with service := .free }) hport
  exact congrArg (fun v => ({ s.besideOrders with ports := v } : State)) hports

theorem besideOrders_notify (b : NoticeBody) (s : State) : (notify b s).besideOrders = s.besideOrders := by
  rw [notify_eq]
  rfl

theorem endOrderByDay_besideOrders (s : State) (o : Order) :
    (endOrderByDay s o).besideOrders = s.besideOrders := by
  have hended (b : NoticeBody) (u : State) : (freeOrder o (notify b (modRet (countGrand { ordersClosedByDay := 1 }) u))).besideOrders =
      u.besideOrders := besideOrders_notify b (modRet (countGrand { ordersClosedByDay := 1 }) u)
  unfold endOrderByDay
  dsimp only
  split
  · exact (besideOrders_setService _ _ _).trans (hended _ s)
  · exact hended _ s

/-! ### The whole completion (R175 to R178) -/

theorem countGrand_iterate (d : GrandTotals) (n : Nat) : ∀ r : Retained, (countGrand d)^[n] r =
    { r with totals := { r.totals with grand := (fun g => g.move true d)^[n] r.totals.grand } } := by
  induction n with
  | zero => exact fun r => rfl
  | succ n ih => exact fun r => ih (countGrand d r)

/-- What the completion's first two steps leave (R161, R144): every order ended, every ticket freed. -/
structure LineEnded (s t : State) : Prop where
  beside : t.besideOrders = State.besideOrders
    { s with free := s.free + 1, tickets := { s.tickets with waiting := [], calling := [], skipped := [] } }
  orders : t.orders = []
  tickets : t.tickets.recs = Vector.replicate 100 TicketRec.fresh
  service : ∀ p, (t.port p).service = .free
  ret : t.ret = { s.ret with
    totals := closedTotals s.orders.length
      ((List.finRange 100).filter fun k => discardable (s.ticket k).state).length s.ret.totals }

theorem discardable_count (s : State) : (s.tickets.recs.toList.filter fun r => discardable r.state).length =
    ((List.finRange 100).filter fun k => discardable (s.ticket k).state).length := by
  have hlist : s.tickets.recs.toList = (List.finRange 100).map fun k => s.ticket k :=
    List.ext_getElem (by simp) fun i _ _ => by simp [State.ticket]
  rw [hlist, List.filter_map, List.length_map]
  rfl

theorem endServiceLine_besideOrders (s : State) : (endServiceLine s).besideOrders =
    State.besideOrders { s with tickets := { s.tickets with waiting := [], calling := [], skipped := [] } } := by
  have hports : (endServiceLine s).ports.map (fun c => { c with service := .free }) =
      s.ports.map fun c => { c with service := .free } := by
    refine Vector.ext fun i hi => ?_
    rw [Vector.getElem_map, Vector.getElem_map]
    have hport := endServiceLine_port s ⟨i, hi⟩
    split at hport <;> exact congrArg (fun c : Port => { c with service := .free }) hport
  exact congrArg (fun v => ({ s with
    ret := State.reset.ret, ports := v, notices := State.reset.notices, orders := []
    tickets := { s.tickets with recs := State.reset.tickets.recs, waiting := [], calling := [], skipped := [] } } : State)) hports

theorem endServiceLine_ended (h : LineKept figures s) (hempty : s.composer.Empty) :
    LineEnded s (endServiceLine (endLiveOrders s)) := by
  obtain ⟨hended, horders⟩ := endLiveOrders_line h hempty
  let ended := sortBy (fun o => Config.rank s.free o.number) s.orders
  have hperm : ended.Perm s.orders := sortBy_perm _ _
  have hbeside : (endLiveOrders s).besideOrders = ({ s with free := s.free + 1 } : State).besideOrders :=
    foldl_keeps (g := State.besideOrders) endOrderByDay_besideOrders _ _
  have hret : (endLiveOrders s).ret = (countGrand { ordersClosedByDay := 1 })^[s.orders.length] s.ret := by
    rw [← hperm.length_eq]
    exact foldl_endOrderByDay_ret ended { s with free := s.free + 1 }
  have hdiscardable (k : TicketNo) : discardable ((endLiveOrders s).ticket k).state = discardable (s.ticket k).state := by
    have hticket : (endLiveOrders s).ticket k = if ∃ o ∈ ended, o.ticket = k then TicketRec.fresh else s.ticket k :=
      foldl_endOrderByDay_ticket ended k { s with free := s.free + 1 }
    rw [hticket]
    split
    · next hserved =>
      obtain ⟨o, ho, hk⟩ := hserved
      have hstate : (s.ticket k).state = .inService := (h.numbered.iff k).mpr ⟨o, hperm.mem_iff.mp ho, hk⟩
      rw [hstate]
      rfl
    · rfl
  refine { beside := ?_, orders := horders, tickets := ?_, service := endServiceLine_service hended horders, ret := ?_ }
  · rw [endServiceLine_besideOrders]
    exact congrArg (fun u : State => { u with tickets := { u.tickets with waiting := [], calling := [], skipped := [] } }) hbeside
  · refine Vector.ext fun i hi => ?_
    rw [Vector.getElem_replicate]
    exact endServiceLine_ticket hended horders ⟨i, hi⟩
  · have hcount : (endServiceLine (endLiveOrders s)).ret =
        countGrand { ticketsDiscarded := ((endLiveOrders s).tickets.recs.toList.filter fun r => discardable r.state).length }
          (endLiveOrders s).ret := rfl
    rw [hcount, discardable_count, hret, countGrand_iterate]
    simp only [hdiscardable]
    unfold closedTotals
    rw [List.foldl_const, List.length_range]
    rfl

theorem LineEnded.eq (h : LineEnded s t) : t = { s with
    ret := { s.ret with
      totals := closedTotals s.orders.length
        ((List.finRange 100).filter fun k => discardable (s.ticket k).state).length s.ret.totals }
    ports := s.ports.map fun c => { c with service := .free }
    notices := t.notices
    tickets := { s.tickets with
      recs := Vector.replicate 100 TicketRec.fresh, waiting := [], calling := [], skipped := [] }
    orders := []
    free := s.free + 1 } := by
  have hports : t.ports = t.besideOrders.ports := by
    refine Vector.ext fun i hi => ?_
    have hport : t.port ⟨i, hi⟩ = { t.port ⟨i, hi⟩ with service := .free } := by rw [← h.service ⟨i, hi⟩]
    exact hport.trans (Vector.getElem_map (fun c : Port => { c with service := .free }) hi).symm
  calc t = { t.besideOrders with
        ret := t.ret, ports := t.ports, notices := t.notices, orders := t.orders
        tickets := { t.besideOrders.tickets with recs := t.tickets.recs } } := rfl
    _ = _ := by
      rw [hports, h.ret, h.orders, h.tickets, h.beside]
      rfl

/-- A completed day close on an idle composer, with the service line in agreement: the orders end in some order. -/
theorem completeDayClose_eq (h : LineKept figures s) (hempty : s.composer.Empty) :
    ∃ ended : List Order, ended.Perm s.orders ∧
      completeDayClose s = markAllDisplays (dayClosedWith ended s) := by
  refine ⟨sortBy (fun o => Config.rank s.free o.number) s.orders, sortBy_perm _ _, ?_⟩
  have hline := (endServiceLine_ended h hempty).eq
  have hnotices : (endServiceLine (endLiveOrders s)).notices =
      ((sortBy (fun o => Config.rank s.free o.number) s.orders).foldl orderEnded (dayClosedState s)).notices :=
    foldl_endOrderByDay_notices _ { s with free := s.free + 1 } (dayClosedState s) rfl rfl
  rw [dayClosedWith, foldl_orderEnded_eq, ← hnotices]
  unfold completeDayClose
  generalize (endServiceLine (endLiveOrders s)).notices = q at hline
  rw [hline]
  rfl

theorem dayTest_quiet (h : LineKept figures s) {n : Nat} {b : Bool} (hday : s.dayState = .closing n b)
    (hsnaps : ∀ p : CounterPort, (s.port p).snapshot = none) (hempty : s.composer.Empty) :
    ∃ ended : List Order, ended.Perm s.orders ∧ dayTest s = markAllDisplays (dayClosedWith ended s) := by
  have hready : closeReady s = true := (closeReady_iff s).mpr ⟨⟨n, b, hday⟩, hsnaps, hempty.1, hempty.2⟩
  rw [dayTest, if_pos hready]
  exact completeDayClose_eq h hempty

theorem dayTest_busy (h : (∃ p : CounterPort, (s.port p).snapshot ≠ none) ∨ s.composer.queue ≠ [] ∨
    s.composer.current ≠ none) : dayTest s = s := by
  refine if_neg fun hready => ?_
  obtain ⟨-, hsnaps, hqueue, hcurrent⟩ := (closeReady_iff s).mp hready
  obtain ⟨p, hp⟩ | h | h := h
  · exact hp (hsnaps p)
  · exact h hqueue
  · exact h hcurrent

theorem dayClosedWith_quiet (hq : Quiet s) (ended : List Order) : Quiet (dayClosedWith ended s) := by
  rw [dayClosedWith, foldl_orderEnded_eq, notify_quiet_iff]
  intro p
  have hport : (dayClosedState s).port p = { s.port p with service := .free } := Vector.getElem_map _ p.isLt
  exact (congrArg Port.displayDue hport).trans (hq p)

theorem dayClosedWith_off (h : s.notices.enables.master = false) (ended : List Order) :
    dayClosedWith ended s = dayClosedState s := by
  rw [dayClosedWith, foldl_orderEnded_off (s := dayClosedState s) h]
  exact notify_off (s := dayClosedState s) h

theorem composerSound_of_empty (h : s.composer.Empty) : ComposerSound s := by
  obtain ⟨hqueue, hcurrent⟩ := h
  refine ⟨by rw [hqueue]; exact List.nodup_nil, fun c hc => ?_, fun c hc => ?_⟩ <;>
    rw [hcurrent] at hc <;> cases hc

/-- Settles O30: the completion test, and what a completed close leaves. -/
theorem dayCloseCompletes : Obligations.DayCloseCompletes := by
  intro s n b hq hday
  have hcompletes (hs : ServiceSound s) (hsnaps : ∀ p : CounterPort, (s.port p).snapshot = none)
      (hempty : s.composer.Empty) : ∃ (ended : List Order) (t : State), ended.Perm s.orders ∧
        exec .dayCloseCompletion s = .next t ∧ EveryStationShown (dayClosedWith ended s) t := by
    have hline : LineKept False s := lineSound_of (composerSound_of_empty hempty) hs False.elim
    obtain ⟨ended, hperm, hclosed⟩ := dayTest_quiet hline hday hsnaps hempty
    refine ⟨ended, _, hperm, ?_, flush_markAllDisplays (dayClosedWith_quiet hq ended)⟩
    show execDayCloseCompletion s = _
    rw [execDayCloseCompletion, hclosed]
  refine ⟨fun hs hsnaps hqueue hcurrent hoff => ?_, fun hs hsnaps hqueue hcurrent =>
    hcompletes hs hsnaps ⟨hqueue, hcurrent⟩, fun hbusy => ?_⟩
  · obtain ⟨ended, t, -, hexec, hshown⟩ := hcompletes hs hsnaps ⟨hqueue, hcurrent⟩
    rw [dayClosedWith_off hoff] at hshown
    exact ⟨t, hexec, hshown⟩
  · show execDayCloseCompletion s = _
    rw [execDayCloseCompletion, dayTest_busy hbusy, flush_of_quiet hq]

/-! ### DAY_CLOSE (R172) -/

theorem dayCloseOp_refused {tag : Nat} {code : ResultCode} (h : dayCloseRefusal s = some code) :
    dayCloseOp tag s = reply tag code .none s := by
  rw [dayCloseOp, h]
  rfl

theorem dayCloseOp_begins {tag : Nat} (hcommit : s.commit = .editing) (hday : s.dayState = .trading) :
    dayCloseOp tag s =
      reply tag .ok (.day (beginClose s).dayState (beginClose s).ret.day.number) (beginClose s) := by
  have hnone : dayCloseRefusal s = none := by simp [dayCloseRefusal, hcommit, hday, DayState.isClosing]
  rw [dayCloseOp, hnone]

/-- Displays owed before the completion are owed after it. -/
theorem dayClosedState_marked (s : State) :
    markAllDisplays (dayClosedState (markAllDisplays s)) = markAllDisplays (dayClosedState s) := by
  have hport (u : State) (p : CounterPort) : (dayClosedState u).port p = { u.port p with service := .free } :=
    Vector.getElem_map _ p.isLt
  refine State.ext_ports _ _ (fun p => ?_) rfl
  rw [markAllDisplays_port, markAllDisplays_port, hport, hport, markAllDisplays_port]

theorem notify_markAllDisplays (b : NoticeBody) (s : State) :
    notify b (markAllDisplays s) = markAllDisplays (notify b s) := by
  rw [notify_eq, notify_eq]
  rfl

/-- A close that begins on a quiet counter with no live order completes at once. -/
theorem beginClose_quiet (h : LineKept figures s) (hsnaps : ∀ p : CounterPort, (s.port p).snapshot = none)
    (hempty : s.composer.Empty) (horders : s.orders = []) :
    beginClose s = markAllDisplays (dayClosedWith [] s) := by
  let closing : State := { s with dayState := .closing s.ret.config.closeDrain false }
  have hline : LineKept figures (markAllDisplays closing) := h.congr (by rw [floor_markAllDisplays]; rfl)
  obtain ⟨ended, hperm, hclosed⟩ := dayTest_quiet hline rfl
    (fun p => by rw [markAllDisplays_port]; exact hsnaps p) hempty
  have hended : ended = [] := by
    rw [markAllDisplays_orders, show closing.orders = [] from horders] at hperm
    exact hperm.eq_nil
  have hbegun : beginClose s = dayTest (markAllDisplays closing) := rfl
  have hmarked := dayClosedState_marked closing
  rw [hbegun, hclosed, hended]
  simp only [dayClosedWith, List.foldl_nil, ← notify_markAllDisplays]
  rw [hmarked]
  rfl

/-- Settles O29. -/
theorem dayCloseBeginsOrCompletes : Obligations.DayCloseBeginsOrCompletes := by
  refine ⟨fun s tag hopen => ⟨fun hcommit hday hbusy => ?begins, fun hcommit => ?pending, fun n b hcommit hday => ?busy⟩,
    fun s tag hopen hs hcommit hday hsnaps hqueue hcurrent horders => ?completes⟩
  case begins =>
    have hbegun : beginClose (uplinkRaised s) =
        markAllDisplays { uplinkRaised s with dayState := .closing s.ret.config.closeDrain false } := by
      unfold beginClose
      refine dayTest_busy (hbusy.imp_left fun ⟨p, hp⟩ => ⟨p, ?_⟩)
      rw [markAllDisplays_port]
      exact hp
    refine exec_replied_shown (base := { s with dayState := .closing s.ret.config.closeDrain false }) hopen rfl hopen.1 ?_
    rw [dayCloseOp_begins (s := uplinkRaised s) hcommit hday, hbegun]
    rfl
  case pending =>
    exact exec_refused hopen rfl (dayCloseOp_refused (if_pos hcommit))
  case busy =>
    refine exec_refused hopen rfl (dayCloseOp_refused ?_)
    exact (if_neg (not_not.mpr hcommit)).trans (if_pos (by simp [uplinkRaised, hday, DayState.isClosing]))
  case completes =>
    intro u
    have hline : LineKept False s := lineSound_of (composerSound_of_empty ⟨hqueue, hcurrent⟩) hs False.elim
    have hbegun := beginClose_quiet (s := uplinkRaised s) (figures := False) hline hsnaps ⟨hqueue, hcurrent⟩ horders
    have hraised : dayClosedWith [] (uplinkRaised s) = uplinkRaised (dayClosedWith [] s) :=
      notify_uplinkRaised _ (dayClosedState s)
    have hday' : (dayClosedWith [] s).dayState = .trading := notify_dayState _ (dayClosedState s)
    have hret : (dayClosedWith [] s).ret = u.ret := notify_ret _ (dayClosedState s)
    obtain ⟨t, hexec, hshown⟩ := exec_replied_shown (i := .dayClose tag) (base := dayClosedWith [] s) hopen rfl
      (dayClosedWith_quiet hopen.1 []) (own := dayCloseOp tag) (code := .ok) (tag := tag)
      (data := .day .trading u.ret.day.number) (by
        rw [dayCloseOp_begins (s := uplinkRaised s) hcommit hday, hbegun, hraised, ← hret, ← hday']
        rfl)
    exact ⟨t, closingRecord s, hexec, rfl, hshown⟩

end Sys2Proof.Machine
end

section
/-! PROOFS. The forced cancels of the two drains, one station after another (R62, R80, R173). -/

namespace Sys2Proof.Machine

variable {s t u : State} {p q : CounterPort} {c : Port} {m : MsgCode} {sn : Snapshot} {d : CommitDrain}
  {done rest : List CounterPort} {figures : Prop}

/-! ### One forced cancel (R62) -/

/-- A forced cancel counted at its station and in the grand group. -/
def Retained.cancelCounted (p : CounterPort) (r : Retained) : Retained :=
  countGrand { forcedCancels := 1 } (countStation p { forcedCancels := 1 } r)

/-- A cancel that the commit drain makes counts in the commit record too (R80). -/
def CommitState.cancelCounted (m : MsgCode) : CommitState → CommitState
  | .waiting d => if m = .priceChanged then .waiting { d with forced := d.forced + 1 } else .waiting d
  | other => other

/-- The close that a forced cancel makes at `p`, counted. -/
def closedByCancel (m : MsgCode) (p : CounterPort) (sn : Snapshot) (s : State) : State :=
  reportClose [] sn.generation
    (State.setPort { s with ret := s.ret.cancelCounted p, commit := s.commit.cancelCounted m } p
      { closedPort s.ret.cal[p] (s.port p) with displayDue := true })

theorem forcedCancel_eq (m : MsgCode) (hsnap : (s.port p).snapshot = some sn) :
    forcedCancel m p s = toIdle p (some m) (closedByCancel m p sn s) := by
  have hcounted : forcedCancel m p s = toIdle p (some m) (closeSnapshot p
      { s with ret := s.ret.cancelCounted p, commit := s.commit.cancelCounted m }) := by
    unfold forcedCancel
    dsimp only
    split
    · next d hd =>
      have hd : s.commit = .waiting d := hd
      rw [hd]
      rfl
    · next m _ _ h =>
      refine congrArg (fun c => toIdle p (some m) (closeSnapshot p { s with ret := s.ret.cancelCounted p, commit := c })) ?_
      cases hd : s.commit with
      | waiting d => exact (if_neg fun hm => h d hm hd).symm
      | editing | scheduled => rfl
  have hclose := closeSnapshotFor_setPort (named := []) (p := p) (c := s.port p)
    (s := { s with ret := s.ret.cancelCounted p, commit := s.commit.cancelCounted m }) hsnap
  rw [show State.setPort _ p (s.port p) = _ from
    State.setPort_self { s with ret := s.ret.cancelCounted p, commit := s.commit.cancelCounted m } p] at hclose
  exact hcounted.trans (congrArg _ hclose)

/-- The port that a move out of ITEM with a message leaves (R12, R18). -/
def Port.movedOut (m : MsgCode) (v : ServiceState) (c : Port) : Port :=
  { c with
    sale := if c.calSwitch = .on then .calibrating else .idle, held := some m, service := v, displayDue := true }

theorem setSale_message (s : State) (p : CounterPort) (c : Port) (v : SaleState) (m : MsgCode) :
    setSale p v (some m) (s.setPort p c) = s.setPort p { c with sale := v, held := some m, displayDue := true } := by
  rw [setSale_setPort, if_neg fun h => Option.some_ne_none m h.2]

theorem toIdle_moves (s : State) (p : CounterPort) (c : Port) (m : MsgCode) : ∃ calling v,
    toIdle p (some m) (s.setPort p c) =
      State.setPort { s with tickets := { s.tickets with calling := calling } } p (c.movedOut m v) := by
  rw [toIdle, State.port_setPort_self]
  by_cases hswitch : c.calSwitch = .on
  · rw [if_pos hswitch, leaveCalling_setPort]
    split
    · refine ⟨s.tickets.calling.filter (· ≠ p), .free, ?_⟩
      rw [setSale_message, Port.movedOut, if_pos hswitch]
    · refine ⟨s.tickets.calling, c.service, ?_⟩
      rw [setSale_message, Port.movedOut, if_pos hswitch]
  · refine ⟨s.tickets.calling, c.service, ?_⟩
    rw [if_neg hswitch, setSale_message, Port.movedOut, if_neg hswitch]

/-! ### What a counted close keeps -/

theorem reportClose_port (named : List Nat) (g : Nat) (s : State) (q : CounterPort) :
    ∃ b, (reportClose named g s).port q = { s.port q with displayDue := b } ∧
      ((s.port q).displayDue = true → b = true) := by
  obtain h | ⟨d, -, -, ⟨-, h⟩ | ⟨-, h⟩⟩ := reportClose_cases named g s <;> rw [h]
  · exact ⟨_, rfl, id⟩
  · exact ⟨(s.port q).displayDue, rfl, id⟩
  · refine ⟨true, ?_, fun _ => rfl⟩
    rw [completeCommit_waiting named rfl, markAllDisplays_port, appliedFor, notify_port]
    rfl

theorem reportClose_totals (named : List Nat) (g : Nat) (s : State) :
    (reportClose named g s).ret.totals = s.ret.totals ∧ (reportClose named g s).ret.cal = s.ret.cal := by
  obtain h | ⟨d, -, -, ⟨-, h⟩ | ⟨-, h⟩⟩ := reportClose_cases named g s <;> rw [h]
  · exact ⟨rfl, rfl⟩
  · exact ⟨rfl, rfl⟩
  · rw [completeCommit_waiting named rfl, markAllDisplays_ret, appliedFor, notify_ret]
    exact ⟨rfl, rfl⟩

/-! ### A run of forced cancels -/

/-- The port that a forced cancel leaves. -/
def Port.cancelled (cal : Option CalRecord) (m : MsgCode) (v : ServiceState) (c : Port) : Port :=
  (closedPort cal c).movedOut m v

/-- The state `t` after the forced cancels of `s` at the stations `done`, whatever they did to the commit. -/
structure CancelledAt (m : MsgCode) (s t : State) (done : List CounterPort) : Prop where
  cancelled : ∀ q ∈ done, ∃ v, t.port q = (s.port q).cancelled s.ret.cal[q] m v
  others : ∀ q, q ∉ done → ∃ b, t.port q = { s.port q with displayDue := b }
  totals : t.ret.totals = (done.foldl (fun r q => r.cancelCounted q) s.ret).totals
  cal : t.ret.cal = s.ret.cal

theorem CancelledAt.refl (m : MsgCode) (s : State) : CancelledAt m s s [] :=
  ⟨fun _ h => absurd h List.not_mem_nil, fun _ _ => ⟨_, rfl⟩, rfl, rfl⟩

theorem cancelCounted_totals {r r' : Retained} (h : r.totals = r'.totals) (q : CounterPort) :
    (r.cancelCounted q).totals = (r'.cancelCounted q).totals := by
  simp only [Retained.cancelCounted, countGrand, countStation, h]

/-- What the close of a forced cancel leaves at the ports. -/
theorem closedByCancel_port (m : MsgCode) (p : CounterPort) (sn : Snapshot) (s : State) :
    (closedByCancel m p sn s).port p = { closedPort s.ret.cal[p] (s.port p) with displayDue := true } ∧
    ∀ q, q ≠ p → ∃ b, (closedByCancel m p sn s).port q = { s.port q with displayDue := b } ∧
      ((s.port q).displayDue = true → b = true) := by
  have hport := reportClose_port [] sn.generation (State.setPort
    { s with ret := s.ret.cancelCounted p, commit := s.commit.cancelCounted m } p
      { closedPort s.ret.cal[p] (s.port p) with displayDue := true })
  constructor
  · obtain ⟨b, hb, htrue⟩ := hport p
    rw [State.port_setPort_self] at hb htrue
    rw [htrue rfl] at hb
    exact hb
  · intro q hq
    have hother := hport q
    rw [State.port_setPort_ne _ _ hq] at hother
    exact hother

/-- One more forced cancel, at a station whose snapshot is open. -/
theorem CancelledAt.snoc (h : CancelledAt m s t done) (hq : q ∉ done) (hsnap : (s.port q).snapshot = some sn) :
    CancelledAt m s (forcedCancel m q t) (done ++ [q]) := by
  obtain ⟨b, hport⟩ := h.others q hq
  have hopen : (t.port q).snapshot = some sn := by rw [hport]; exact hsnap
  obtain ⟨hclosed, hkept⟩ := closedByCancel_port m q sn t
  obtain ⟨htotals, hcal⟩ := reportClose_totals [] sn.generation (State.setPort
      { t with ret := t.ret.cancelCounted q, commit := t.commit.cancelCounted m } q
        { closedPort t.ret.cal[q] (t.port q) with displayDue := true })
  obtain ⟨calling, v, hmoved⟩ := toIdle_moves (closedByCancel m q sn t) q ((closedByCancel m q sn t).port q) m
  rw [State.setPort_self, hclosed, h.cal, hport] at hmoved
  rw [forcedCancel_eq m hopen, hmoved]
  refine ⟨fun x hx => ?_, fun x hx => ?_, ?_, hcal.trans h.cal⟩
  · by_cases hxq : x = q
    · subst hxq
      exact ⟨v, by rw [State.port_setPort_self]; rfl⟩
    · obtain ⟨w, hw⟩ := h.cancelled x ((List.mem_append.mp hx).resolve_right (by simpa using hxq))
      obtain ⟨b', hb, htrue⟩ := hkept x hxq
      rw [htrue (by rw [hw]; rfl), hw] at hb
      exact ⟨w, by rw [State.port_setPort_ne _ _ hxq]; exact hb⟩
  · rw [List.mem_append, not_or, List.mem_singleton] at hx
    obtain ⟨b', hb, -⟩ := hkept x hx.2
    obtain ⟨b'', hb'⟩ := h.others x hx.1
    rw [hb'] at hb
    exact ⟨b', by rw [State.port_setPort_ne _ _ hx.2]; exact hb⟩
  · rw [List.foldl_append]
    exact htotals.trans (cancelCounted_totals h.totals q)

theorem CancelledAt.run (rest : List CounterPort) : ∀ t done, CancelledAt m s t done → (done ++ rest).Nodup →
    (∀ q ∈ rest, (s.port q).snapshot ≠ none) →
    CancelledAt m s (rest.foldl (fun acc q => forcedCancel m q acc) t) (done ++ rest) := by
  induction rest with
  | nil => exact fun t done h _ _ => (List.append_nil done).symm ▸ h
  | cons q rest ih =>
    intro t done h hnodup hopen
    obtain ⟨sn, hsn⟩ := Option.ne_none_iff_exists'.mp (hopen q List.mem_cons_self)
    have hq : q ∉ done := fun hmem =>
      (List.nodup_append.mp hnodup).2.2 q hmem q List.mem_cons_self rfl
    rw [List.append_cons] at hnodup ⊢
    exact ih _ _ (h.snoc hq hsn) hnodup fun x hx => hopen x (List.mem_cons_of_mem q hx)

/-! ### The figures of a run -/

theorem cancelCounted_stations (q p : CounterPort) (r : Retained) : (r.cancelCounted q).totals.stations[p] =
    if p = q then r.totals.stations[p].move true { forcedCancels := 1 } else r.totals.stations[p] := by
  simp only [Retained.cancelCounted, countGrand, countStation, Totals.atGrand, Totals.atStation, Fin.getElem_fin,
    Vector.getElem_set]
  by_cases h : p = q
  · subst h
    simp
  · rw [if_neg h, if_neg fun e => h (Fin.ext e.symm)]

theorem foldl_cancelCounted_stations (p : CounterPort) (l : List CounterPort) : ∀ r : Retained, l.Nodup →
    (l.foldl (fun r q => r.cancelCounted q) r).totals.stations[p] =
      if p ∈ l then r.totals.stations[p].move true { forcedCancels := 1 } else r.totals.stations[p] := by
  induction l with
  | nil => exact fun r _ => by simp
  | cons q l ih =>
    intro r hnodup
    obtain ⟨hq, hl⟩ := List.nodup_cons.mp hnodup
    rw [List.foldl_cons, ih _ hl, cancelCounted_stations]
    by_cases h : p = q
    · subst h
      simp [hq]
    · simp [h]

theorem foldl_cancelCounted_grand (l : List CounterPort) : ∀ r : Retained,
    (l.foldl (fun r q => r.cancelCounted q) r).totals.grand =
      l.foldl (fun g _ => g.move true { forcedCancels := 1 }) r.totals.grand := by
  induction l with
  | nil => exact fun r => rfl
  | cons q l ih => exact fun r => ih (r.cancelCounted q)

theorem flushPort_kept (s : State) (p : CounterPort) :
    ∃ l, flushPort s p = { s.port p with tx := l, displayDue := false } := by
  by_cases hdue : (s.port p).displayDue = true
  · by_cases hs : ScaleOnline s p
    · exact ⟨_, flushPort_of_scaleOnline hs hdue⟩
    · exact ⟨_, flushPort_of_not_scaleOnline hs hdue⟩
  · refine ⟨(s.port p).tx, ?_⟩
    rw [Bool.not_eq_true] at hdue
    rw [flushPort_of_due_false s p hdue, ← hdue]

/-! ### The commit's drain (R80) -/

/-- What a run of `k` closes that the drain awaits leaves of the commit. -/
structure DrainedBy (d : CommitDrain) (s t : State) (k : Nat) : Prop where
  going : k < d.awaited → t.commit = .waiting { timer := 0, expired := true, awaited := d.awaited - k
                                                forced := d.forced + k } ∧
    t.ret.generation = s.ret.generation ∧ t.staged = s.staged
  ended : 0 < k → k = d.awaited → t.commit = .editing ∧ t.staged = [] ∧
    t.ret.generation = (s.ret.generation + 1) % 65536

theorem DrainedBy.succ {k : Nat} (h : DrainedBy d s t k) (hsnap : (t.port q).snapshot = some sn)
    (hstale : sn.generation = prevGen s.ret.generation) : DrainedBy d s (forcedCancel .priceChanged q t) (k + 1) := by
  obtain ⟨calling, v, hmoved⟩ := toIdle_moves (closedByCancel .priceChanged q sn t) q
    ((closedByCancel .priceChanged q sn t).port q) .priceChanged
  rw [State.setPort_self] at hmoved
  rw [forcedCancel_eq .priceChanged hsnap, hmoved]
  by_cases hk : k < d.awaited
  · obtain ⟨hcommit, hgeneration, hstaged⟩ := h.going hk
    let counted : State := State.setPort
      { t with ret := t.ret.cancelCounted q, commit := t.commit.cancelCounted .priceChanged } q
      { closedPort t.ret.cal[q] (t.port q) with displayDue := true }
    have hd : counted.commit = .waiting { timer := 0, expired := true, awaited := d.awaited - k
                                          forced := d.forced + k + 1 } := by
      show t.commit.cancelCounted .priceChanged = _
      rw [hcommit]
      rfl
    have hg : sn.generation = prevGen counted.ret.generation := by
      rw [hstale, ← hgeneration]
      rfl
    refine ⟨fun hmore => ?_, fun _ hlast => ?_⟩
    · have hclosed : closedByCancel .priceChanged q sn t = _ := reportClose_counted (s := counted) hd hg (by dsimp only; omega)
      rw [hclosed]
      exact ⟨congrArg _ (congrArg (fun n => CommitDrain.mk 0 true n _) (by dsimp only; omega)), hgeneration, hstaged⟩
    · have hclosed : closedByCancel .priceChanged q sn t = _ := reportClose_completes (s := counted) hd hg (by dsimp only; omega)
      rw [hclosed]
      refine ⟨applied_commit _ counted, ?_, (applied_generation _ counted).trans (by rw [← hgeneration]; rfl)⟩
      exact notify_staged _ _
  · exact ⟨fun h => by omega, fun _ _ => by omega⟩

theorem DrainedBy.run (rest : List CounterPort) : ∀ t done, CancelledAt .priceChanged s t done →
    (done ++ rest).Nodup → (∀ q ∈ rest, ∃ sn, (s.port q).snapshot = some sn ∧ sn.generation = prevGen s.ret.generation) →
    DrainedBy d s t done.length →
    DrainedBy d s (rest.foldl (fun acc q => forcedCancel .priceChanged q acc) t) (done ++ rest).length := by
  induction rest with
  | nil => exact fun t done _ _ _ h => (List.append_nil done).symm ▸ h
  | cons q rest ih =>
    intro t done hat hnodup hstale h
    obtain ⟨sn, hsn, hg⟩ := hstale q List.mem_cons_self
    have hq : q ∉ done := fun hmem => (List.nodup_append.mp hnodup).2.2 q hmem q List.mem_cons_self rfl
    obtain ⟨b, hport⟩ := hat.others q hq
    have hopen : (t.port q).snapshot = some sn := by rw [hport]; exact hsn
    rw [List.append_cons] at hnodup ⊢
    refine ih _ _ (hat.snoc hq hsn) hnodup (fun x hx => hstale x (List.mem_cons_of_mem q hx)) ?_
    rw [List.length_append]
    exact h.succ hopen hg

theorem completeIfDrained_cases (s : State) : completeIfDrained s = s ∨
    ∃ d, s.commit = .waiting d ∧ d.awaited = 0 ∧ completeIfDrained s = markAllDisplays (applied d.forced s) := by
  cases hc : s.commit with
  | waiting d =>
    by_cases h : d.awaited = 0
    · exact .inr ⟨d, rfl, h, completeIfDrained_drained hc h⟩
    · exact .inl (completeIfDrained_awaiting hc h)
  | editing | scheduled => exact .inl (completeIfDrained_other fun d h => by rw [hc] at h; cases h)

theorem CancelledAt.completeIfDrained (h : CancelledAt m s t done) : CancelledAt m s (completeIfDrained t) done := by
  obtain he | ⟨d, -, -, he⟩ := completeIfDrained_cases t <;> rw [he]
  · exact h
  · refine ⟨fun q hq => ?_, fun q hq => ?_, ?_, ?_⟩
    · obtain ⟨v, hv⟩ := h.cancelled q hq
      refine ⟨v, ?_⟩
      rw [markAllDisplays_port, applied_port, hv]
      rfl
    · obtain ⟨b, hb⟩ := h.others q hq
      exact ⟨true, by rw [markAllDisplays_port, applied_port, hb]⟩
    · rw [markAllDisplays_ret, applied, appliedFor, notify_ret]
      exact h.totals
    · rw [markAllDisplays_ret, applied, appliedFor, notify_ret]
      exact h.cal

theorem execCommitDrainExpiry_due (hc : s.commit = .waiting d) (hrunning : d.expired = false) (htimer : d.timer ≤ 1) :
    exec .commitDrainExpiry s = .next (flush (completeIfDrained
      ((stationsInItem s fun sn => sn.generation == prevGen s.ret.generation).foldl
        (fun acc q => forcedCancel .priceChanged q acc)
        { s with commit := .waiting { d with timer := 0, expired := true } }))) := by
  have hlast : s.commit.lastSecond = true := by
    rw [hc]
    simp [CommitState.lastSecond, hrunning, htimer]
  show execCommitDrainExpiry s = _
  rw [execCommitDrainExpiry, if_pos hlast, commitDrainExpired, hc]
  rfl

theorem mem_stationsInItem {test : Snapshot → Bool} :
    p ∈ stationsInItem s test ↔ (s.port p).sale = .item ∧ ∃ sn, (s.port p).snapshot = some sn ∧ test sn = true := by
  simp [stationsInItem, Option.any_eq_true]

theorem stationsInItem_nodup (s : State) (test : Snapshot → Bool) : (stationsInItem s test).Nodup :=
  (List.nodup_finRange 14).filter _

/-- Settles O26: one cancel after another for the ports and totals, the closes counted for the commit. -/
theorem commitDrainExpiryCancelsStaleItems : Obligations.CommitDrainExpiryCancelsStaleItems := by
  intro s d hq hc hrunning htimer stale n
  let expired : State := { s with commit := .waiting { d with timer := 0, expired := true } }
  let l := stationsInItem s fun sn => sn.generation == prevGen s.ret.generation
  have hmem (p : CounterPort) : p ∈ l ↔ stale p := by
    rw [mem_stationsInItem]
    exact and_congr_right fun _ => exists_congr fun sn => and_congr_right fun _ => beq_iff_eq
  obtain ⟨ran, hrun⟩ : ∃ ran, l.foldl (fun acc q => forcedCancel .priceChanged q acc) expired = ran := ⟨_, rfl⟩
  have hexec : exec .commitDrainExpiry s = .next (flush (completeIfDrained ran)) :=
    hrun ▸ execCommitDrainExpiry_due hc hrunning htimer
  have hnone (hempty : l = []) : ran = expired := by
    rw [← hrun, hempty]
    rfl
  have hno (hno : ∀ p, ¬ stale p) : ran = expired :=
    hnone (List.eq_nil_iff_forall_not_mem.mpr fun p hp => hno p ((hmem p).mp hp))
  refine ⟨⟨_, hexec, ?_⟩, fun hnot hawaited => ?_, fun hnot hdone => ?_⟩
  · have hat := (CancelledAt.run (m := .priceChanged) (s := expired) l expired [] (.refl ..) (stationsInItem_nodup _ _) fun q hq => by
      obtain ⟨-, sn, hsn, -⟩ := (hmem q).mp hq
      exact hsn ▸ Option.some_ne_none sn).completeIfDrained
    have hdrained := DrainedBy.run (d := d) (s := expired) l expired [] (.refl ..) (stationsInItem_nodup _ _)
      (fun q hq => ((hmem q).mp hq).2) ⟨fun _ => ⟨rfl, rfl, rfl⟩, fun h => absurd h (by decide)⟩
    rw [List.nil_append] at hat hdrained
    have hn : n = l.length := rfl
    rw [hrun] at hat hdrained
    have hstations (p : CounterPort) := foldl_cancelCounted_stations p l s.ret (stationsInItem_nodup _ _)
    refine ⟨fun p => ⟨fun hp => ?_, fun hp => ?_⟩, ?_, fun hmore => ?_, fun hlast => ?_⟩
    · obtain ⟨v, hv⟩ := hat.cancelled p ((hmem p).mpr hp)
      obtain ⟨x, hx⟩ := flushPort_kept (completeIfDrained ran) p
      rw [hv] at hx
      rw [flush_port, flush_ret, hat.totals, hx]
      exact ⟨rfl, rfl, rfl, (hstations p).trans (if_pos ((hmem p).mpr hp))⟩
    · obtain ⟨b, hb⟩ := hat.others p fun h => hp ((hmem p).mp h)
      obtain ⟨x, hx⟩ := flushPort_kept (completeIfDrained ran) p
      rw [hb] at hx
      rw [flush_port, flush_ret, hat.totals, hx]
      refine ⟨?_, (hstations p).trans (if_neg fun h => hp ((hmem p).mp h))⟩
      have hdue : (expired.port p).displayDue = false := hq p
      rw [← hdue]
      rfl
    · rw [flush_ret, hat.totals, foldl_cancelCounted_grand, List.foldl_const, List.foldl_const, List.length_range, ← hn]
    · obtain ⟨hcommit, hgeneration, hstaged⟩ := hdrained.going hmore
      rw [completeIfDrained_awaiting hcommit (by dsimp only; omega)]
      exact ⟨hcommit, hgeneration, hstaged⟩
    · by_cases hzero : n = 0
      · rw [hnone (List.length_eq_zero_iff.mp (hn.symm.trans hzero)),
          completeIfDrained_drained (s := expired) rfl (hlast.symm.trans hzero)]
        exact ⟨applied_commit _ _, notify_staged _ _, applied_generation _ _⟩
      · obtain ⟨hcommit, hstaged, hgeneration⟩ := hdrained.ended (by omega) hlast
        rw [completeIfDrained_other fun d h => by rw [hcommit] at h; cases h]
        exact ⟨hcommit, hstaged, hgeneration⟩
  · rw [hexec, hno hnot, completeIfDrained_awaiting (s := expired) rfl hawaited]
    exact congrArg Host.Outcome.next (flush_of_quiet (s := expired) hq)
  · refine ⟨_, hexec, ?_⟩
    rw [hno hnot, completeIfDrained_drained (s := expired) rfl hdone]
    exact flush_markAllDisplays (applied_quiet (s := expired) hq _)

end Sys2Proof.Machine
end

section
/-! PROOFS. The expiry of the close drain (R173). -/

namespace Sys2Proof.Machine

variable {s t u : State} {p q : CounterPort} {m : MsgCode} {sn : Snapshot} {done rest : List CounterPort} {figures : Prop}

/-! ### A run of forced cancels while no commit waits -/

/-- What the forced cancels leave besides the ports they reach while the commit is EDITING. -/
structure CancelledAlone (s t : State) (done : List CounterPort) : Prop where
  others : ∀ q, q ∉ done → t.port q = s.port q
  rest : ∃ calling, t = { s with
    ret := done.foldl (fun r q => r.cancelCounted q) s.ret, ports := t.ports
    tickets := { s.tickets with calling := calling } }

theorem closedByCancel_editing (h : s.commit = .editing) (m : MsgCode) (p : CounterPort) (sn : Snapshot) :
    closedByCancel m p sn s = State.setPort { s with ret := s.ret.cancelCounted p } p
      { closedPort s.ret.cal[p] (s.port p) with displayDue := true } := by
  have hsame : s.commit.cancelCounted m = s.commit := by rw [h]; rfl
  rw [closedByCancel, hsame]
  exact reportClose_uncounted fun d hd => absurd (h.symm.trans hd) nofun

theorem CancelledAlone.snoc (h : CancelledAlone s t done) (hcommit : s.commit = .editing)
    (hsnap : (t.port q).snapshot = some sn) : CancelledAlone s (forcedCancel m q t) (done ++ [q]) := by
  obtain ⟨calling, hrest⟩ := h.rest
  have hediting : t.commit = .editing := by rw [hrest]; exact hcommit
  obtain ⟨calling', v, hmoved⟩ := toIdle_moves { t with ret := t.ret.cancelCounted q } q
    { closedPort t.ret.cal[q] (t.port q) with displayDue := true } m
  rw [forcedCancel_eq m hsnap, closedByCancel_editing hediting, hmoved]
  refine ⟨fun x hx => ?_, calling', ?_⟩
  · rw [List.mem_append, not_or, List.mem_singleton] at hx
    rw [State.port_setPort_ne _ _ hx.2]
    exact h.others x hx.1
  · rw [List.foldl_append]
    generalize t.ports = ports at hrest
    subst hrest
    rfl

theorem CancelledAlone.run (hcommit : s.commit = .editing) (rest : List CounterPort) : ∀ t done,
    CancelledAlone s t done → (done ++ rest).Nodup → (∀ q ∈ rest, (s.port q).snapshot ≠ none) →
    CancelledAlone s (rest.foldl (fun acc q => forcedCancel m q acc) t) (done ++ rest) := by
  induction rest with
  | nil => exact fun t done h _ _ => (List.append_nil done).symm ▸ h
  | cons q rest ih =>
    intro t done h hnodup hopen
    obtain ⟨sn, hsn⟩ := Option.ne_none_iff_exists'.mp (hopen q List.mem_cons_self)
    have hq : q ∉ done := fun hmem => (List.nodup_append.mp hnodup).2.2 q hmem q List.mem_cons_self rfl
    have hsnap : (t.port q).snapshot = some sn := by rw [h.others q hq]; exact hsn
    rw [List.append_cons] at hnodup ⊢
    exact ih _ _ (h.snoc hcommit hsnap) hnodup fun x hx => hopen x (List.mem_cons_of_mem q hx)

theorem foldl_cancelCounted_rest (l : List CounterPort) : ∀ r : Retained,
    l.foldl (fun r q => r.cancelCounted q) r =
      { r with totals := (l.foldl (fun r q => r.cancelCounted q) r).totals } := by
  induction l with
  | nil => exact fun r => rfl
  | cons q l ih => exact fun r => ih (r.cancelCounted q)

/-! ### The day that closes behind the cancels -/

theorem foldl_orderEnded_notices (os : List Order) (hn : s.notices = t.notices) (hc : s.clock = t.clock) :
    (os.foldl orderEnded s).notices = (os.foldl orderEnded t).notices :=
  (foldl_endOrderByDay_notices os s s rfl rfl).symm.trans (foldl_endOrderByDay_notices os s t hn hc)

/-- A completed close keeps of the day state, of the calling list and of the service states nothing. -/
theorem dayClosedWith_marked (ended : List Order) {ports : Vector Port 14} {day : DayState} {calling : List CounterPort}
    (hports : ∀ q : CounterPort, ({ ports[q] with service := .free, displayDue := true } : Port) =
      { s.port q with service := .free, displayDue := true }) :
    markAllDisplays (dayClosedWith ended { s with
      ports := ports, dayState := day, tickets := { s.tickets with calling := calling } }) =
    markAllDisplays (dayClosedWith ended s) := by
  let other : State := { s with ports := ports, dayState := day, tickets := { s.tickets with calling := calling } }
  have hport (u : State) (q : CounterPort) : ({ (dayClosedState u).port q with displayDue := true } : Port) =
      { u.port q with service := .free, displayDue := true } :=
    congrArg (fun c : Port => { c with displayDue := true }) (Vector.getElem_map _ q.isLt)
  have hnotices : (ended.foldl orderEnded (dayClosedState other)).notices =
      (ended.foldl orderEnded (dayClosedState s)).notices := foldl_orderEnded_notices ended rfl rfl
  show markAllDisplays (dayClosedWith ended other) = _
  rw [dayClosedWith, dayClosedWith, foldl_orderEnded_eq, hnotices, foldl_orderEnded_eq ended (dayClosedState s)]
  refine State.ext_ports _ _ (fun q => ?_) ?_
  · rw [markAllDisplays_port, markAllDisplays_port, notify_port, notify_port]
    exact (hport other q).trans ((hports q).trans (hport s q).symm)
  · rw [notify_eq, notify_eq]
    rfl

theorem execCloseDrainExpiry_due {n : Nat} (hday : s.dayState = .closing n false) (hn : n ≤ 1) :
    exec .closeDrainExpiry s = .next (flush (dayTest ((stationsInItem s fun _ => true).foldl
      (fun acc q => forcedCancel .dayClosing q acc) { s with dayState := .closing 0 true }))) := by
  have hlast : s.dayState.lastSecond = true := by
    rw [hday]
    simp [DayState.lastSecond, hn]
  show execCloseDrainExpiry s = _
  rw [execCloseDrainExpiry, if_pos hlast]
  rfl

/-- Settles O31: the cancels alone behind a job or a snapshot in PRINTING, the completed close behind none. -/
theorem closeDrainExpiryCancelsItems : Obligations.CloseDrainExpiryCancelsItems := by
  intro s n hq hcommit hday hn open_ cancelled
  let expired : State := { s with dayState := .closing 0 true }
  obtain ⟨ran, hrun⟩ : ∃ ran, cancelled.foldl (fun acc q => forcedCancel .dayClosing q acc) expired = ran := ⟨_, rfl⟩
  have hmem (p : CounterPort) : p ∈ cancelled ↔ open_ p := by
    simp [cancelled, open_, Option.isSome_iff_ne_none]
  have hnodup : cancelled.Nodup := (List.nodup_finRange 14).filter _
  have hcancels : (stationsInItem s fun _ => true) = cancelled := List.filter_congr fun p _ => by
    cases (s.port p).snapshot <;> rfl
  have hexec : exec .closeDrainExpiry s = .next (flush (dayTest ran)) := by
    rw [execCloseDrainExpiry_due hday hn, hcancels, hrun]
  have hopen : ∀ q ∈ cancelled, (s.port q).snapshot ≠ none := fun q hq => ((hmem q).mp hq).2
  have hat := CancelledAt.run (m := .dayClosing) (s := expired) cancelled expired [] (.refl ..) hnodup hopen
  have halone := CancelledAlone.run (m := .dayClosing) (s := expired) hcommit cancelled expired []
    ⟨fun _ _ => rfl, _, rfl⟩ hnodup hopen
  rw [List.nil_append, hrun] at hat halone
  obtain ⟨calling, hrest⟩ := halone.rest
  refine ⟨fun hbusy => ?waits, fun hqueue hcurrent hs hitem => ?completes⟩
  case waits =>
    have hkept : dayTest ran = ran := by
      refine dayTest_busy ?_
      obtain h | h | ⟨p, hsale, hsnap⟩ := hbusy
      · exact .inr (.inl (by rw [hrest]; exact h))
      · exact .inr (.inr (by rw [hrest]; exact h))
      · refine .inl ⟨p, ?_⟩
        rw [halone.others p fun h => hsale ((hmem p).mp h).1]
        exact hsnap
    rw [hkept] at hexec
    have hret : ran.ret = { s.ret with totals := ran.ret.totals } := by
      rw [congrArg State.ret hrest]
      exact foldl_cancelCounted_rest cancelled s.ret
    have hbase : ran = { s with
        ret := { s.ret with totals := ran.ret.totals }, ports := ran.ports, dayState := ran.dayState
        tickets := ran.tickets } := by
      rw [← hret]
      generalize ran.ports = ports at hrest
      rw [hrest]
    have hstations (p : CounterPort) := foldl_cancelCounted_stations p cancelled s.ret hnodup
    refine ⟨_, hexec, ?_, ?_, ?_, fun p => ⟨fun hp => ?_, fun hp => ?_⟩⟩
    · rw [flush_dayState, hrest]
    · exact congrArg (fun u : State => { u with ports := (flush ran).ports }) hbase
    · rw [flush_ret, hat.totals, foldl_cancelCounted_grand]
    · obtain ⟨v, hv⟩ := hat.cancelled p ((hmem p).mpr hp)
      obtain ⟨x, hx⟩ := flushPort_kept ran p
      rw [hv] at hx
      rw [flush_port, flush_ret, hat.totals, hx]
      exact ⟨rfl, rfl, rfl, (hstations p).trans (if_pos ((hmem p).mpr hp))⟩
    · have hport : ran.port p = s.port p := halone.others p fun h => hp ((hmem p).mp h)
      rw [flush_port, flushPort_of_due_false ran p (by rw [hport]; exact hq p), flush_ret, hat.totals]
      exact ⟨hport, (hstations p).trans (if_neg fun h => hp ((hmem p).mp h))⟩
  case completes =>
    intro ret ports
    have hempty : s.composer.Empty := ⟨hqueue, hcurrent⟩
    have hline : LineKept False s := lineSound_of (composerSound_of_empty hempty) hs False.elim
    have hran : LineKept False ran := hrun ▸
      forcedCancels_line .dayClosing cancelled expired hline fun p _ => hempty.unbound p
    have hsnaps (p : CounterPort) : (ran.port p).snapshot = none := by
      by_cases hp : p ∈ cancelled
      · obtain ⟨v, hv⟩ := hat.cancelled p hp
        rw [hv]
        rfl
      · rw [halone.others p hp]
        exact by_contra fun hsnap => hp ((hmem p).mpr ⟨hitem p hsnap, hsnap⟩)
    have hranEmpty : ran.composer.Empty := by rw [hrest]; exact hempty
    obtain ⟨ended, hperm, hclosed⟩ := dayTest_quiet (n := 0) (b := true) hran (by rw [hrest]) hsnaps hranEmpty
    let base : State := { s with ret := ret, ports := ports }
    have hbase (p : CounterPort) : base.port p = if (s.port p).snapshot = none then s.port p
        else { closedPort s.ret.cal[p] (s.port p) with
          held := some .dayClosing
          sale := if (s.port p).calSwitch = .on then .calibrating else .idle } := Vector.getElem_ofFn _
    have hports (p : CounterPort) : ({ ran.ports[p] with service := .free, displayDue := true } : Port) =
        { base.port p with service := .free, displayDue := true } := by
      rw [hbase]
      show ({ ran.port p with service := .free, displayDue := true } : Port) = _
      by_cases hsnap : (s.port p).snapshot = none
      · have hport : ran.port p = s.port p := halone.others p fun h => hopen p h hsnap
        rw [if_pos hsnap, hport]
      · obtain ⟨v, hv⟩ := hat.cancelled p ((hmem p).mpr ⟨hitem p hsnap, hsnap⟩)
        rw [if_neg hsnap, hv]
        rfl
    have hmarked := dayClosedWith_marked (s := base) ended (day := .closing 0 true) (calling := calling) hports
    have hquiet : Quiet base := fun p => by
      rw [hbase]
      split
      · exact hq p
      · exact hq p
    refine ⟨ended, _, hperm.trans (by rw [hrest]), ?_, flush_markAllDisplays (dayClosedWith_quiet hquiet ended)⟩
    rw [hexec, hclosed, ← hmarked]
    exact congrArg (fun u => Host.Outcome.next (flush (markAllDisplays (dayClosedWith ended u)))) hrest

end Sys2Proof.Machine
end

section
/-! PROOFS. The offline event of a scale: the labels it loses (R9, R120). -/

namespace Sys2Proof.Machine

variable {s t u v : State} {p q : CounterPort} {c : Port} {l : SlotLabel} {k : TicketNo} {n serial : Nat}

/-! ### The posted labels (R120) -/

theorem voidLine_number (serial : Nat) (o : Order) : (voidLine serial o).number = o.number := rfl

/-- A line already struck is struck no further. -/
theorem voidLine_struck {o : Order} (h : ¬ (o.lines.any fun l => l.serial == serial && !l.voided) = true) :
    voidLine serial o = o := by
  have hlines : ∀ x ∈ o.lines, ¬ (x.serial == serial && !x.voided) = true := fun x hx hstands =>
    h (List.any_eq_true.mpr ⟨x, hx, hstands⟩)
  have hmap : (o.lines.map fun l => if l.serial = serial then { l with voided := true } else l) = o.lines := by
    refine (List.map_congr_left fun x hx => ?_).trans (List.map_id _)
    split
    · next hserial =>
      have hvoided : x.voided = true := by simpa [hserial] using hlines x hx
      rw [← hvoided]
      rfl
    · rfl
  have hnone : (o.lines.filter fun l => l.serial == serial && !l.voided) = [] :=
    List.filter_eq_nil_iff.mpr hlines
  unfold voidLine
  rw [hmap, hnone]
  rfl

/-- A line that the offline event strikes, of an order that may have gone. -/
theorem markLineVoided_unkeyed (hnodup : (s.orders.map (·.number)).Nodup) (n serial : Nat) :
    markLineVoided n serial false s =
      { s with orders := s.orders.map fun o => if o.number = n then voidLine serial o else o } := by
  have hkept (h : ∀ x ∈ s.orders, x.number = n → voidLine serial x = x) :
      s = { s with orders := s.orders.map fun o => if o.number = n then voidLine serial o else o } := by
    have hmap : (s.orders.map fun o => if o.number = n then voidLine serial o else o) = s.orders :=
      (List.map_congr_left fun x hx => by
        split
        · next hx' => exact h x hx hx'
        · rfl).trans (List.map_id _)
    rw [hmap]
  unfold markLineVoided
  cases ho : orderOf s.orders n with
  | none => exact hkept fun x hx hnumber => absurd hnumber (by simpa using List.find?_eq_none.mp ho x hx)
  | some o =>
    obtain ⟨hmem, hnumber⟩ := orderOf_some ho
    dsimp only
    split
    · rfl
    · next hstruck =>
      refine hkept fun x hx hx' => ?_
      rw [List.inj_on_of_nodup_map hnodup hx hmem (hx'.trans hnumber.symm)]
      exact voidLine_struck hstruck

theorem voidUnprinted_eq (hnodup : (u.orders.map (·.number)).Nodup) {k : SlotNo}
    (hl : (u.port p).slots.labels[k] = some l) : voidUnprinted p u k = unprinted p u l := by
  unfold voidUnprinted unprinted
  rw [hl]
  dsimp only
  split
  · rfl
  · split
    · rfl
    · cases hcls : l.cls with
      | reprint | summary => rfl
      | item =>
        cases hsale : l.sale with
        | none => rfl
        | some sr =>
          dsimp only
          cases horder : sr.order with
          | none => rfl
          | some x => exact congrArg (notify _) (markLineVoided_unkeyed
            (s := countBoth p _ _ (modRet _ (modLog l.serial _ u))) hnodup x.1 l.serial)

theorem unprinted_ports (p : CounterPort) (u : State) (l : SlotLabel) : (unprinted p u l).ports = u.ports := by
  unfold unprinted
  dsimp only
  split
  · rfl
  · split
    · rw [notify_ports]
    · split <;> rw [notify_ports]

theorem unprinted_numbers (p : CounterPort) (u : State) (l : SlotLabel) :
    (unprinted p u l).orders.map (·.number) = u.orders.map (·.number) := by
  have hstruck (f : Order → Prop) [DecidablePred f] : (u.orders.map fun o => if f o then voidLine l.serial o else o).map (·.number) =
      u.orders.map (·.number) := by
    rw [List.map_map]
    refine List.map_congr_left fun o _ => ?_
    rw [Function.comp_apply]
    split <;> rfl
  unfold unprinted
  dsimp only
  split
  · rfl
  · split
    · rw [notify_orders]
    · split
      · rw [notify_orders]
        dsimp only
        split
        · rfl
        · exact hstruck _
      · rw [notify_orders]

/-- The labels of the slots `ks` of a port, in that order. -/
def SlotCtx.labelsAt (c : SlotCtx) (ks : List SlotNo) : List SlotLabel := ks.filterMap fun k => c.labels[k]

theorem foldl_voidUnprinted (ks : List SlotNo) : ∀ u : State, (u.orders.map (·.number)).Nodup →
    ks.foldl (voidUnprinted p) u = ((u.port p).slots.labelsAt ks).foldl (unprinted p) u := by
  induction ks with
  | nil => exact fun u _ => rfl
  | cons k ks ih =>
    intro u hnodup
    rw [List.foldl_cons, SlotCtx.labelsAt]
    cases hl : (u.port p).slots.labels[k] with
    | none =>
      have hsame : voidUnprinted p u k = u := by rw [voidUnprinted, hl]
      rw [hsame, ih u hnodup, List.filterMap_cons, hl]
      rfl
    | some l =>
      have hports : (unprinted p u l).port p = u.port p := State.port_of_ports _ _ p (unprinted_ports p u l)
      rw [voidUnprinted_eq hnodup hl, ih _ (unprinted_numbers p u l ▸ hnodup), hports, List.filterMap_cons, hl]
      rfl

/-- The slots of a port whose station has gone OFFLINE (R120). -/
def SlotCtx.emptied (c : SlotCtx) : SlotCtx :=
  { labels := Vector.replicate 4 none, free := c.free ++ c.post, post := [], outstanding := none }

theorem offlineSlots_eq (hnodup : (u.orders.map (·.number)).Nodup) : offlineSlots p u =
    modPort p (fun c => { c with slots := c.slots.emptied })
      (((u.port p).slots.labelsAt (u.port p).slots.post).foldl (unprinted p) u) := by
  unfold offlineSlots
  rw [foldl_voidUnprinted _ u hnodup]
  rfl

/-! ### What of a state the offline event reads and keeps beside ports, notices and the commit -/

/-- A state without the parts that a close or a notice changes. -/
def State.offlineCore (s : State) : State :=
  { s with
    ret := { s.ret with items := [], generation := 0 }
    ports := State.reset.ports, notices := State.reset.notices, staged := [], commit := .editing, free := 0 }

theorem offlineCore_notify (b : NoticeBody) (s : State) : (notify b s).offlineCore = s.offlineCore := by
  rw [notify_eq]
  rfl

theorem offlineCore_modPort (p : CounterPort) (f : Port → Port) (s : State) :
    (modPort p f s).offlineCore = s.offlineCore := rfl

theorem offlineCore_unprinted (p : CounterPort) (u : State) (l : SlotLabel) :
    (unprinted p u l).offlineCore = (unprinted p u.offlineCore l).offlineCore := by
  unfold unprinted
  dsimp only
  split
  · rfl
  · split
    · next h => rw [if_pos (show l.day ≠ u.offlineCore.ret.day.number from h), offlineCore_notify, offlineCore_notify]; rfl
    · next h =>
      rw [if_neg (show ¬ l.day ≠ u.offlineCore.ret.day.number from h)]
      split <;> (rw [offlineCore_notify, offlineCore_notify]; rfl)

theorem offlineCore_foldl_unprinted (ls : List SlotLabel) : ∀ u v : State, u.offlineCore = v.offlineCore →
    (ls.foldl (unprinted p) u).offlineCore = (ls.foldl (unprinted p) v).offlineCore := by
  induction ls with
  | nil => exact fun u v h => h
  | cons l ls ih =>
    intro u v h
    refine ih _ _ ?_
    rw [offlineCore_unprinted, h, ← offlineCore_unprinted]

/-- The first parts of the event that the lost labels touch leave the rest of a state alone. -/
theorem unprinted_rest (p : CounterPort) (u : State) (l : SlotLabel) : unprinted p u l = { u with
    ret := { u.ret with items := (unprinted p u l).ret.items, totals := (unprinted p u l).ret.totals }
    notices := (unprinted p u l).notices, log := (unprinted p u l).log, orders := (unprinted p u l).orders } := by
  unfold unprinted
  dsimp only
  split
  · rfl
  · split
    · rw [notify_eq]
    · split <;> rw [notify_eq] <;> rfl

end Sys2Proof.Machine
end

section
/-! PROOFS. The offline event of a scale, part by part (R9). -/

namespace Sys2Proof.Machine

variable {s t u v : State} {p q : CounterPort} {c : Port} {l : SlotLabel} {k : TicketNo} {sn : Snapshot}
  {d : CommitDrain} {rest : List CounterPort}

/-! ### Between the offline cancel and the close -/

/-- The parts of the event that stand between the count of its cancel and the close of its snapshot. -/
def offlineMiddle (p : CounterPort) (s : State) : State :=
  offlineComposer p (offlineOrder p (returnTicket p (leaveCalling p (offlineSlots p s))))

theorem offlineScale_middle (p : CounterPort) (s : State) :
    offlineScale p s = offlineContext p (closeSnapshot p (offlineMiddle p (offlineStart p s))) :=
  offlineScale_eq p s

theorem foldl_unprinted_rest (ls : List SlotLabel) : ∀ u : State, ls.foldl (unprinted p) u = { u with
    ret := { u.ret with
      items := (ls.foldl (unprinted p) u).ret.items, totals := (ls.foldl (unprinted p) u).ret.totals }
    notices := (ls.foldl (unprinted p) u).notices, log := (ls.foldl (unprinted p) u).log
    orders := (ls.foldl (unprinted p) u).orders } := by
  induction ls with
  | nil => exact fun u => rfl
  | cons l ls ih =>
    intro u
    rw [List.foldl_cons, ih, unprinted_rest]

theorem leaveCalling_eq (p : CounterPort) (s : State) : leaveCalling p s = State.setPort
    { s with tickets := { s.tickets with
        calling := if (s.port p).service = .asking then s.tickets.calling.filter (· ≠ p) else s.tickets.calling } } p
      { s.port p with service := if (s.port p).service = .asking then .free else (s.port p).service } := by
  conv_lhs => rw [← State.setPort_self s p, leaveCalling_setPort]
  by_cases h : (s.port p).service = .asking
  · simp only [h, if_true]
  · simp only [h, if_false]

theorem leaveCalling_keeps (p : CounterPort) (s : State) : (leaveCalling p s).commit = s.commit ∧
    (leaveCalling p s).staged = s.staged ∧ (leaveCalling p s).ret = s.ret := by
  rw [leaveCalling_eq]
  exact ⟨rfl, rfl, rfl⟩

theorem returnTicket_none (h : calledTicket s p = none) : returnTicket p s = s := by
  rw [returnTicket, h]

theorem ticketReturned_waits (hcalling : s.tickets.calling = []) (k : TicketNo) : ticketReturned s k =
    { s.tickets with
      waiting := k :: s.tickets.waiting, recs := s.tickets.recs.set k { s.ticket k with state := .waiting } } := by
  unfold ticketReturned
  split
  · next h => cases hcalling.symm.trans h
  · rfl

theorem returnTicket_waits (h : calledTicket s p = some k) (hcalling : s.tickets.calling = []) :
    returnTicket p s = { s with tickets := ticketReturned s k } := by
  rw [ticketReturned_waits hcalling]
  unfold returnTicket
  rw [h]
  dsimp only
  split
  · next h => cases hcalling.symm.trans h
  · rfl

theorem returnTicket_calls (h : calledTicket s p = some k) (hcalling : s.tickets.calling = q :: rest) :
    returnTicket p s = callTicket k q (min 3 ((s.ticket k).count + 1)) .returned
      { s with tickets := { s.tickets with calling := rest } } := by
  rw [returnTicket, h]
  dsimp only
  rw [hcalling]
  rfl

theorem returnTicket_core (h : calledTicket s p = some k) : (returnTicket p s).offlineCore =
    { s.offlineCore with tickets := ticketReturned s k } := by
  cases hcalling : s.tickets.calling with
  | nil =>
    rw [returnTicket_waits h hcalling]
    rfl
  | cons q rest =>
    rw [returnTicket_calls h hcalling, callTicket_calledState, ticketReturned, hcalling]
    exact offlineCore_notify _ (recordCall k q _ _)

/-- A station that cannot be reached is not sent a call; at most its service state changes. -/
theorem returnTicket_port (p q : CounterPort) (s : State) (hoff : (s.port q).online = false) :
    ∃ v, (returnTicket p s).port q = { s.port q with service := v } := by
  cases h : calledTicket s p with
  | none => exact ⟨_, by rw [returnTicket_none h]⟩
  | some k =>
    cases hcalling : s.tickets.calling with
    | nil => exact ⟨_, by rw [returnTicket_waits h hcalling]; rfl⟩
    | cons x rest =>
      rw [returnTicket_calls h hcalling]
      by_cases hqx : q = x
      · refine ⟨.called, ?_⟩
        rw [hqx, callTicket_port_self, if_neg]
        · rfl
        · rintro ⟨-, honline⟩
          rw [← hqx] at honline
          exact absurd (hoff.symm.trans honline) (by decide)
      · refine ⟨(s.port q).service, ?_⟩
        rw [callTicket_port_ne hqx, if_neg]
        · rfl
        · rintro ⟨-, honline, -⟩
          exact absurd (hoff.symm.trans honline) (by decide)

theorem returnTicket_keeps (p : CounterPort) (s : State) : (returnTicket p s).commit = s.commit ∧
    (returnTicket p s).staged = s.staged ∧ (returnTicket p s).ret = s.ret ∧ (returnTicket p s).clock = s.clock := by
  cases h : calledTicket s p with
  | none => rw [returnTicket_none h]; exact ⟨rfl, rfl, rfl, rfl⟩
  | some k =>
    cases hcalling : s.tickets.calling with
    | nil => rw [returnTicket_waits h hcalling]; exact ⟨rfl, rfl, rfl, rfl⟩
    | cons x rest =>
      rw [returnTicket_calls h hcalling, callTicket_calledState, calledState, notify_eq]
      exact ⟨rfl, rfl, rfl, rfl⟩

/-- The ticket unit after the offline event of `p` (R141, R142). -/
def ticketsLeft (s : State) (p : CounterPort) : TicketUnit :=
  let calling := if (s.port p).service = .asking then s.tickets.calling.filter (· ≠ p) else s.tickets.calling
  let left : State := { s with tickets := { s.tickets with calling := calling } }
  match calledTicket s p with
  | none => left.tickets
  | some k => ticketReturned left k

theorem ticketsLeft_none (h : calledTicket s p = none) : ticketsLeft s p = { s.tickets with
    calling := if (s.port p).service = .asking then s.tickets.calling.filter (· ≠ p) else s.tickets.calling } := by
  rw [ticketsLeft, h]

theorem ticketsLeft_some (h : calledTicket s p = some k) : ticketsLeft s p = ticketReturned { s with
    tickets := { s.tickets with
      calling := if (s.port p).service = .asking then s.tickets.calling.filter (· ≠ p) else s.tickets.calling } } k := by
  rw [ticketsLeft, h]

theorem calledTicket_congr (h : s.tickets.recs = t.tickets.recs) : calledTicket s p = calledTicket t p := by
  unfold calledTicket State.ticket
  rw [h]

theorem ticketReturned_congr (htickets : s.tickets = t.tickets) (hconfig : s.ret.config = t.ret.config) :
    ticketReturned s k = ticketReturned t k := by
  unfold ticketReturned State.ticket
  rw [htickets, hconfig]

/-- The state that the lost labels are taken from: the offline cancel of an open snapshot counted (R9). -/
def cancelledOffline (s : State) (p : CounterPort) : State :=
  { s with ret := if (s.port p).snapshot = none then s.ret else
    countGrand { offlineCancels := 1 } (countStation p { offlineCancels := 1 } s.ret) }

theorem labelsLost_eq (s : State) (p : CounterPort) : labelsLost s p =
    ((s.port p).slots.labelsAt (s.port p).slots.post).foldl (unprinted p) (cancelledOffline s p) := rfl

theorem offlineRest_core (p : CounterPort) (s : State) : (offlineComposer p (offlineOrder p s)).offlineCore =
    { s.offlineCore with
      orders := s.offlineCore.orders.map fun o =>
        if o.state = .openAt p then { o with state := .parked, idle := 0, summaryInFlight := false } else o
      composer := { s.offlineCore.composer with
        queue := s.offlineCore.composer.queue.filter fun j => j.station ≠ p
        current := s.offlineCore.composer.current.map fun c =>
          if c.job.station = p then { c with dropped := true } else c } } := rfl

section
variable (hnodup : (u.orders.map (·.number)).Nodup)
include hnodup

theorem offlineSlots_keeps : (offlineSlots p u).commit = u.commit ∧ (offlineSlots p u).staged = u.staged ∧
    (offlineSlots p u).ret.generation = u.ret.generation ∧ (offlineSlots p u).ret.cal = u.ret.cal := by
  rw [offlineSlots_eq hnodup]
  have hrest := foldl_unprinted_rest (p := p) ((u.port p).slots.labelsAt (u.port p).slots.post) u
  exact ⟨(congrArg State.commit hrest :), (congrArg State.staged hrest :),
    (congrArg (fun x : State => x.ret.generation) hrest :), (congrArg (fun x : State => x.ret.cal) hrest :)⟩

theorem offlineMiddle_keeps : (offlineMiddle p u).commit = u.commit ∧ (offlineMiddle p u).staged = u.staged ∧
    (offlineMiddle p u).ret.generation = u.ret.generation ∧ (offlineMiddle p u).ret.cal = u.ret.cal := by
  obtain ⟨hcommit, hstaged, hret, -⟩ := returnTicket_keeps p (leaveCalling p (offlineSlots p u))
  obtain ⟨hcommit', hstaged', hret'⟩ := leaveCalling_keeps p (offlineSlots p u)
  unfold offlineMiddle
  rw [offlineComposer_commit, offlineOrder_commit, offlineComposer_staged, offlineOrder_staged,
    offlineComposer_ret, offlineOrder_ret, hcommit, hstaged, hret, hcommit', hstaged', hret']
  exact offlineSlots_keeps hnodup

theorem offlineSlots_port_self : (offlineSlots p u).port p = { u.port p with slots := (u.port p).slots.emptied } := by
  rw [offlineSlots_eq hnodup, modPort_port_self]
  generalize (u.port p).slots.labelsAt (u.port p).slots.post = ls
  rw [foldl_unprinted_rest]
  rfl

theorem offlineSlots_port_ne (hq : q ≠ p) : (offlineSlots p u).port q = u.port q := by
  rw [offlineSlots_eq hnodup, modPort_port_ne _ _ hq]
  generalize (u.port p).slots.labelsAt (u.port p).slots.post = ls
  rw [foldl_unprinted_rest]
  rfl

theorem offlineMiddle_port (hoff : (u.port p).online = false) : ∃ v, (offlineMiddle p u).port p =
    { u.port p with slots := (u.port p).slots.emptied, service := v } := by
  have hleft : (leaveCalling p (offlineSlots p u)).port p = { u.port p with
      slots := (u.port p).slots.emptied
      service := if (u.port p).service = .asking then .free else (u.port p).service } := by
    rw [leaveCalling_eq, State.port_setPort_self, offlineSlots_port_self hnodup]
  obtain ⟨v, hv⟩ := returnTicket_port p p (leaveCalling p (offlineSlots p u)) (by rw [hleft]; exact hoff)
  have hport : (offlineMiddle p u).port p = (returnTicket p (leaveCalling p (offlineSlots p u))).port p :=
    State.port_of_ports _ _ p (by rw [offlineMiddle, offlineComposer_ports, offlineOrder_ports])
  rw [hleft, ← hport] at hv
  exact ⟨v, hv⟩

/-- The parts of the event beside ports, notices and the commit, from a state that has those of `s`. -/
theorem offlineMiddle_core (hcore : u.offlineCore = (cancelledOffline s p).offlineCore)
    (hslots : (u.port p).slots = (s.port p).slots) (hservice : (u.port p).service = (s.port p).service) :
    (offlineMiddle p u).offlineCore = { (labelsLost s p).offlineCore with
      orders := (labelsLost s p).orders.map fun o =>
        if o.state = .openAt p then { o with state := .parked, idle := 0, summaryInFlight := false } else o
      composer := { s.composer with
        queue := s.composer.queue.filter fun j => j.station ≠ p
        current := s.composer.current.map fun c => if c.job.station = p then { c with dropped := true } else c }
      tickets := ticketsLeft s p } := by
  have hlost : (offlineSlots p u).offlineCore = (labelsLost s p).offlineCore := by
    rw [offlineSlots_eq hnodup, offlineCore_modPort, hslots, labelsLost_eq]
    exact offlineCore_foldl_unprinted _ u _ hcore
  have hself := offlineSlots_port_self (p := p) hnodup
  have hrest := foldl_unprinted_rest (p := p) ((s.port p).slots.labelsAt (s.port p).slots.post) (cancelledOffline s p)
  rw [← labelsLost_eq] at hrest
  have hlostTickets : (labelsLost s p).tickets = s.tickets := (congrArg State.tickets hrest :).trans rfl
  have hlostComposer : (labelsLost s p).composer = s.composer := (congrArg State.composer hrest :).trans rfl
  have hlostConfig : (labelsLost s p).ret.config = s.ret.config := by
    refine (congrArg (fun x : State => x.ret.config) hrest).trans ?_
    show (cancelledOffline s p).ret.config = _
    unfold cancelledOffline
    dsimp only
    split <;> rfl
  have htickets : (offlineSlots p u).tickets = s.tickets := (congrArg State.tickets hlost :).trans hlostTickets
  have hcomposer : (offlineSlots p u).composer = s.composer := (congrArg State.composer hlost :).trans hlostComposer
  have hconfig : (offlineSlots p u).ret.config = s.ret.config :=
    (congrArg (fun x : State => x.ret.config) hlost :).trans hlostConfig
  have horders : (offlineSlots p u).orders = (labelsLost s p).orders := (congrArg State.orders hlost :)
  have hleft : (leaveCalling p (offlineSlots p u)).offlineCore = { (labelsLost s p).offlineCore with
      tickets := { s.tickets with calling := if (s.port p).service = .asking then
          s.tickets.calling.filter fun q => q ≠ p
        else s.tickets.calling } } := by
    rw [leaveCalling_eq, hself, hservice, htickets, ← hlost]
    rfl
  have hcalled : calledTicket (leaveCalling p (offlineSlots p u)) p = calledTicket s p :=
    calledTicket_congr ((congrArg (fun x : State => x.tickets.recs) hleft :).trans rfl)
  have hreturned : (returnTicket p (leaveCalling p (offlineSlots p u))).offlineCore =
      { (labelsLost s p).offlineCore with tickets := ticketsLeft s p } := by
    cases hk : calledTicket s p with
    | none => rw [returnTicket_none (hcalled.trans hk), hleft, ticketsLeft_none hk]
    | some k =>
      rw [returnTicket_core (hcalled.trans hk), hleft, ticketsLeft_some hk]
      refine congrArg (fun v => ({ (labelsLost s p).offlineCore with tickets := v } : State)) (ticketReturned_congr ?_ ?_)
      · exact (congrArg State.tickets hleft :).trans rfl
      · rw [leaveCalling_eq]
        exact hconfig
  rw [offlineMiddle, offlineRest_core, hreturned, ← hlostComposer]
  rfl

end



end Sys2Proof.Machine
end

section
/-! PROOFS. What the offline event of a scale leaves, its notice apart (R9). -/

namespace Sys2Proof.Machine

variable {s t u v : State} {p q : CounterPort} {c : Port} {l : SlotLabel} {k : TicketNo} {sn : Snapshot}
  {d : CommitDrain} {rest : List CounterPort} {n : Nat}

/-! ### The close of a snapshot (R47, R79) -/

theorem closeSnapshot_some (hsnap : (s.port p).snapshot = some sn) : closeSnapshot p s = reportClose [] sn.generation
    (s.setPort p { closedPort s.ret.cal[p] (s.port p) with displayDue := true }) := by
  conv_lhs => rw [← State.setPort_self s p]
  exact closeSnapshotFor_setPort hsnap

theorem closeCompletes_iff (p : CounterPort) (s : State) : closeCompletes p s = true ↔
    ∃ d sn, s.commit = .waiting d ∧ (s.port p).snapshot = some sn ∧ sn.generation = prevGen s.ret.generation ∧
      d.awaited ≤ 1 := by
  unfold closeCompletes
  split
  · next d sn hd hsn =>
    rw [hd, hsn, Bool.and_eq_true, beq_iff_eq, decide_eq_true_iff]
    exact ⟨fun h => ⟨d, sn, rfl, rfl, h.1, h.2⟩, fun ⟨d', sn', hd', hsn', h⟩ => by
      cases hd'
      cases hsn'
      exact h⟩
  · next hnot => exact ⟨fun h => absurd h (by decide), fun ⟨d, sn, hd, hsn, _⟩ => absurd hsn (hnot d sn hd)⟩

theorem reportClose_core (named : List Nat) (g : Nat) (s : State) :
    (reportClose named g s).offlineCore = s.offlineCore := by
  obtain h | ⟨d, -, -, ⟨-, h⟩ | ⟨-, h⟩⟩ := reportClose_cases named g s <;> rw [h]
  · rfl
  · rw [completeCommit_waiting named rfl, appliedFor]
    exact offlineCore_notify _ _

theorem closeSnapshot_core (p : CounterPort) (s : State) : (closeSnapshot p s).offlineCore = s.offlineCore := by
  cases hsnap : (s.port p).snapshot with
  | none => rw [closeSnapshot_none hsnap]
  | some sn =>
    rw [closeSnapshot_some hsnap, reportClose_core]
    rfl

theorem closeSnapshot_port_self (hsnap : (s.port p).snapshot = some sn) : ∃ b, (closeSnapshot p s).port p =
    { closedPort s.ret.cal[p] (s.port p) with displayDue := b } := by
  obtain ⟨b, hb, -⟩ := reportClose_port [] sn.generation
    (s.setPort p { closedPort s.ret.cal[p] (s.port p) with displayDue := true }) p
  rw [closeSnapshot_some hsnap]
  rw [State.port_setPort_self] at hb
  exact ⟨b, hb⟩

theorem closeSnapshot_completes (h : closeCompletes p s = true) : (closeSnapshot p s).commit = .editing ∧
    (closeSnapshot p s).staged = [] ∧
    (closeSnapshot p s).ret.generation = (s.ret.generation + 1) % 65536 := by
  obtain ⟨d, sn, hd, hsnap, hg, hlast⟩ := (closeCompletes_iff p s).mp h
  rw [closeSnapshot_some hsnap, reportClose_completes (s := s.setPort p _) hd hg hlast]
  exact ⟨applied_commit _ _, notify_staged _ _, applied_generation _ _⟩

/-- The commit after a close at `p` that does not complete it. -/
def commitLeft (s : State) (p : CounterPort) : CommitState :=
  match s.commit, (s.port p).snapshot with
  | .waiting d, some sn =>
    if sn.generation = prevGen s.ret.generation then .waiting { d with awaited := d.awaited - 1 } else .waiting d
  | other, _ => other

theorem commitLeft_uncounted (h : ∀ d sn, s.commit = .waiting d → (s.port p).snapshot = some sn →
    sn.generation ≠ prevGen s.ret.generation) : commitLeft s p = s.commit := by
  unfold commitLeft
  split
  · next d sn hd hsn => rw [if_neg (h d sn hd hsn), hd]
  · rfl

theorem commitLeft_counted (hd : s.commit = .waiting d) (hsnap : (s.port p).snapshot = some sn)
    (hg : sn.generation = prevGen s.ret.generation) :
    commitLeft s p = .waiting { d with awaited := d.awaited - 1 } := by
  rw [commitLeft, hd, hsnap]
  exact if_pos hg

theorem closeSnapshot_incomplete (h : closeCompletes p s = false) : ∃ c,
    closeSnapshot p s = State.setPort { s with commit := commitLeft s p } p c := by
  cases hsnap : (s.port p).snapshot with
  | none =>
    refine ⟨s.port p, ?_⟩
    rw [closeSnapshot_none hsnap, commitLeft_uncounted fun d sn _ hsn => by rw [hsnap] at hsn; cases hsn]
    exact (State.setPort_self s p).symm
  | some sn =>
    refine ⟨{ closedPort s.ret.cal[p] (s.port p) with displayDue := true }, ?_⟩
    rw [closeSnapshot_some hsnap]
    by_cases hcounted : ∃ d, s.commit = .waiting d ∧ sn.generation = prevGen s.ret.generation
    · obtain ⟨d, hd, hg⟩ := hcounted
      have hmany : 2 ≤ d.awaited := by
        by_contra hlast
        have := (closeCompletes_iff p s).mpr ⟨d, sn, hd, hsnap, hg, by omega⟩
        rw [h] at this
        cases this
      rw [reportClose_counted (s := s.setPort p _) hd hg hmany, commitLeft_counted hd hsnap hg]
      rfl
    · rw [reportClose_uncounted (s := s.setPort p _) fun d hd hg => hcounted ⟨d, hd, hg⟩,
        commitLeft_uncounted fun d sn' hd hsn' hg => by
          rw [hsnap] at hsn'
          cases hsn'
          exact hcounted ⟨d, hd, hg⟩]

/-! ### The start of the event -/

/-- A scale's port as its offline event finds it: OFFLINE, with nothing to send (R9, R186). -/
def Port.dropped (n : Nat) (c : Port) : Port := { c with supervision := n, online := false, tx := [] }

theorem cancelledOffline_ret (s : State) (p : CounterPort) : (cancelledOffline s p).ret =
    { s.ret with totals := (cancelledOffline s p).ret.totals } := by
  unfold cancelledOffline
  dsimp only
  split <;> rfl

theorem closeCompletes_dropped (s : State) (p : CounterPort) (n : Nat) :
    closeCompletes p (s.setPort p ((s.port p).dropped n)) = closeCompletes p s := by
  rw [Bool.eq_iff_iff, closeCompletes_iff, closeCompletes_iff, State.port_setPort_self]
  rfl

theorem offlineCounted_eq (s : State) (p : CounterPort) (n : Nat) :
    offlineCounted p (s.setPort p ((s.port p).dropped n)) = State.setPort
      { cancelledOffline s p with free := if closeCompletes p s then s.free + 1 else s.free } p
      ((s.port p).dropped n) := by
  unfold offlineCounted cancelledOffline
  rw [closeCompletes_dropped, State.port_setPort_self]
  have hsnap : ((s.port p).dropped n).snapshot = (s.port p).snapshot := rfl
  rw [hsnap]
  cases (s.port p).snapshot <;> cases closeCompletes p s <;> rfl

/-- The state that the middle of the event is given. -/
theorem offlineStart_cases (s : State) (p : CounterPort) (n : Nat) :
    let counted := State.setPort
      { cancelledOffline s p with free := if closeCompletes p s then s.free + 1 else s.free } p
      ((s.port p).dropped n)
    offlineStart p (s.setPort p ((s.port p).dropped n)) = counted ∨
    closeCompletes p counted = true ∧ offlineStart p (s.setPort p ((s.port p).dropped n)) = closeSnapshot p counted := by
  intro counted
  unfold offlineStart
  rw [offlineCounted_eq, closeCompletes_dropped]
  split
  · next h =>
    refine .inr ⟨?_, rfl⟩
    obtain ⟨d, sn, hd, hsn, hg, hlast⟩ := (closeCompletes_iff p s).mp (Bool.and_eq_true_iff.mp h).1
    refine (closeCompletes_iff p counted).mpr ⟨d, sn, hd, ?_, ?_, hlast⟩
    · rw [State.port_setPort_self]
      exact hsn
    · rw [hg]
      show _ = prevGen (cancelledOffline s p).ret.generation
      unfold cancelledOffline
      split <;> rfl
  · exact .inl rfl

theorem close_congr (hcommit : t.commit = s.commit) (hsnap : (t.port p).snapshot = (s.port p).snapshot)
    (hg : t.ret.generation = s.ret.generation) :
    closeCompletes p t = closeCompletes p s ∧ commitLeft t p = commitLeft s p := by
  unfold closeCompletes commitLeft
  rw [hcommit, hsnap, hg]
  exact ⟨rfl, rfl⟩

theorem counted_kept (s : State) (p : CounterPort) (n : Nat) :
    let counted := State.setPort
      { cancelledOffline s p with free := if closeCompletes p s then s.free + 1 else s.free } p
      ((s.port p).dropped n)
    closeCompletes p counted = closeCompletes p s ∧ counted.port p = (s.port p).dropped n ∧
      counted.ret.generation = s.ret.generation := by
  intro counted
  have hself : counted.port p = (s.port p).dropped n := State.port_setPort_self ..
  have hgeneration : counted.ret.generation = s.ret.generation :=
    (congrArg Retained.generation (cancelledOffline_ret s p) :)
  have hsnap : (counted.port p).snapshot = (s.port p).snapshot := by
    rw [hself]
    rfl
  exact ⟨(close_congr (s := s) (t := counted) rfl hsnap hgeneration).1, hself, hgeneration⟩

/-! ### A close that completes a commit -/

/-- A close behind the middle of the event. -/
theorem middle_completes_late (hnodup : (u.orders.map (·.number)).Nodup) (h : closeCompletes p u = true)
    (hoff : (u.port p).online = false) : (closeSnapshot p (offlineMiddle p u)).commit = .editing ∧
    (closeSnapshot p (offlineMiddle p u)).staged = [] ∧
    (closeSnapshot p (offlineMiddle p u)).ret.generation = (u.ret.generation + 1) % 65536 := by
  obtain ⟨hcommit, -, hgeneration, -⟩ := offlineMiddle_keeps (p := p) hnodup
  obtain ⟨v, hv⟩ := offlineMiddle_port (p := p) hnodup hoff
  obtain ⟨hcompletes, -⟩ := close_congr (s := u) (p := p) hcommit (by rw [hv]) hgeneration
  rw [← hgeneration]
  exact closeSnapshot_completes (hcompletes.trans h)

/-- A close ahead of it: the second finds no snapshot. -/
theorem middle_completes_early (hnodup : ((closeSnapshot p u).orders.map (·.number)).Nodup)
    (h : closeCompletes p u = true) (hoff : (u.port p).online = false) :
    (closeSnapshot p (offlineMiddle p (closeSnapshot p u))).commit = .editing ∧
    (closeSnapshot p (offlineMiddle p (closeSnapshot p u))).staged = [] ∧
    (closeSnapshot p (offlineMiddle p (closeSnapshot p u))).ret.generation = (u.ret.generation + 1) % 65536 := by
  obtain ⟨d, sn, -, hsn, -⟩ := (closeCompletes_iff p u).mp h
  obtain ⟨b, hb⟩ := closeSnapshot_port_self hsn
  obtain ⟨hediting, hempty, hraised⟩ := closeSnapshot_completes h
  generalize closeSnapshot p u = closed at hnodup hb hediting hempty hraised
  obtain ⟨hcommit, hstaged, hgeneration, -⟩ := offlineMiddle_keeps (p := p) hnodup
  obtain ⟨v, hv⟩ := offlineMiddle_port (p := p) hnodup (by rw [hb]; exact hoff)
  have hnone : ((offlineMiddle p closed).port p).snapshot = none := by rw [hv, hb]; rfl
  rw [closeSnapshot_none hnone, hcommit, hstaged, hgeneration]
  exact ⟨hediting, hempty, hraised⟩

/-! ### What the event leaves -/

section
variable (hnodup : (s.orders.map (·.number)).Nodup)
include hnodup

/-- What the start of the event keeps for its middle. -/
theorem offlineStart_given (p : CounterPort) (n : Nat) :
    let start := offlineStart p (s.setPort p ((s.port p).dropped n))
    (start.orders.map (·.number)).Nodup ∧ start.offlineCore = (cancelledOffline s p).offlineCore ∧
    (start.ret.cal = s.ret.cal) ∧ (start.port p = (s.port p).dropped n ∨
      (s.port p).snapshot ≠ none ∧
        ∃ b, start.port p = { closedPort s.ret.cal[p] ((s.port p).dropped n) with displayDue := b }) := by
  intro start
  let counted := State.setPort
    { cancelledOffline s p with free := if closeCompletes p s then s.free + 1 else s.free } p ((s.port p).dropped n)
  have hcal : counted.ret.cal = s.ret.cal := (congrArg Retained.cal (cancelledOffline_ret s p) :)
  have hself : counted.port p = (s.port p).dropped n := State.port_setPort_self ..
  obtain h | ⟨hcompletes, h⟩ := offlineStart_cases s p n
  · rw [show start = counted from h]
    exact ⟨hnodup, rfl, hcal, .inl hself⟩
  · have hcore : start.offlineCore = counted.offlineCore := by rw [show start = _ from h, closeSnapshot_core]
    obtain ⟨d, sn, -, hsn, -⟩ := (closeCompletes_iff p counted).mp hcompletes
    obtain ⟨b, hb⟩ := closeSnapshot_port_self hsn
    rw [hself] at hsn hb
    refine ⟨?_, hcore.trans rfl, ?_, .inr ⟨?_, b, ?_⟩⟩
    · have horders : start.orders = s.orders := (congrArg State.orders hcore :).trans rfl
      rw [horders]
      exact hnodup
    · rw [← hcal]
      exact (congrArg (fun x : State => x.ret.cal) hcore :)
    · exact fun hnone => Option.some_ne_none sn (hsn.symm.trans hnone)
    · rw [← hcal, ← hb, show start = _ from h]

theorem offlineScale_core (p : CounterPort) (n : Nat) :
    (offlineScale p (s.setPort p ((s.port p).dropped n))).offlineCore = { (labelsLost s p).offlineCore with
      orders := (labelsLost s p).orders.map fun o =>
        if o.state = .openAt p then { o with state := .parked, idle := 0, summaryInFlight := false } else o
      composer := { s.composer with
        queue := s.composer.queue.filter fun j => j.station ≠ p
        current := s.composer.current.map fun c => if c.job.station = p then { c with dropped := true } else c }
      tickets := ticketsLeft s p } := by
  obtain ⟨hstart, hcore, -, hport⟩ := offlineStart_given hnodup p n
  rw [offlineScale_middle, offlineContext, offlineCore_modPort, closeSnapshot_core]
  refine offlineMiddle_core hstart hcore ?_ ?_ <;> obtain hport | ⟨-, b, hport⟩ := hport <;> rw [hport] <;> rfl

theorem offlineScale_port (p : CounterPort) (n : Nat) :
    ∃ b, (offlineScale p (s.setPort p ((s.port p).dropped n))).port p =
      { offlinePort s p with supervision := n, displayDue := b } := by
  obtain ⟨hstart, -, hcal, hport⟩ := offlineStart_given hnodup p n
  rw [offlineScale_middle, offlineContext, modPort_port_self]
  generalize offlineStart p (s.setPort p ((s.port p).dropped n)) = start at hstart hcal hport
  have hoff : (start.port p).online = false := by obtain hport | ⟨-, b, hport⟩ := hport <;> rw [hport] <;> rfl
  obtain ⟨v, hv⟩ := offlineMiddle_port hstart hoff
  obtain ⟨-, -, -, hcal'⟩ := offlineMiddle_keeps (p := p) hstart
  unfold offlinePort
  obtain hport | ⟨hsnap, b, hport⟩ := hport <;> rw [hport] at hv
  · cases hsnap : (s.port p).snapshot with
    | none =>
      have hnone : ((offlineMiddle p start).port p).snapshot = none := by rw [hv]; exact hsnap
      rw [closeSnapshot_none hnone, hv]
      exact ⟨_, rfl⟩
    | some sn =>
      have hsome : ((offlineMiddle p start).port p).snapshot = some sn := by rw [hv]; exact hsnap
      obtain ⟨b, hb⟩ := closeSnapshot_port_self hsome
      rw [hb, hv, hcal', hcal, if_neg (Option.some_ne_none sn)]
      exact ⟨b, rfl⟩
  · have hnone : ((offlineMiddle p start).port p).snapshot = none := by rw [hv]; rfl
    rw [closeSnapshot_none hnone, hv, if_neg hsnap]
    exact ⟨b, rfl⟩

/-- Where the close completes a commit (R79), before or after the rest of the event (log 18). -/
theorem offlineScale_completes (n : Nat) (h : closeCompletes p s = true) :
    let done := offlineScale p (s.setPort p ((s.port p).dropped n))
    done.commit = .editing ∧ done.staged = [] ∧ done.ret.generation = (s.ret.generation + 1) % 65536 := by
  intro done
  obtain ⟨hstart, -, -, -⟩ := offlineStart_given hnodup p n
  have hdone : done = offlineContext p (closeSnapshot p (offlineMiddle p (offlineStart p
    (s.setPort p ((s.port p).dropped n))))) := offlineScale_middle p _
  have hcases := offlineStart_cases s p n
  obtain ⟨hcounted, hself, hgeneration⟩ := counted_kept s p n
  generalize State.setPort { cancelledOffline s p with free := if closeCompletes p s then s.free + 1 else s.free } p
    ((s.port p).dropped n) = counted at hcases hcounted hself hgeneration
  generalize offlineStart p (s.setPort p ((s.port p).dropped n)) = start at hstart hdone hcases
  have hoff : (counted.port p).online = false := by rw [hself]; rfl
  rw [hdone, offlineContext_commit, offlineContext_staged, offlineContext_ret, ← hgeneration]
  obtain rfl | ⟨-, rfl⟩ := hcases
  · exact middle_completes_late hstart (hcounted.trans h) hoff
  · exact middle_completes_early hstart (hcounted.trans h) hoff

end

/-! ### The event while its close completes no commit -/

theorem unprinted_setPort (p q : CounterPort) (u : State) (c : Port) (l : SlotLabel) :
    unprinted p (u.setPort q c) l = (unprinted p u l).setPort q c := by
  unfold unprinted
  dsimp only
  split
  · rfl
  · split
    · next h => rw [if_pos (show l.day ≠ u.ret.day.number from h), ← notify_setPort]
    · next h =>
      rw [if_neg (show ¬ l.day ≠ u.ret.day.number from h)]
      split <;> (rw [← notify_setPort]; rfl)

theorem foldl_unprinted_setPort (p q : CounterPort) (c : Port) (ls : List SlotLabel) : ∀ u : State,
    ls.foldl (unprinted p) (u.setPort q c) = (ls.foldl (unprinted p) u).setPort q c := by
  induction ls with
  | nil => exact fun u => rfl
  | cons l ls ih =>
    intro u
    rw [List.foldl_cons, unprinted_setPort, ih, List.foldl_cons]

/-- The state that is given the called ticket of a station going OFFLINE (R142). -/
def callingLeft (s : State) (p : CounterPort) : State :=
  { labelsLost s p with tickets := { s.tickets with
      calling := if (s.port p).service = .asking then s.tickets.calling.filter (· ≠ p) else s.tickets.calling } }

theorem labelsLost_rest (s : State) (p : CounterPort) : labelsLost s p = { s with
    ret := { s.ret with items := (labelsLost s p).ret.items, totals := (labelsLost s p).ret.totals }
    notices := (labelsLost s p).notices, log := (labelsLost s p).log, orders := (labelsLost s p).orders } := by
  have h := foldl_unprinted_rest (p := p) ((s.port p).slots.labelsAt (s.port p).slots.post) (cancelledOffline s p)
  rw [← labelsLost_eq, cancelledOffline_ret] at h
  exact h

section
variable (hnodup : (s.orders.map (·.number)).Nodup) (h : closeCompletes p s = false)
include hnodup h

/-- The event without the completion of a commit: the called ticket goes, then the rest. -/
theorem offlineScale_incomplete (n : Nat) : ∃ c c' : Port, c.online = false ∧
    offlineScale p (s.setPort p ((s.port p).dropped n)) = State.setPort
      { offlineComposer p (offlineOrder p (returnTicket p ((callingLeft s p).setPort p c))) with
        commit := commitLeft s p } p c' := by
  have hstart : offlineStart p (s.setPort p ((s.port p).dropped n)) =
      (cancelledOffline s p).setPort p ((s.port p).dropped n) := by
    unfold offlineStart
    rw [offlineCounted_eq, closeCompletes_dropped, h]
    rfl
  obtain ⟨hgiven, -, -, -⟩ := offlineStart_given hnodup p n
  rw [hstart] at hgiven
  have hslots : offlineSlots p ((cancelledOffline s p).setPort p ((s.port p).dropped n)) =
      (labelsLost s p).setPort p { (s.port p).dropped n with slots := (s.port p).slots.emptied } := by
    rw [offlineSlots_eq hgiven, State.port_setPort_self, foldl_unprinted_setPort, modPort_setPort, labelsLost_eq]
    rfl
  have hcalling : leaveCalling p ((labelsLost s p).setPort p
      { (s.port p).dropped n with slots := (s.port p).slots.emptied }) = (callingLeft s p).setPort p
        { (s.port p).dropped n with
          slots := (s.port p).slots.emptied
          service := if (s.port p).service = .asking then .free else (s.port p).service } := by
    have htickets : (labelsLost s p).tickets = s.tickets := (congrArg State.tickets (labelsLost_rest s p) :)
    rw [leaveCalling_eq, State.port_setPort_self, State.setPort_tickets, htickets]
    exact State.setPort_setPort (callingLeft s p) p _ _
  have hmiddle : offlineMiddle p ((cancelledOffline s p).setPort p ((s.port p).dropped n)) = _ :=
    congrArg (fun u => offlineComposer p (offlineOrder p (returnTicket p u))) ((congrArg (leaveCalling p) hslots).trans hcalling)
  obtain ⟨hcommit, -, hgeneration, -⟩ := offlineMiddle_keeps (p := p) hgiven
  obtain ⟨v, hv⟩ := offlineMiddle_port (p := p) hgiven (by rw [State.port_setPort_self]; rfl)
  rw [State.port_setPort_self] at hv
  obtain ⟨hcompletes, hleft⟩ := close_congr (s := s) (p := p) hcommit (by rw [hv]; rfl)
    (hgeneration.trans (congrArg Retained.generation (cancelledOffline_ret s p) :))
  obtain ⟨c', hc'⟩ := closeSnapshot_incomplete (hcompletes.trans h)
  rw [hleft] at hc'
  rw [offlineScale_middle, hstart, hc', offlineContext, modPort_setPort, hmiddle]
  exact ⟨_, _, rfl, rfl⟩

end

end Sys2Proof.Machine
end

section
/-! PROOFS. LINE_DROP and SUPERVISION_EXPIRY of an ONLINE station (R8, R9). -/

namespace Sys2Proof.Machine

variable {s t u : State} {p q r : CounterPort} {c : Port} {k : TicketNo} {sn : Snapshot}
  {d : CommitDrain} {rest : List CounterPort} {n : Nat} {b : NoticeBody}

/-! ### Notices and the other ports, where no commit completes -/

@[simp] theorem callingLeft_port (s : State) (p q : CounterPort) : (callingLeft s p).port q = s.port q :=
  (congrArg (fun u : State => u.port q) (labelsLost_rest s p) :)

theorem callingLeft_kept (s : State) (p : CounterPort) : (callingLeft s p).clock = s.clock ∧
    (callingLeft s p).ret.config = s.ret.config ∧ (callingLeft s p).notices = (labelsLost s p).notices :=
  ⟨(congrArg State.clock (labelsLost_rest s p) :), (congrArg (fun u : State => u.ret.config) (labelsLost_rest s p) :), rfl⟩

theorem offlineRest_kept (p : CounterPort) (s : State) : (offlineComposer p (offlineOrder p s)).notices = s.notices ∧
    (offlineComposer p (offlineOrder p s)).ports = s.ports := ⟨rfl, rfl⟩

theorem offlineRest_store (p : CounterPort) (s : State) : (offlineComposer p (offlineOrder p s)).staged = s.staged ∧
    (offlineComposer p (offlineOrder p s)).ret = s.ret := ⟨rfl, rfl⟩

section
variable (hnodup : (s.orders.map (·.number)).Nodup) (h : closeCompletes p s = false)
include hnodup h

theorem offlineScale_silent (hsilent : calledTicket s p = none ∨ s.tickets.calling = []) (n : Nat) :
    let done := offlineScale p (s.setPort p ((s.port p).dropped n))
    done.notices = (labelsLost s p).notices ∧ ∀ q, q ≠ p → done.port q = s.port q := by
  intro done
  obtain ⟨c, c', -, hdone⟩ := offlineScale_incomplete hnodup h n
  have hreturned : (returnTicket p ((callingLeft s p).setPort p c)).notices = (labelsLost s p).notices ∧
      (returnTicket p ((callingLeft s p).setPort p c)).ports = ((callingLeft s p).setPort p c).ports := by
    have hcalled : calledTicket ((callingLeft s p).setPort p c) p = calledTicket s p := calledTicket_congr rfl
    cases hk : calledTicket s p with
    | none =>
      rw [returnTicket_none (hcalled.trans hk)]
      exact ⟨rfl, rfl⟩
    | some k =>
      have hcalling : s.tickets.calling = [] := hsilent.resolve_left (by rw [hk]; exact Option.some_ne_none k)
      have hleft : ((callingLeft s p).setPort p c).tickets.calling = [] := by
        rw [State.setPort_tickets, callingLeft, hcalling]
        split <;> rfl
      rw [returnTicket_waits (hcalled.trans hk) hleft]
      exact ⟨rfl, rfl⟩
  rw [show done = _ from hdone]
  refine ⟨?_, fun q hq => ?_⟩
  · rw [State.setPort_notices]
    exact (offlineRest_kept p _).1.trans hreturned.1
  · rw [State.port_setPort_ne _ _ hq]
    have hports : (offlineComposer p (offlineOrder p (returnTicket p ((callingLeft s p).setPort p c)))).ports =
        ((callingLeft s p).setPort p c).ports :=
      (offlineRest_kept p _).2.trans hreturned.2
    exact (State.port_of_ports _ _ q hports).trans ((State.port_setPort_ne _ _ hq).trans (callingLeft_port s p q))

theorem offlineScale_kept (n : Nat) :
    let done := offlineScale p (s.setPort p ((s.port p).dropped n))
    done.commit = commitLeft s p ∧ done.staged = s.staged ∧ done.ret = (labelsLost s p).ret := by
  intro done
  obtain ⟨c, c', -, hdone⟩ := offlineScale_incomplete hnodup h n
  obtain ⟨-, hstaged, hret, -⟩ := returnTicket_keeps p ((callingLeft s p).setPort p c)
  rw [show done = _ from hdone, State.setPort_commit, State.setPort_staged, State.setPort_ret]
  exact ⟨rfl, (offlineRest_store p _).1.trans (hstaged.trans (congrArg State.staged (labelsLost_rest s p) :)),
    (offlineRest_store p _).2.trans hret⟩

theorem offlineScale_calls (hk : calledTicket s p = some k) (hservice : (s.port p).service = .called)
    (hcalling : s.tickets.calling = q :: rest) (hq : q ≠ p) (n : Nat) :
    let done := offlineScale p (s.setPort p ((s.port p).dropped n))
    let count := min 3 ((s.ticket k).count + 1)
    done.notices = (notify (.ticketCalled k q count .returned) (labelsLost s p)).notices ∧
    done.port q = { s.port q with
      service := .called
      tx := if (s.port q).state = .up ∧ (s.port q).online = true then
          (s.port q).tx ++ [.nowServing q k count]
        else (s.port q).tx } ∧
    ∀ r, r ≠ p → r ≠ q → done.port r = { s.port r with
      tx := if (s.port r).state = .up ∧ (s.port r).online = true ∧ (s.port r).kind = some .callDisplay ∧
          (∃ m, (s.port r).mask = some m ∧ s.ret.config.masks[m][q] = true) then
          (s.port r).tx ++ [.nowServing q k count]
        else (s.port r).tx } := by
  intro done count
  obtain ⟨c, c', -, hdone⟩ := offlineScale_incomplete hnodup h n
  have hleft : ((callingLeft s p).setPort p c).tickets.calling = q :: rest := by
    rw [State.setPort_tickets, callingLeft, hservice, ← hcalling]
    rfl
  have hcalled : calledTicket ((callingLeft s p).setPort p c) p = some k := (calledTicket_congr rfl).trans hk
  let given : State := { (callingLeft s p).setPort p c with
    tickets := { (callingLeft s p).tickets with calling := rest } }
  have hreturned : returnTicket p ((callingLeft s p).setPort p c) = callTicket k q count .returned given :=
    returnTicket_calls hcalled hleft
  have hport (x : CounterPort) (hx : x ≠ p) : given.port x = s.port x :=
    (State.port_setPort_ne (callingLeft s p) c hx).trans (callingLeft_port s p x)
  have hdoneport (x : CounterPort) (hx : x ≠ p) : done.port x = (callTicket k q count .returned given).port x := by
    rw [show done = _ from hdone, State.port_setPort_ne _ _ hx, ← hreturned]
    exact State.port_of_ports _ _ x (offlineRest_kept p _).2
  obtain ⟨hclock, hconfig, hnotices⟩ := callingLeft_kept s p
  refine ⟨?_, ?_, fun r hr hrq => ?_⟩
  · rw [show done = _ from hdone, State.setPort_notices]
    refine (offlineRest_kept p _).1.trans ?_
    rw [hreturned, callTicket_calledState, calledState, notify_eq, notify_eq]
    show NoticeQueue.noticed (callingLeft s p).clock.stamp _ (callingLeft s p).notices = _
    rw [hclock, hnotices, (congrArg State.clock (labelsLost_rest s p) :)]
  · rw [hdoneport q hq, callTicket_port_self, hport q hq]
  · rw [hdoneport r hr, callTicket_port_ne hrq, hport r hr]
    rw [show given.ret.config = s.ret.config from hconfig]
    split <;> rfl

end

/-! ### The whole event -/

theorem calledTicket_eq_none (h : ∀ k n, (s.ticket k).state ≠ .called p n) : calledTicket s p = none := by
  cases hk : calledTicket s p with
  | none => rfl
  | some k =>
    obtain ⟨n, hn⟩ := calledTicket_some hk
    exact absurd hn (h k n)

theorem closeCompletes_eq_false (h : ∀ d sn, s.commit = .waiting d → (s.port p).snapshot = some sn →
    sn.generation = prevGen s.ret.generation → 2 ≤ d.awaited) : closeCompletes p s = false := by
  refine Bool.not_eq_true _ ▸ fun hc => ?_
  obtain ⟨d, sn, hd, hsn, hg, hlast⟩ := (closeCompletes_iff p s).mp hc
  have := h d sn hd hsn hg
  omega

/-- A state that the event leaves, its notice queued, but for what follows at the ports. -/
theorem offlineEffects_of (hnodup : (s.orders.map (·.number)).Nodup)
    (hrest : t = { notify b (offlineScale p (s.setPort p ((s.port p).dropped n))) with ports := t.ports })
    (hports : closeCompletes p s = false → ∀ q, q ≠ p →
      t.port q = (offlineScale p (s.setPort p ((s.port p).dropped n))).port q) :
    OfflineEffects s t p (notify b) := by
  generalize hdone : offlineScale p (s.setPort p ((s.port p).dropped n)) = done at hrest hports
  have hcore : t.offlineCore = { (labelsLost s p).offlineCore with
      orders := (labelsLost s p).orders.map fun o =>
        if o.state = .openAt p then { o with state := .parked, idle := 0, summaryInFlight := false } else o
      composer := { s.composer with
        queue := s.composer.queue.filter fun j => j.station ≠ p
        current := s.composer.current.map fun c => if c.job.station = p then { c with dropped := true } else c }
      tickets := ticketsLeft s p } := by
    rw [← offlineScale_core hnodup p n, hdone, ← offlineCore_notify b done, hrest]
    rfl
  have hstore : t.commit = done.commit ∧ t.staged = done.staged ∧ t.ret = done.ret ∧
      t.notices = done.notices.noticed done.clock.stamp b := by
    rw [notify_eq] at hrest
    rw [hrest]
    exact ⟨rfl, rfl, rfl, rfl⟩
  obtain ⟨hcommit, hstaged, hret, hnotices⟩ := hstore
  have hlost := labelsLost_rest s p
  have hpending : t.pending = s.pending := (congrArg State.pending hcore :).trans (congrArg State.pending hlost :)
  have hclock : t.clock = s.clock := (congrArg State.clock hcore :).trans (congrArg State.clock hlost :)
  have huplink : t.uplink = s.uplink := (congrArg State.uplink hcore :).trans (congrArg State.uplink hlost :)
  have hday : t.dayState = s.dayState := (congrArg State.dayState hcore :).trans (congrArg State.dayState hlost :)
  have hdoneClock : done.clock = s.clock := by
    rw [← hclock, hrest, notify_eq]
  have hlostClock : (labelsLost s p).clock = s.clock := (congrArg State.clock hlost :)
  have hstored : t.ret = { s.ret with
      items := t.ret.items, totals := t.ret.totals, generation := t.ret.generation } := by
    have hsame : ({ t.ret with items := [], generation := 0 } : Retained) =
        { (labelsLost s p).ret with items := [], generation := 0 } := (congrArg State.ret hcore :)
    have hkept : (labelsLost s p).ret = { s.ret with
      items := (labelsLost s p).ret.items, totals := (labelsLost s p).ret.totals } := (congrArg State.ret hlost :)
    calc t.ret = { ({ t.ret with items := [], generation := 0 } : Retained) with
          items := t.ret.items, totals := t.ret.totals, generation := t.ret.generation } := rfl
      _ = _ := by rw [hsame, hkept]
  refine
    { frame := ?frame
      orders := (congrArg State.orders hcore :)
      queue := (congrArg (fun u : State => u.composer.queue) hcore :)
      current := (congrArg (fun u : State => u.composer.current) hcore :)
      count := (congrArg (fun u : State => u.composer.serviceCount) hcore :)
      log := (congrArg State.log hcore :)
      totals := (congrArg (fun u : State => u.ret.totals) hcore :)
      unserved := fun hnone => ?unserved
      returned := fun k n hk honly hservice => ?returned
      uncounted := fun hno => ?uncounted
      counted := fun d sn hd hsn hg => ⟨fun hmany => ?goesOn, fun hlast => ?completes⟩
      others := fun hmany => ⟨fun hsilent => ?silent, fun k l q rest hk honly hservice hcalling hq => ?calls⟩ }
  case frame =>
    have hframe : t = { s with
        ret := t.ret, ports := t.ports, notices := t.notices, staged := t.staged, commit := t.commit
        composer := t.composer, log := t.log, tickets := t.tickets, orders := t.orders, free := t.free } := by
      rw [← hpending, ← hclock, ← huplink, ← hday]
    exact hframe.trans (congrArg (fun r => ({ s with
      ret := r, ports := t.ports, notices := t.notices, staged := t.staged, commit := t.commit
      composer := t.composer, log := t.log, tickets := t.tickets, orders := t.orders, free := t.free } : State)) hstored)
  case unserved => exact (congrArg State.tickets hcore :).trans (ticketsLeft_none (calledTicket_eq_none hnone))
  case returned =>
    refine (congrArg State.tickets hcore :).trans ((ticketsLeft_some (calledTicket_eq hk honly)).trans ?_)
    rw [hservice]
    rfl
  case uncounted =>
    have hfalse : closeCompletes p s = false := closeCompletes_eq_false fun d sn hd hsn hg => absurd hg (hno d sn hd hsn)
    obtain ⟨hc, hs, hr⟩ := offlineScale_kept hnodup hfalse n
    rw [hdone] at hc hs hr
    exact ⟨hcommit.trans (hc.trans (commitLeft_uncounted hno)), hstaged.trans hs, hret.trans hr⟩
  case goesOn =>
    have hfalse : closeCompletes p s = false := closeCompletes_eq_false fun d' _ hd' _ _ => by
      rw [hd] at hd'
      cases hd'
      exact hmany
    obtain ⟨hc, hs, hr⟩ := offlineScale_kept hnodup hfalse n
    rw [hdone] at hc hs hr
    exact ⟨hcommit.trans (hc.trans (commitLeft_counted hd hsn hg)), hstaged.trans hs, hret.trans hr⟩
  case completes =>
    obtain ⟨hc, hs, hr⟩ := offlineScale_completes hnodup n ((closeCompletes_iff p s).mpr ⟨d, sn, hd, hsn, hg, hlast⟩)
    rw [hdone] at hc hs hr
    exact ⟨hcommit.trans hc, hstaged.trans hs, (congrArg Retained.generation hret).trans hr⟩
  case silent =>
    have hfalse : closeCompletes p s = false := closeCompletes_eq_false fun d _ hd _ _ => hmany d hd
    obtain ⟨hn, hp⟩ := offlineScale_silent hnodup hfalse (hsilent.imp_left calledTicket_eq_none) n
    rw [hdone] at hn hp
    refine ⟨?_, fun q hq => (hports hfalse q hq).trans (hp q hq)⟩
    rw [hnotices, hn, notify_eq, hdoneClock, hlostClock]
  case calls =>
    intro count
    have hfalse : closeCompletes p s = false := closeCompletes_eq_false fun d _ hd _ _ => hmany d hd
    obtain ⟨hn, hself, hother⟩ := offlineScale_calls hnodup hfalse (calledTicket_eq hk honly) hservice hcalling hq n
    rw [hdone] at hn hself hother
    refine ⟨?_, (hports hfalse q hq).trans hself, fun r hr hrq => (hports hfalse r hr).trans (hother r hr hrq)⟩
    rw [hnotices, hn, notify_eq b, hdoneClock, notify_clock, hlostClock]

/-! ### O40 -/

theorem returnTicket_other (p q : CounterPort) (s : State) :
    ∃ v l, (returnTicket p s).port q = { s.port q with service := v, tx := l } := by
  cases h : calledTicket s p with
  | none => exact ⟨_, _, by rw [returnTicket_none h]⟩
  | some k =>
    cases hcalling : s.tickets.calling with
    | nil => exact ⟨(s.port q).service, (s.port q).tx, by rw [returnTicket_waits h hcalling]; rfl⟩
    | cons x rest =>
      rw [returnTicket_calls h hcalling]
      by_cases hqx : q = x
      · rw [hqx, callTicket_port_self]
        exact ⟨_, _, rfl⟩
      · rw [callTicket_port_ne hqx]
        split
        · exact ⟨(s.port q).service, _, rfl⟩
        · exact ⟨(s.port q).service, (s.port q).tx, rfl⟩

/-- At another station at most the service state and the frames to send change. -/
theorem offlineScale_other (hnodup : (s.orders.map (·.number)).Nodup) (h : closeCompletes p s = false) (n : Nat)
    (hq : q ≠ p) : ∃ v l, (offlineScale p (s.setPort p ((s.port p).dropped n))).port q =
      { s.port q with service := v, tx := l } := by
  obtain ⟨c, c', -, hdone⟩ := offlineScale_incomplete hnodup h n
  have hports := (offlineRest_kept p (returnTicket p ((callingLeft s p).setPort p c))).2
  obtain ⟨v, l, hreturned⟩ := returnTicket_other p q ((callingLeft s p).setPort p c)
  rw [State.port_setPort_ne _ _ hq, callingLeft_port] at hreturned
  rw [hdone, State.port_setPort_ne _ _ hq]
  exact ⟨v, l, (State.port_of_ports _ _ q hports).trans hreturned⟩

theorem offlineScale_due (hnodup : (s.orders.map (·.number)).Nodup) (h : closeCompletes p s = false) (n : Nat)
    (hq : q ≠ p) : ((offlineScale p (s.setPort p ((s.port p).dropped n))).port q).displayDue = (s.port q).displayDue := by
  obtain ⟨v, l, hport⟩ := offlineScale_other hnodup h n hq
  rw [hport]

theorem flushPort_offline (hoff : (s.port p).online = false) : flushPort s p = { s.port p with displayDue := false } := by
  cases hdue : (s.port p).displayDue with
  | false => rw [flushPort_of_due_false s p hdue, ← hdue]
  | true =>
    refine flushPort_of_not_scaleOnline (fun hs => ?_) hdue
    exact absurd (hoff.symm.trans hs.2.1) (by decide)

theorem offlineCore_dayState (s : State) : s.offlineCore.dayState = s.dayState := rfl

section
variable (hq : Quiet s) (hday : s.dayState = .trading) (hnodup : (s.orders.map (·.number)).Nodup)
include hq hday hnodup

/-- The end of an offline event: what `finish` does to the port of the station, and the displays sent. -/
theorem offlineEvent_effects (b : NoticeBody) (n : Nat) (f : Port → Port)
    (hf : ∀ c, (f c).online = c.online ∧ f { c with displayDue := false } = { f c with displayDue := false }) :
    let done := modPort p f (notify b (offlineScale p (s.setPort p ((s.port p).dropped n))))
    dayTest done = done ∧ (flush done).port p = f { offlinePort s p with supervision := n } ∧
      OfflineEffects s (flush done) p (notify b) := by
  have hlost : (labelsLost s p).dayState = s.dayState := (congrArg State.dayState (labelsLost_rest s p) :)
  have hscale : (offlineScale p (s.setPort p ((s.port p).dropped n))).dayState = .trading := by
    rw [← offlineCore_dayState, offlineScale_core hnodup]
    exact hlost.trans hday
  obtain ⟨due, hport⟩ := offlineScale_port (p := p) hnodup n
  have hdue := fun hfalse q hne => (offlineScale_due (p := p) (q := q) hnodup hfalse n hne).trans (hq q)
  have heffects := fun t => offlineEffects_of (t := t) (b := b) (p := p) (n := n) hnodup
  generalize offlineScale p (s.setPort p ((s.port p).dropped n)) = scaled at hscale hport hdue heffects ⊢
  intro done
  have hdone : done.dayState = .trading := (notify_dayState b scaled).trans hscale
  have hself : done.port p = f { offlinePort s p with supervision := n, displayDue := due } := by
    rw [modPort_port_self, notify_port, hport]
  have hquiet : (offlinePort s p).displayDue = false := by
    unfold offlinePort
    split <;> exact hq p
  refine ⟨dayTest_trading hdone, ?_, heffects _ rfl fun hfalse q hne => ?_⟩
  · rw [flush_port, flushPort_offline (by rw [hself, (hf _).1]; rfl), hself, ← (hf _).2]
    rw [← hquiet]
  · have hother : done.port q = scaled.port q := by rw [modPort_port_ne _ _ hne, notify_port]
    rw [flush_port, flushPort_of_due_false, hother]
    rw [hother]
    exact hdue hfalse q hne

end

theorem offlinePort_supervision (s : State) (p : CounterPort) :
    { offlinePort s p with supervision := (s.port p).supervision } = offlinePort s p := by
  unfold offlinePort
  split <;> rfl

theorem goOffline_scale (hkind : (s.port p).kind = some .scale) (cause : StationCause) :
    goOffline p cause s = notify (.stationState p (some .scale) .offline cause)
      (offlineScale p (s.setPort p ((s.port p).dropped (s.port p).supervision))) := by
  unfold goOffline
  dsimp only
  rw [if_pos hkind, hkind]
  rfl

theorem goOffline_other (hkind : (s.port p).kind ≠ some .scale) (cause : StationCause) :
    goOffline p cause s = notify (.stationState p (s.port p).kind .offline cause)
      (s.setPort p { s.port p with online := false, tx := [] }) := by
  unfold goOffline
  dsimp only
  rw [if_neg hkind]
  rfl

/-- The end of an event of a TRADING day that leaves one port with nothing to show. -/
theorem flush_dayTest_setPort (b : NoticeBody) (hq : Quiet s) (hday : s.dayState = .trading) (hc : c.displayDue = false) :
    flush (dayTest ((notify b s).setPort p c)) = (notify b s).setPort p c := by
  have hsame : dayTest ((notify b s).setPort p c) = (notify b s).setPort p c :=
    dayTest_trading ((notify_dayState b s).trans hday)
  rw [hsame, flush_of_quiet (((notify_quiet_iff b s).mpr hq).setPort hc)]

theorem exec_lineDrop_online (hup : (s.port p).state = .up) (honline : (s.port p).online = true) :
    exec (.lineDrop p) s = .next (flush (dayTest (portDown p (goOffline p .lineDrop s)))) := by
  show execLineDrop p s = _
  rw [execLineDrop, hup]
  exact if_pos honline

theorem exec_supervisionExpiry_due (honline : (s.port p).online = true) (hcount : (s.port p).supervision ≤ 1) :
    exec (.supervisionExpiry p) s = .next (flush (dayTest (goOffline p .supervision
      (s.setPort p { s.port p with supervision := 0 })))) := by
  show execSupervisionExpiry p s = _
  rw [execSupervisionExpiry, if_pos ⟨honline, hcount⟩]
  rfl

/-- Settles O40. -/
theorem offlineEventEmptiesScale : Obligations.OfflineEventEmptiesScale := by
  refine ⟨fun s p hq hday hnodup hs => ⟨?dropped, fun hcount => ?expired⟩,
    fun s p hq hday hup honline hkind => ⟨?otherDropped, fun hcount => ?otherExpired⟩, fun s p h => ?kept⟩
  case dropped =>
    obtain ⟨htest, hport, heffects⟩ := offlineEvent_effects (p := p) hq hday hnodup
      (.stationState p (some .scale) .offline .lineDrop) (s.port p).supervision
      (fun c => { c with state := .down, mask := none, tx := [] }) fun c => ⟨rfl, rfl⟩
    rw [offlinePort_supervision] at hport
    refine ⟨_, ?_, hport, heffects⟩
    rw [exec_lineDrop_online hs.1 hs.2.1, goOffline_scale hs.2.2]
    exact congrArg (fun u => Host.Outcome.next (flush u)) htest
  case expired =>
    obtain ⟨htest, hport, heffects⟩ := offlineEvent_effects (p := p) hq hday hnodup
      (.stationState p (some .scale) .offline .supervision) 0 id fun c => ⟨rfl, rfl⟩
    have hzero : (s.setPort p { s.port p with supervision := 0 }).port p = { s.port p with supervision := 0 } :=
      State.port_setPort_self ..
    rw [modPort, id, State.setPort_self] at htest hport heffects
    refine ⟨_, ?_, hport, heffects⟩
    rw [exec_supervisionExpiry_due hs.2.1 hcount, goOffline_scale (by rw [hzero]; exact hs.2.2), hzero,
      State.setPort_setPort]
    exact congrArg (fun u => Host.Outcome.next (flush u)) htest
  case otherDropped =>
    rw [exec_lineDrop_online hup honline, goOffline_other hkind, notify_setPort, portDown, modPort_setPort]
    refine congrArg Host.Outcome.next ((flush_dayTest_setPort _ hq hday ?_).trans (notify_setPort ..).symm)
    exact hq p
  case otherExpired =>
    have hzero : (s.setPort p { s.port p with supervision := 0 }).port p = { s.port p with supervision := 0 } :=
      State.port_setPort_self ..
    rw [exec_supervisionExpiry_due honline hcount, goOffline_other (by rw [hzero]; exact hkind), hzero,
      State.setPort_setPort, notify_setPort]
    refine congrArg Host.Outcome.next (flush_dayTest_setPort _ hq hday ?_)
    exact hq p
  case kept =>
    show execSupervisionExpiry p s = _
    refine if_neg fun ⟨honline, hcount⟩ => ?_
    obtain h | h := h
    · omega
    · exact absurd (h.symm.trans honline) (by decide)

end Sys2Proof.Machine
end

section
/-! PROOFS. HELLO: a device attaches or is REFUSED (R2, R3, R7). -/

namespace Sys2Proof.Machine

variable {s base u t : State} {p q : CounterPort} {c : Port} {k : DeviceKind} {sw : Switch} {pr : PrinterCondition}

/-! ### Places and masks (R2, R133) -/

/-- What an attach reads of a state beside its notices: the other ports' places, and what port `p` keeps. -/
structure SameGround (p : CounterPort) (s base : State) : Prop where
  others : ∀ q, q ≠ p → (base.port q).state = (s.port q).state ∧ (base.port q).kind = (s.port q).kind ∧
    (base.port q).mask = (s.port q).mask
  cal : base.ret.cal = s.ret.cal
  config : base.ret.config = s.ret.config
  mask : (base.port p).mask = (s.port p).mask
  errors : (base.port p).errors = (s.port p).errors
  lastSent : (base.port p).lastSent = (s.port p).lastSent

theorem SameGround.refl (p : CounterPort) (s : State) : SameGround p s s :=
  ⟨fun _ _ => ⟨rfl, rfl, rfl⟩, rfl, rfl, rfl, rfl, rfl⟩

/-- The ground is that of `s` where port `p` keeps its mask, its error counts and its last frame. -/
theorem SameGround.of_setPort (b : NoticeBody) (hmask : c.mask = (s.port p).mask) (herrors : c.errors = (s.port p).errors)
    (hsent : c.lastSent = (s.port p).lastSent) : SameGround p s (notify b (s.setPort p c)) := by
  have hself : (notify b (s.setPort p c)).port p = c := by rw [notify_port, State.port_setPort_self]
  have hother (q : CounterPort) (hq : q ≠ p) : (notify b (s.setPort p c)).port q = s.port q := by
    rw [notify_port, State.port_setPort_ne _ _ hq]
  exact
    { others := fun q hq => by rw [hother q hq]; exact ⟨rfl, rfl, rfl⟩
      cal := congrArg Retained.cal (notify_ret b (s.setPort p c))
      config := congrArg Retained.config (notify_ret b (s.setPort p c))
      mask := by rw [hself]; exact hmask
      errors := by rw [hself]; exact herrors
      lastSent := by rw [hself]; exact hsent }

theorem placesHeld_congr (h : SameGround p s base) : placesHeld base p k = placesHeld s p k := by
  unfold placesHeld
  refine congrArg List.length (List.filter_congr fun q _ => ?_)
  by_cases hq : q = p
  · simp [hq]
  · obtain ⟨hstate, hkind, -⟩ := h.others q hq
    rw [hstate, hkind]

theorem maskTaken_iff (h : SameGround p s base) (m : Fin 4) : maskTaken base p m = true ↔
    ∃ q, q ≠ p ∧ (s.port q).state = .up ∧ (s.port q).kind = some .callDisplay ∧ (s.port q).mask = some m := by
  simp only [maskTaken, List.any_eq_true, List.mem_finRange, true_and, Bool.and_eq_true, decide_eq_true_iff, and_assoc]
  refine exists_congr fun q => and_congr_right fun hq => ?_
  obtain ⟨hstate, hkind, hmask⟩ := h.others q hq
  rw [hstate, hkind, hmask]

/-- A call display keeps its mask, or takes the lowest that no other holds (R133). -/
theorem attachMask_callDisplay (h : SameGround p s base) :
    (∀ m, (s.port p).mask = some m → attachMask base p .callDisplay = some m) ∧
    ((s.port p).mask = none → ∀ m, attachMask base p .callDisplay = some m ↔
      maskTaken base p m = false ∧ ∀ j, j < m → maskTaken base p j = true) := by
  have hmask : attachMask base p .callDisplay =
      (s.port p).mask.or ((List.finRange 4).find? fun m => !maskTaken base p m) := by
    rw [attachMask, h.mask]
    rfl
  refine ⟨fun m hm => by rw [hmask, hm]; rfl, fun hnone m => ?_⟩
  rw [hmask, hnone, Option.none_or, ← Fin.find?_eq_find?_finRange, Fin.find?_eq_some_iff]
  simp

/-! ### The attach -/

/-- The port of a device that attaches, but for what its kind adds (R7). -/
def attachedPort (s : State) (p : CounterPort) (k : DeviceKind) : Port :=
  { Port.fresh s.ret.cal[p] with
    state := .up, kind := some k, online := true
    supervision := s.ret.config.supervisionReload
    errors := (s.port p).errors, lastSent := (s.port p).lastSent }

/-- What a scale's attach adds (R22). -/
def attachedScale (s : State) (p : CounterPort) (sw : Switch) (pr : PrinterCondition) : Port :=
  { attachedPort s p .scale with
    calSwitch := sw
    printer := printerStateOf pr
    sale := if sw = .on then .calibrating else .noOperator
    weigh := WeighCtx.fresh s.ret.cal[p] true }

section
variable (h : SameGround p s base)
include h

theorem restarted_scale (sw : Switch) (pr : PrinterCondition) :
    restarted base p .scale sw pr = { attachedScale s p sw pr with displayDue := true } := by
  unfold restarted attachedScale attachedPort
  rw [h.cal, h.config, h.errors, h.lastSent]
  rfl

theorem restarted_dispenser (sw : Switch) (pr : PrinterCondition) :
    restarted base p .dispenser sw pr = attachedPort s p .dispenser := by
  unfold restarted attachedPort
  rw [h.cal, h.config, h.errors, h.lastSent]
  rfl

theorem restarted_callDisplay (sw : Switch) (pr : PrinterCondition) : restarted base p .callDisplay sw pr =
    { attachedPort s p .callDisplay with mask := attachMask base p .callDisplay } := by
  unfold restarted attachedPort
  rw [h.cal, h.config, h.errors, h.lastSent]

end

theorem attach_fits (h : placesHeld s p k < kindLimit k) (sw : Switch) (pr : PrinterCondition) :
    attach p k sw pr s = (notify (.stationState p (some k) .online .attach) s).setPort p (restarted s p k sw pr) := by
  rw [attach, if_pos h]
  exact notify_setPort ..

theorem attach_refused (h : kindLimit k ≤ placesHeld s p k) (sw : Switch) (pr : PrinterCondition) :
    attach p k sw pr s = (notify (.stationState p (some k) .refused .kindLimit) s).setPort p
      { s.port p with state := .refused, mask := none, tx := [.refused] } := by
  rw [attach, if_neg (Nat.not_lt.mpr h)]
  exact notify_setPort ..

/-- The end of an attach of a device that is shown nothing. -/
theorem attach_unshown (hq : Quiet base) (b : NoticeBody) (hc : c.displayDue = false) :
    OnlyPort (notify b base) (flush ((notify b base).setPort p c)) p ∧
      (flush ((notify b base).setPort p c)).port p = c := by
  rw [flush_of_quiet (((notify_quiet_iff b base).mpr hq).setPort hc)]
  exact ⟨⟨rfl, fun q hne => State.port_setPort_ne _ _ hne⟩, State.port_setPort_self ..⟩

/-! ### HELLO (R2 to R4) -/

theorem exec_hello_attaches (h : (s.port p).state = .down ∨ (s.port p).state = .up ∧ (s.port p).online = false)
    (k : DeviceKind) (sw : Switch) (pr : PrinterCondition) :
    exec (.hello p (some k) sw pr) s = .next (flush (attach p k sw pr s)) := by
  have hop : helloOp p k sw pr s = attach p k sw pr s := by
    obtain h | ⟨hup, hoff⟩ := h
    · rw [helloOp, h]
    · rw [helloOp, hup, hoff]
      rfl
  exact congrArg (fun u => Host.Outcome.next (flush u)) hop

theorem exec_hello_refused (hq : Quiet s) (h : (s.port p).state = .refused) (k : DeviceKind) (sw : Switch)
    (pr : PrinterCondition) : exec (.hello p (some k) sw pr) s =
      .next (s.setPort p { s.port p with tx := (s.port p).tx ++ [.refused] }) := by
  have hop : helloOp p k sw pr s = s.setPort p { s.port p with tx := (s.port p).tx ++ [.refused] } := by
    rw [helloOp, h]
    rfl
  refine congrArg Host.Outcome.next ((congrArg flush hop).trans (flush_of_quiet (hq.setPort ?_)))
  exact hq p

theorem exec_hello_restarts (hup : (s.port p).state = .up) (honline : (s.port p).online = true) (k : DeviceKind)
    (sw : Switch) (pr : PrinterCondition) : exec (.hello p (some k) sw pr) s =
      .next (flush (attach p k sw pr (dayTest (goOffline p .restart s)))) := by
  have hop : helloOp p k sw pr s = attach p k sw pr (dayTest (goOffline p .restart s)) := by
    rw [helloOp, hup]
    exact if_pos honline
  exact congrArg (fun u => Host.Outcome.next (flush u)) hop

theorem restarted_congr (h : SameGround p s base) (k : DeviceKind) (sw : Switch) (pr : PrinterCondition) :
    restarted base p k sw pr = restarted s p k sw pr := by
  have htaken (m : Fin 4) : maskTaken base p m = maskTaken s p m := by
    rw [Bool.eq_iff_iff, maskTaken_iff h, maskTaken_iff (.refl p s)]
  have hmask : attachMask base p k = attachMask s p k := by
    unfold attachMask
    simp only [h.mask, htaken]
  unfold restarted
  rw [h.cal, h.config, h.errors, h.lastSent, hmask]

/-- A port that is not UP is shown nothing. -/
theorem flushPort_hidden (h : (s.port p).state ≠ .up) : flushPort s p = { s.port p with displayDue := false } := by
  cases hdue : (s.port p).displayDue with
  | false => rw [flushPort_of_due_false s p hdue, ← hdue]
  | true => exact flushPort_of_not_scaleOnline (fun hs => h hs.1) hdue

/-- What another port is shown does not turn on port `p`. -/
theorem flushPort_setPort_ne (s : State) (c : Port) (hq : q ≠ p) : flushPort (s.setPort p c) q = flushPort s q := by
  have hport := State.port_setPort_ne s c hq
  have hshown : displayOf (s.setPort p c) q = displayOf s q := by
    unfold displayOf
    rw [hport]
    rfl
  unfold flushPort
  rw [hport, hshown]

/-- A display owed to the port before the attach makes no difference. -/
theorem attach_due (s : State) (p : CounterPort) (b : Bool) (k : DeviceKind) (sw : Switch) (pr : PrinterCondition) :
    flush (attach p k sw pr (s.setPort p { s.port p with displayDue := b })) = flush (attach p k sw pr s) := by
  have hground : SameGround p s (s.setPort p { s.port p with displayDue := b }) := by
    have hself := State.port_setPort_self s p { s.port p with displayDue := b }
    exact ⟨fun q hq => by rw [State.port_setPort_ne _ _ hq]; exact ⟨rfl, rfl, rfl⟩, rfl, rfl, by rw [hself], by rw [hself],
      by rw [hself]⟩
  by_cases hroom : placesHeld s p k < kindLimit k
  · rw [attach_fits hroom, attach_fits (by rw [placesHeld_congr hground]; exact hroom), restarted_congr hground,
      notify_setPort, State.setPort_setPort]
  · rw [attach_refused (Nat.not_lt.mp hroom), attach_refused (by rw [placesHeld_congr hground]; exact Nat.not_lt.mp hroom),
      notify_setPort, State.setPort_setPort, State.port_setPort_self]
    refine State.ext_ports _ _ (fun q => ?_) rfl
    rw [flush_port, flush_port]
    by_cases hq : q = p
    · subst hq
      rw [flushPort_hidden, flushPort_hidden, State.port_setPort_self, State.port_setPort_self]
      · rw [State.port_setPort_self]; nofun
      · rw [State.port_setPort_self]; nofun
    · rw [flushPort_setPort_ne _ _ hq, flushPort_setPort_ne _ _ hq]

/-- Settles O37. -/
theorem helloAttachesOrIsRefused : Obligations.HelloAttachesOrIsRefused := by
  intro s p k sw pr hq held limit taken attached counted
  have hheld : placesHeld s p k = held := by
    refine congrArg List.length (List.filter_congr fun q _ => ?_)
    simp only [Bool.decide_and, Bool.and_assoc]
  have hlimit : kindLimit k = limit := by cases k <;> rfl
  have hcounted (base : State) (hquiet : Quiet base) (hground : SameGround p s base) :
      counted base (flush (attach p k sw pr base)) := by
    have hplaces := placesHeld_congr (k := k) hground
    refine ⟨fun hroom => ?fits, fun hfull => ?refused⟩
    case fits =>
      rw [attach_fits (by rw [hplaces, hheld, hlimit]; exact hroom)]
      cases k with
      | scale =>
        rw [restarted_scale hground]
        obtain ⟨honly, hport⟩ := flush_shown (base := notify (.stationState p (some .scale) .online .attach) base)
          (p := p) (c := attachedScale s p sw pr) ⟨rfl, rfl, rfl⟩ rfl ((notify_quiet_iff _ _).mpr hquiet)
        refine ⟨honly, nofun, nofun, fun _ => hport.trans ?_⟩
        cases sw <;> cases pr <;> rfl
      | dispenser =>
        rw [restarted_dispenser hground]
        obtain ⟨honly, hport⟩ := attach_unshown (p := p) hquiet (.stationState p (some .dispenser) .online .attach)
          (c := attachedPort s p .dispenser) rfl
        exact ⟨honly, fun _ => hport, nofun, nofun⟩
      | callDisplay =>
        rw [restarted_callDisplay hground]
        obtain ⟨honly, hport⟩ := attach_unshown (p := p) hquiet (.stationState p (some .callDisplay) .online .attach)
          (c := { attachedPort s p .callDisplay with mask := attachMask base p .callDisplay }) rfl
        obtain ⟨hkeeps, htakes⟩ := attachMask_callDisplay hground
        have hnot (m : Fin 4) : maskTaken base p m = false ↔ ¬ taken m := by
          rw [← Bool.not_eq_true]
          exact not_congr (maskTaken_iff hground m)
        rw [hport]
        refine ⟨honly, nofun, fun _ => ⟨rfl, hkeeps, fun hnone m => (htakes hnone m).trans ?_⟩, nofun⟩
        rw [hnot]
        exact and_congr_right fun _ => forall_congr' fun j => imp_congr_right fun _ => maskTaken_iff hground j
    case refused =>
      rw [attach_refused (by rw [hplaces, hheld, hlimit]; exact hfull), ← notify_setPort]
      exact flush_of_quiet ((notify_quiet_iff _ _).mpr (hquiet.setPort (hquiet p)))
  refine ⟨fun h => ⟨_, exec_hello_attaches h k sw pr, hcounted s hq (.refl p s)⟩,
    fun h => exec_hello_refused hq h k sw pr, fun hday hup honline => ⟨fun hkind => ?otherKind, fun hkind hnodup hmany => ?restarts⟩⟩
  case otherKind =>
    have htest : dayTest (goOffline p .restart s) = goOffline p .restart s := by
      rw [goOffline_other hkind]
      exact dayTest_trading ((notify_dayState _ _).trans hday)
    refine ⟨_, exec_hello_restarts hup honline k sw pr, ?_⟩
    rw [htest, goOffline_other hkind]
    refine hcounted _ ((notify_quiet_iff _ _).mpr (hq.setPort ?_)) ?_
    · exact hq p
    · exact .of_setPort _ rfl rfl rfl
  case restarts =>
    obtain ⟨htest, hport, heffects⟩ := offlineEvent_effects (p := p) hq hday hnodup
      (.stationState p (some .scale) .offline .restart) (s.port p).supervision id fun c => ⟨rfl, rfl⟩
    rw [modPort, id, State.setPort_self] at htest hport heffects
    rw [id, offlinePort_supervision] at hport
    have hevent : exec (.hello p (some k) sw pr) s = .next (flush (attach p k sw pr (notify
        (.stationState p (some .scale) .offline .restart)
        (offlineScale p (s.setPort p ((s.port p).dropped (s.port p).supervision)))))) := by
      rw [exec_hello_restarts hup honline, goOffline_scale hkind, htest]
    have hfalse : closeCompletes p s = false := closeCompletes_eq_false fun d _ hd _ _ => hmany d hd
    have hother := fun q hq => offlineScale_other (p := p) (q := q) hnodup hfalse (s.port p).supervision hq
    obtain ⟨due, hself⟩ := offlineScale_port (p := p) hnodup (s.port p).supervision
    generalize offlineScale p (s.setPort p ((s.port p).dropped (s.port p).supervision)) = scaled
      at hevent hother hself hport heffects
    have hrest : flush (notify (.stationState p (some .scale) .offline .restart) scaled) =
        (notify (.stationState p (some .scale) .offline .restart) scaled).setPort p
          { (notify (.stationState p (some .scale) .offline .restart) scaled).port p with displayDue := false } := by
      refine State.ext_ports _ _ (fun q => ?_) rfl
      rw [flush_port]
      by_cases hqp : q = p
      · subst hqp
        rw [State.port_setPort_self]
        exact flushPort_offline (by rw [notify_port, hself]; rfl)
      · obtain ⟨v, l, hport⟩ := hother q hqp
        rw [State.port_setPort_ne _ _ hqp, flushPort_of_due_false]
        rw [notify_port, hport]
        exact hq q
    refine ⟨_, _, hevent, hport, heffects, ?_⟩
    rw [← attach_due _ p false, ← hrest]
    have hkept : (offlinePort s p).mask = (s.port p).mask ∧ (offlinePort s p).errors = (s.port p).errors ∧
        (offlinePort s p).lastSent = (s.port p).lastSent := by
      unfold offlinePort
      split <;> exact ⟨rfl, rfl, rfl⟩
    obtain ⟨hmask, herrors, hsent⟩ := hkept
    refine hcounted _ (flush_quiet _) ⟨fun q hqp => ?_, ?_, ?_, ?_, ?_, ?_⟩
    · obtain ⟨v, l, hport⟩ := hother q hqp
      rw [hrest, State.port_setPort_ne _ _ hqp, notify_port, hport]
      exact ⟨rfl, rfl, rfl⟩
    · rw [heffects.frame]
    · rw [heffects.frame]
    · rw [hport, hmask]
    · rw [hport, herrors]
    · rw [hport, hsent]

end Sys2Proof.Machine
end

section
/-! PROOFS. CLOCK_TICK: every count takes one step, and what falls due runs as the command of its row (R201). -/

namespace Sys2Proof.Machine

/-! ### The counts of a state -/

/-- What the events of a tick are judged by, but for the clock. -/
structure Counts where
  config : ConfigRecord
  supervision : CounterPort → Nat
  tickets : Vector TicketRec 100
  orders : List Order
  commit : CommitState
  day : DayState

def State.counts (s : State) : Counts where
  config := s.ret.config
  supervision := fun p => (s.port p).supervision
  tickets := s.tickets.recs
  orders := s.orders
  commit := s.commit
  day := s.dayState

variable {s t : State} {p : CounterPort} {k : TicketNo} {o : Order}

theorem counts_eq (hconfig : t.ret.config = s.ret.config) (hports : ∀ p, (t.port p).supervision = (s.port p).supervision)
    (htickets : t.tickets.recs = s.tickets.recs) (horders : t.orders = s.orders) (hcommit : t.commit = s.commit)
    (hday : t.dayState = s.dayState) : t.counts = s.counts := by
  simp only [State.counts, hconfig, hports, htickets, horders, hcommit, hday]

theorem counts_setPort {c : Port} (h : c.supervision = (s.port p).supervision) : (s.setPort p c).counts = s.counts := by
  refine counts_eq rfl (fun q => ?_) rfl rfl rfl rfl
  by_cases hq : q = p
  · subst hq
    rw [State.port_setPort_self, h]
  · rw [State.port_setPort_ne _ _ hq]

theorem counts_modPort {f : Port → Port} (h : ∀ c, (f c).supervision = c.supervision) (p : CounterPort) (s : State) :
    (modPort p f s).counts = s.counts := counts_setPort (h _)

theorem counts_ports {v : Vector Port 14} (h : ∀ p : CounterPort, v[p].supervision = (s.port p).supervision) :
    ({ s with ports := v } : State).counts = s.counts := counts_eq rfl h rfl rfl rfl rfl

theorem counts_notify (b : NoticeBody) (s : State) : (notify b s).counts = s.counts := by rw [notify_eq]; rfl

theorem counts_flush (s : State) : (flush s).counts = s.counts := by
  refine counts_eq rfl (fun p => ?_) rfl rfl rfl rfl
  rw [flush_port]
  obtain ⟨l, hl⟩ := flushPort_kept s p
  rw [hl]

theorem counts_markAllDisplays (s : State) : (markAllDisplays s).counts = s.counts := by
  refine counts_ports fun p => ?_
  simp only [Fin.getElem_fin, Vector.getElem_map]
  rfl

theorem counts_applyTare (p : CounterPort) (r : Tare) (s : State) : (applyTare p r s).counts = s.counts := by
  obtain ⟨sn, h, -⟩ := applyTare_eq p r s
  rw [h]
  exact counts_setPort rfl

theorem counts_removePreset (p : CounterPort) (s : State) : (removePreset p s).counts = s.counts := by
  obtain ⟨-, h⟩ | ⟨-, h⟩ := removePreset_cases p s <;> rw [h]
  exact counts_applyTare ..

theorem counts_setService (p : CounterPort) (v : ServiceState) (s : State) : (setService p v s).counts = s.counts :=
  counts_setPort rfl

theorem counts_setSale (p : CounterPort) (v : SaleState) (m : Option MsgCode) (s : State) :
    (setSale p v m s).counts = s.counts := counts_setPort rfl

theorem counts_leaveCalling (p : CounterPort) (s : State) : (leaveCalling p s).counts = s.counts := by
  unfold leaveCalling
  split
  · exact counts_setService p .free { s with tickets := { s.tickets with calling := s.tickets.calling.filter (· ≠ p) } }
  · rfl

theorem counts_offlineComposer (p : CounterPort) (s : State) : (offlineComposer p s).counts = s.counts := rfl

theorem counts_offlineContext (p : CounterPort) (s : State) : (offlineContext p s).counts = s.counts :=
  counts_setPort rfl

theorem counts_toIdle (p : CounterPort) (m : Option MsgCode) (s : State) : (toIdle p m s).counts = s.counts := by
  unfold toIdle
  split
  · exact (counts_setSale p _ m _).trans (counts_leaveCalling p s)
  · exact counts_setSale p _ m s

/-! ### Events on the verge -/

/-- The count that event `e` is judged by does not stand one step ahead of its end, where the command of its row
would run it and a tick would not. -/
structure Ripe (e : TickEvent) (c : Counts) : Prop where
  config : ConfigSound c.config
  supervision : ∀ p, e = .supervision p → c.supervision p ≠ 1
  call : ∀ k, e = .call k → ∀ p, c.tickets[k].state ≠ .called p 1
  abandon : ∀ n, e = .abandon n → ∀ o ∈ c.orders, o.number = n → o.idle + 1 ≠ c.config.parkTimeout * 60
  commitDrain : e = .commitDrain → ∀ d, c.commit = .waiting d → d.timer ≠ 1
  closeDrain : e = .closeDrain → ∀ b, c.day ≠ .closing 1 b

namespace Ripe
variable {e : TickEvent} {c : Counts}

theorem congr (h : Ripe e s.counts) (heq : t.counts = s.counts) : Ripe e t.counts := heq ▸ h

theorem tickets (h : Ripe e c) {v : Vector TicketRec 100}
    (hv : ∀ (k : TicketNo) p, v[k].state = .called p 1 → c.tickets[k].state = .called p 1) :
    Ripe e { c with tickets := v } :=
  { h with call := fun k he p hk => h.call k he p (hv k p hk) }

theorem orders (h : Ripe e c) {l : List Order}
    (hl : ∀ o ∈ l, o.idle = 0 ∨ ∃ o' ∈ c.orders, o'.number = o.number ∧ o'.idle = o.idle) :
    Ripe e { c with orders := l } := by
  refine { h with abandon := fun n he o ho hn => ?_ }
  obtain hzero | ⟨o', ho', hnumber, hidle⟩ := hl o ho
  · obtain ⟨hpark, -⟩ := h.config.parkTimeout
    intro heq
    simp only at heq
    omega
  · rw [← hidle]
    exact h.abandon n he o' ho' (hnumber.trans hn)

theorem commit (h : Ripe e c) {v : CommitState} (hv : ∀ d, v = .waiting d → d.timer ≠ 1) :
    Ripe e { c with commit := v } := { h with commitDrain := fun _ => hv }

theorem day (h : Ripe e c) {v : DayState} (hv : ∀ b, v ≠ .closing 1 b) : Ripe e { c with day := v } :=
  { h with closeDrain := fun _ => hv }

theorem foldl {α : Type} {f : State → α → State} (hf : ∀ s a, Ripe e s.counts → Ripe e (f s a).counts)
    {l : List α} (h : Ripe e s.counts) : Ripe e (l.foldl f s).counts := by
  induction l generalizing s with
  | nil => exact h
  | cons a l ih => exact ih (hf s a h)

theorem notify (h : Ripe e s.counts) {b : NoticeBody} : Ripe e (notify b s).counts := h.congr (counts_notify b s)

/-! ### Commits and snapshots -/

theorem completeCommit (h : Ripe e s.counts) {named : List Nat} : Ripe e (completeCommit named s).counts := by
  unfold Machine.completeCommit
  split
  · exact (notify (by exact h.commit nofun)).congr (counts_markAllDisplays _)
  · exact h

theorem reportClose (h : Ripe e s.counts) {named : List Nat} {g : Nat} : Ripe e (reportClose named g s).counts := by
  obtain hr | ⟨d, hd, -, ⟨-, hr⟩ | ⟨-, hr⟩⟩ := reportClose_cases named g s
  · rwa [hr]
  all_goals
    have hcounted : Ripe e { s.counts with commit := .waiting { d with awaited := d.awaited - 1 } } :=
      { h with commitDrain := fun he _ heq => by cases heq; exact h.commitDrain he d hd }
  · rw [hr]
    exact hcounted
  · rw [hr]
    refine completeCommit ?_
    exact { h with commitDrain := fun he _ heq => by cases heq; exact h.commitDrain he d hd }

theorem closeSnapshot (h : Ripe e s.counts) {p : CounterPort} : Ripe e (closeSnapshot p s).counts := by
  unfold Machine.closeSnapshot closeSnapshotFor
  split
  · exact h
  · refine reportClose (h.congr ((counts_removePreset p _).trans ?_))
    exact counts_setPort rfl

theorem forcedCancel (h : Ripe e s.counts) {m : MsgCode} {p : CounterPort} : Ripe e (forcedCancel m p s).counts := by
  unfold Machine.forcedCancel
  refine (closeSnapshot ?_).congr (counts_toIdle ..)
  split
  · next d hd => exact { h with commitDrain := fun he _ heq => by cases heq; exact h.commitDrain he d hd }
  · exact h

theorem enterWaiting (h : Ripe e s.counts) : Ripe e (enterWaiting s).counts := by
  unfold Machine.enterWaiting
  dsimp only
  split
  · exact completeCommit (by exact h.commit fun d hd => by cases hd; exact nofun)
  · refine h.commit fun d hd => ?_
    cases hd
    obtain ⟨hdrain, -⟩ := h.config.commitDrain
    exact fun heq => absurd (hdrain.trans_eq heq) (by decide)

theorem activationTest (h : Ripe e s.counts) : Ripe e (activationTest s).counts := by
  unfold Machine.activationTest activateCommit
  split
  · split
    · exact h.enterWaiting
    · exact notify (by exact h.commit nofun)
  · exact h

theorem completeIfDrained (h : Ripe e s.counts) : Ripe e (completeIfDrained s).counts := by
  unfold Machine.completeIfDrained
  split
  · split
    · exact h.completeCommit
    · exact h
  · exact h

theorem commitDrainExpired (h : Ripe e s.counts) : Ripe e (commitDrainExpired s).counts := by
  unfold Machine.commitDrainExpired
  split
  · exact completeIfDrained (foldl (fun s p hs => forcedCancel hs) (by
      exact h.commit fun d hd => by cases hd; exact nofun))
  · exact h

/-! ### The day -/

theorem setTicket (h : Ripe e s.counts) {k : TicketNo} {r : TicketRec} (hr : ∀ p, r.state ≠ .called p 1) :
    Ripe e (setTicket k r s).counts := by
  refine h.tickets (v := s.tickets.recs.set k r) fun j p hj => ?_
  rw [Fin.getElem_fin, Vector.getElem_set] at hj
  split at hj
  · exact absurd hj (hr p)
  · exact hj

theorem freeTicket (h : Ripe e s.counts) {k : TicketNo} : Ripe e (freeTicket k s).counts := h.setTicket nofun

theorem freeOrder (h : Ripe e s.counts) {o : Order} : Ripe e (freeOrder o s).counts := by
  have hremoved := h.orders (l := s.orders.filter fun x => x.number ≠ o.number) fun x hx =>
    .inr ⟨x, List.mem_of_mem_filter hx, rfl, rfl⟩
  exact freeTicket (s := { s with orders := s.orders.filter fun x => x.number ≠ o.number }) hremoved

theorem endOrderByDay (h : Ripe e s.counts) {o : Order} : Ripe e (endOrderByDay s o).counts := by
  have hcounted : Ripe e (modRet (countGrand { ordersClosedByDay := 1 }) s).counts := h
  unfold Machine.endOrderByDay
  dsimp only
  split
  · exact hcounted.notify.freeOrder.congr (counts_setService ..)
  · exact hcounted.notify.freeOrder

theorem endServiceLine (h : Ripe e s.counts) : Ripe e (endServiceLine s).counts := by
  have hports : ∀ p : CounterPort, ((Machine.endServiceLine s).port p).supervision = (s.port p).supervision := by
    intro p
    simp only [Machine.endServiceLine, State.port, Fin.getElem_fin, Vector.getElem_ofFn]
    split <;> rfl
  have hcounts : (Machine.endServiceLine s).counts = { s.counts with
      tickets := s.tickets.recs.map fun r => if discardable r.state then TicketRec.fresh else r } :=
    counts_eq (s := { s with tickets := { s.tickets with
      recs := s.tickets.recs.map fun r => if discardable r.state then TicketRec.fresh else r } })
      rfl hports rfl rfl rfl rfl
  rw [hcounts]
  refine h.tickets fun k p hk => ?_
  rw [Fin.getElem_fin, Vector.getElem_map] at hk
  split at hk
  · cases hk
  · exact hk

theorem dayTest (h : Ripe e s.counts) : Ripe e (dayTest s).counts := by
  obtain ⟨-, ht⟩ | ⟨-, ht⟩ := dayTest_cases s <;> rw [ht]
  · have hended : Ripe e (endLiveOrders s).counts :=
      foldl (fun s o hs => endOrderByDay hs) (by exact h)
    have hline : Ripe e (Machine.endServiceLine (endLiveOrders s)).counts := hended.endServiceLine
    unfold completeDayClose openNewDay
    exact (notify (by exact hline.day (v := .trading) nofun)).congr (counts_markAllDisplays _)
  · exact h

theorem closeDrainExpired (h : Ripe e s.counts) : Ripe e (closeDrainExpired s).counts := by
  unfold Machine.closeDrainExpired
  exact dayTest (foldl (fun s p hs => forcedCancel hs) (by exact h.day nofun))

/-! ### Tickets, orders and stations -/

theorem skipTicket (h : Ripe e s.counts) {k : TicketNo} {p : CounterPort} : Ripe e (skipTicket k p s).counts := by
  have hservice : Ripe e (setService p .free s).counts := h.congr (counts_setService ..)
  unfold Machine.skipTicket
  dsimp only
  generalize setService p .free s = base at hservice ⊢
  refine setTicket (s := { (_ : State) with tickets := { (_ : State).tickets with skipped := _ } }) ?_ nofun
  split
  · split
    · exact hservice.freeTicket
    · exact hservice
  · exact hservice

theorem abandonOrder (h : Ripe e s.counts) {o : Order} : Ripe e (abandonOrder o s).counts :=
  notify (by exact h.freeOrder)

theorem markLineVoided (h : Ripe e s.counts) {n serial : Nat} :
    Ripe e (markLineVoided n serial false s).counts := by
  obtain hm | ⟨o, -, hm⟩ := markLineVoided_cases n serial false s <;> rw [hm]
  · exact h
  · refine h.orders fun x hx => .inr ?_
    obtain ⟨o, ho, rfl⟩ := List.mem_map.mp hx
    exact ⟨o, ho, by split <;> rfl, by split <;> rfl⟩

theorem voidUnprinted (h : Ripe e s.counts) {p : CounterPort} {k : SlotNo} : Ripe e (voidUnprinted p s k).counts := by
  unfold Machine.voidUnprinted
  split
  · exact h
  · split
    · exact h
    · split
      · exact h.notify
      · refine notify ?_
        split
        · split
          · exact markLineVoided (by exact h)
          · exact h
        · exact h

theorem callTicket (h : Ripe e s.counts) {k : TicketNo} {p : CounterPort} {n : Nat} {cause : CallCause} :
    Ripe e (callTicket k p n cause s).counts := by
  unfold Machine.callTicket
  have hcalled : Ripe e (Machine.setTicket k { s.ticket k with state := .called p s.ret.config.callTimeout, count := n }
      s).counts := by
    refine h.setTicket fun q hq => ?_
    obtain ⟨htimeout, -⟩ := h.config.callTimeout
    injection hq with _ htimer
    exact absurd (htimeout.trans_eq htimer) (by decide)
  refine notify ((hcalled.congr (counts_setService p .called _)).congr (counts_ports fun q => ?_))
  simp only [Fin.getElem_fin, Vector.getElem_ofFn]
  split <;> rfl

theorem returnTicket (h : Ripe e s.counts) {p : CounterPort} : Ripe e (returnTicket p s).counts := by
  unfold Machine.returnTicket
  split
  · exact h
  · split
    · exact callTicket (by exact h)
    · exact setTicket (by exact h) nofun

theorem offlineSlots (h : Ripe e s.counts) : Ripe e (offlineSlots p s).counts := by
  have hvoided : Ripe e ((s.port p).slots.post.foldl (Machine.voidUnprinted p) s).counts :=
    foldl (fun s k hs => voidUnprinted hs) h
  exact hvoided.congr (counts_setPort rfl)

theorem offlineStart (h : Ripe e s.counts) : Ripe e (offlineStart p s).counts := by
  have hcounted : Ripe e (offlineCounted p s).counts := by
    unfold offlineCounted
    dsimp only
    split <;> split <;> exact h
  unfold Machine.offlineStart
  split
  · exact hcounted.closeSnapshot
  · exact hcounted

theorem offlineOrder (h : Ripe e s.counts) : Ripe e (offlineOrder p s).counts := by
  refine h.orders fun x hx => ?_
  obtain ⟨o, ho, rfl⟩ := List.mem_map.mp hx
  split
  · exact .inl rfl
  · exact .inr ⟨o, ho, rfl, rfl⟩

theorem offlineScale (h : Ripe e s.counts) : Ripe e (offlineScale p s).counts := by
  rw [offlineScale_eq]
  have hslots : Ripe e (Machine.offlineSlots p (Machine.offlineStart p s)).counts := h.offlineStart.offlineSlots
  have hleft : Ripe e (Machine.leaveCalling p (Machine.offlineSlots p (Machine.offlineStart p s))).counts :=
    hslots.congr (counts_leaveCalling ..)
  have hreturned : Ripe e (Machine.returnTicket p (Machine.leaveCalling p (Machine.offlineSlots p
      (Machine.offlineStart p s)))).counts := hleft.returnTicket
  have hcomposer : Ripe e (offlineComposer p (Machine.offlineOrder p (Machine.returnTicket p (Machine.leaveCalling p
      (Machine.offlineSlots p (Machine.offlineStart p s)))))).counts :=
    hreturned.offlineOrder.congr (counts_offlineComposer p _)
  exact hcomposer.closeSnapshot.congr (counts_offlineContext p _)

theorem goOffline (h : Ripe e s.counts) {cause : StationCause} : Ripe e (goOffline p cause s).counts := by
  have hlink : Ripe e (offlineLink p s).counts := h.congr (counts_setPort rfl)
  unfold Machine.goOffline
  dsimp only
  split
  · exact hlink.offlineScale.notify
  · exact hlink.notify

theorem expire (h : Ripe e s.counts) {p : CounterPort} :
    Ripe e (modPort p (fun c => { c with supervision := 0 }) s).counts := by
  refine { h with supervision := fun q he => ?_ }
  show ((modPort p _ s).port q).supervision ≠ 1
  by_cases hq : q = p
  · subst hq
    rw [modPort_port_self]
    exact nofun
  · rw [modPort_port_ne _ _ hq]
    exact h.supervision q he

theorem takeTickEvent (h : Ripe e s.counts) {e' : TickEvent} : Ripe e (takeTickEvent s e').counts := by
  have hrun : Ripe e (runTickEvent s e').counts := by
    cases e' with
    | supervision p =>
      have hzero : Ripe e (modPort p (fun c => { c with supervision := 0 }) s).counts := h.expire
      exact hzero.goOffline.dayTest
    | call k =>
      unfold runTickEvent
      dsimp only
      split
      · exact h.skipTicket
      · exact h
    | abandon n =>
      unfold runTickEvent
      dsimp only
      split
      · exact h.abandonOrder
      · exact h
    | activation => exact h.activationTest
    | commitDrain => exact h.commitDrainExpired
    | closeDrain => exact h.closeDrainExpired
  unfold Machine.takeTickEvent
  split
  · exact hrun.congr (counts_flush _)
  · exact h

end Ripe

/-! ### Events as commands -/

/-- The command of an event's row. -/
def TickEvent.command : TickEvent → Instr
  | .supervision p => .supervisionExpiry p
  | .call k => .callTimeout k
  | .abandon n => .orderAbandoned n
  | .activation => .commitActivation
  | .commitDrain => .commitDrainExpiry
  | .closeDrain => .closeDrainExpiry

theorem ran_next {i : Instr} (h : exec i s = .next t) : ran s i = t := by rw [ran, h]

/-- An event that is due as its counts tell runs as the command of its row, and else neither does anything. -/
theorem takeTickEvent_eq {e : TickEvent} (hq : Quiet s) (h : Ripe e s.counts) : takeTickEvent s e = ran s e.command := by
  symm
  cases e with
  | supervision p =>
    have hne : (s.port p).supervision ≠ 1 := h.supervision p rfl
    by_cases hdue : (s.port p).online = true ∧ (s.port p).supervision = 0
    · rw [takeTickEvent, if_pos (by simpa [tickDue] using hdue)]
      exact ran_next (if_pos ⟨hdue.1, by omega⟩)
    · rw [takeTickEvent, if_neg (by simpa [tickDue] using hdue)]
      exact ran_next (if_neg fun ⟨honline, hcount⟩ => hdue ⟨honline, by omega⟩)
  | call k =>
    have hrow : execCallTimeout k s = .next (takeTickEvent s (.call k)) := by
      have hflush (p : CounterPort) : flush (skipTicket k p s) = skipTicket k p s := flush_of_quiet (skipTicket_quiet hq k p)
      rw [execCallTimeout, takeTickEvent, tickDue, runTickEvent]
      cases hstate : (s.ticket k).state with
      | called p n =>
        have hne : n ≠ 1 := fun hn => h.call k rfl p (hn ▸ hstate)
        cases n with
        | zero => exact congrArg Host.Outcome.next (hflush p).symm
        | succ n => exact if_neg fun hle => hne (Nat.le_antisymm hle (Nat.le_add_left 1 n))
      | _ => rfl
    exact ran_next hrow
  | abandon n =>
    have hrow : execOrderAbandoned n s = .next (takeTickEvent s (.abandon n)) := by
      rw [execOrderAbandoned, takeTickEvent, tickDue, runTickEvent]
      cases horder : orderOf s.orders n with
      | none => rfl
      | some o =>
        obtain ⟨hmem, hnumber⟩ := orderOf_some horder
        have hne : o.idle + 1 ≠ parkSeconds s := h.abandon n rfl o hmem hnumber
        have hquiet : Quiet (abandonOrder o s) := hq.congr fun p => by
          rw [State.port_of_ports _ _ p (abandonOrder_ports o s)]
        simp only [Option.any_some, parkedOut, Bool.and_eq_true, decide_eq_true_iff, flush_of_quiet hquiet]
        by_cases hdue : o.state = .parked ∧ parkSeconds s ≤ o.idle
        · rw [if_pos hdue, if_pos ⟨hdue.1, Nat.le_succ_of_le hdue.2⟩]
        · rw [if_neg hdue, if_neg fun ⟨hparked, hidle⟩ => hdue ⟨hparked, by omega⟩]
    exact ran_next hrow
  | activation =>
    have hrow : execCommitActivation s = .next (takeTickEvent s .activation) := by
      rw [execCommitActivation, takeTickEvent, tickDue, runTickEvent, activationTest]
      cases atMinute s <;> cases activationDue s <;> simp [flush_of_quiet hq]
    exact ran_next hrow
  | commitDrain =>
    have hrow : execCommitDrainExpiry s = .next (takeTickEvent s .commitDrain) := by
      have hdue : tickDue s .commitDrain = s.commit.lastSecond := by
        rw [tickDue]
        cases hcommit : s.commit with
        | waiting d =>
          have hne : d.timer ≠ 1 := h.commitDrain rfl d hcommit
          exact congrArg (!d.expired && ·) (decide_eq_decide.mpr (by omega))
        | _ => rfl
      rw [execCommitDrainExpiry, takeTickEvent, hdue, runTickEvent]
      split <;> rfl
    exact ran_next hrow
  | closeDrain =>
    have hrow : execCloseDrainExpiry s = .next (takeTickEvent s .closeDrain) := by
      have hdue : tickDue s .closeDrain = s.dayState.lastSecond := by
        rw [tickDue]
        cases hday : s.dayState with
        | closing n b =>
          have hne : n ≠ 1 := fun hn => h.closeDrain rfl b (hn ▸ hday)
          exact congrArg (!b && ·) (decide_eq_decide.mpr (by omega))
        | trading => rfl
      rw [execCloseDrainExpiry, takeTickEvent, hdue, runTickEvent]
      split <;> rfl
    exact ran_next hrow

theorem takeTickEvents_eq {l : List TickEvent} (hq : Quiet s) (h : ∀ e ∈ l, Ripe e s.counts) :
    l.foldl takeTickEvent s = (l.map TickEvent.command).foldl ran s := by
  induction l generalizing s with
  | nil => rfl
  | cons e l ih =>
    rw [List.map_cons, List.foldl_cons, List.foldl_cons,
      ← takeTickEvent_eq hq (h e List.mem_cons_self)]
    exact ih (foldl_takeTickEvent_quiet hq [e]) fun e' he' => (h e' (List.mem_cons_of_mem _ he')).takeTickEvent

/-! ### The tick -/

/-- The step of a tick at clock `c`, but for the tickets and the two drains. -/
def stepped (s : State) (c : Clock) : State := { s with
  clock := c
  ports := s.ports.map fun c => if c.online then { c with supervision := c.supervision - 1 } else c
  orders := s.orders.map fun o => { o with idle := satUp Config.maxAge o.idle 1 }
  free := s.free + 1 }

theorem counts_congr (u : State) {a a' : Vector TicketRec 100} {c c' : CommitState} {d d' : DayState} (ha : a = a')
    (hc : c = c') (hd : d = d') :
    ({ u with tickets := { u.tickets with recs := a }, commit := c, dayState := d } : State) =
      { u with tickets := { u.tickets with recs := a' }, commit := c', dayState := d' } := by
  rw [ha, hc, hd]

/-- The state of a tick once the clock and every count have taken their step. -/
theorem ticked_eq (s : State) : ticked s = { tickCounts (tickClock s) with free := s.free + 1 } := by
  generalize hgoal : ({ tickCounts (tickClock s) with free := s.free + 1 } : State) = t
  unfold ticked
  extract_lets ends src clock src1 counted
  have hends : ends = s.clock.tick.2 := by
    unfold ends Clock.tick
    split_ifs <;> simp_all [lastDate]
  have hclock : clock = s.clock.tick.1 := by
    unfold clock
    rw [hends]
    unfold Clock.tick
    split_ifs <;> simp_all [lastDate, src]
  have hcounted : counted = { tickCounts { s with clock := clock } with free := s.free + 1 } := by
    refine counts_congr (stepped s clock) (congrArg (s.tickets.recs.map ·) (funext fun r => ?_)) ?_ ?_
    · rw [TicketRec.tick]
      cases r.state <;> rfl
    · cases s.commit <;> rfl
    · rcases s.dayState with _ | ⟨n, _ | _⟩ <;> rfl
  clear_value counted ends clock
  subst hcounted hends hclock
  rw [← hgoal, tickClock]
  dsimp only
  have hdate : s.clock.tick.2 = true → s.clock.tick.1.date = s.clock.date := by
    unfold Clock.tick
    split_ifs
    exacts [nofun, nofun, nofun, fun _ => rfl]
  split
  · next hlost =>
    rw [notify_eq, notify_eq, hdate hlost]
    rfl
  · rfl

theorem tickClock_eq (s : State) : ∃ q, tickClock s = { s with clock := s.clock.tick.1, notices := q } := by
  rw [tickClock]
  split
  · rw [notify_eq]
    exact ⟨_, rfl⟩
  · exact ⟨_, rfl⟩

theorem clockTick_eq (s : State) : clockTick s =
    (sortBy (fun e => Config.rank s.free e.code) (dueEvents (ticked s))).foldl takeTickEvent (ticked s) := by
  obtain ⟨q, hq⟩ := tickClock_eq s
  rw [ticked_eq, clockTick, hq]
  rfl

theorem ticked_port (s : State) (p : CounterPort) : (ticked s).port p = if (s.port p).online then
    { s.port p with supervision := (s.port p).supervision - 1 } else s.port p := by
  rw [ticked_eq, ← tickClock_port s p]
  exact tickCounts_port ..

theorem ticked_ticket (s : State) (k : TicketNo) : (ticked s).ticket k = (s.ticket k).tick := by
  obtain ⟨q, hq⟩ := tickClock_eq s
  rw [ticked_eq, hq]
  exact Vector.getElem_map ..

theorem ticked_quiet (h : Quiet s) : Quiet (ticked s) := by
  refine h.congr fun p => ?_
  rw [ticked_port]
  split <;> rfl

theorem ticked_numbers (s : State) : (ticked s).orders.map (·.number) = s.orders.map (·.number) := by
  obtain ⟨q, hq⟩ := tickClock_eq s
  rw [ticked_eq, hq]
  exact List.map_map

theorem ticked_config (s : State) : (ticked s).ret.config = s.ret.config := by
  obtain ⟨q, hq⟩ := tickClock_eq s
  rw [ticked_eq, hq]
  rfl

theorem orderOf_of_mem {os : List Order} (hnodup : (os.map (·.number)).Nodup) (ho : o ∈ os) :
    orderOf os o.number = some o := by
  obtain ⟨o', ho'⟩ := Option.isSome_iff_exists.mp ((orderOf_isSome os o.number).mpr (List.mem_map_of_mem ho))
  obtain ⟨hmem, hnumber⟩ := orderOf_some ho'
  rw [ho', List.inj_on_of_nodup_map hnodup hmem ho hnumber]

/-- What is due has nothing left to count. -/
theorem ripe_of_due (hconfig : ConfigSound s.ret.config) (hnodup : (s.orders.map (·.number)).Nodup) {e : TickEvent}
    (he : tickDue s e = true) : Ripe e s.counts := by
  refine ⟨hconfig, fun p h => ?supervision, fun k h p hk => ?call, fun n h o ho hn => ?abandon, fun h d hd => ?commitDrain,
    fun h b hb => ?closeDrain⟩ <;> subst h
  case supervision =>
    have hzero : (s.port p).online = true ∧ (s.port p).supervision = 0 := by simpa [tickDue] using he
    exact fun hone => absurd (hzero.2.symm.trans hone) (by decide)
  case call =>
    have hstate : (s.ticket k).state = .called p 1 := hk
    rw [tickDue, hstate] at he
    cases he
  case abandon =>
    rw [tickDue, ← hn, orderOf_of_mem hnodup ho, Option.any_some] at he
    obtain ⟨-, hidle⟩ : o.state = .parked ∧ parkSeconds s ≤ o.idle := by simpa [parkedOut] using he
    have hpark : s.counts.config.parkTimeout * 60 ≤ o.idle := hidle
    omega
  case commitDrain =>
    have hcommit : s.commit = .waiting d := hd
    rw [tickDue, hcommit] at he
    obtain ⟨-, htimer⟩ : d.expired = false ∧ d.timer = 0 := by simpa using he
    exact fun hone => absurd (htimer.symm.trans hone) (by decide)
  case closeDrain =>
    have hday : s.dayState = .closing 1 b := hb
    rw [tickDue, hday] at he
    simp at he

theorem tickDue_commitDrain {d : CommitDrain} (h : s.commit = .waiting d) :
    tickDue s .commitDrain = true ↔ d.expired = false ∧ d.timer = 0 := by
  rw [tickDue, h]
  simp

theorem tickDue_commitDrain_other (h : ∀ d, s.commit ≠ .waiting d) : tickDue s .commitDrain = false := by
  rw [tickDue]
  cases hcommit : s.commit with
  | waiting d => exact absurd hcommit (h d)
  | _ => rfl

theorem tickDue_activation {d : Date} {m : Nat} (h : s.commit = .scheduled d m) :
    tickDue s .activation = true ↔ s.clock.second % 60 = 0 ∧ s.clock.valid = true ∧
      (dateBefore d s.clock.date = true ∨ s.clock.date = d ∧ m ≤ s.clock.second / 60) := by
  rw [tickDue, activationDue, h]
  simp only [atMinute, clockReached, Bool.and_eq_true, Bool.or_eq_true, decide_eq_true_eq]
  rfl

theorem tickDue_activation_other (h : ∀ d m, s.commit ≠ .scheduled d m) : tickDue s .activation = false := by
  rw [tickDue, activationDue]
  cases hcommit : s.commit with
  | scheduled d m => exact absurd hcommit (h d m)
  | _ => exact Bool.and_false _

/-- What is due is what the commands of the rows would bring. -/
theorem dueEvents_commands (hnodup : (s.orders.map (·.number)).Nodup) :
    (dueEvents s).map TickEvent.command = dueCommands s := by
  have hsupervision : (((List.finRange 14).map TickEvent.supervision).filter (tickDue s)).map TickEvent.command =
      ((List.finRange 14).filter fun p => (s.port p).online && decide ((s.port p).supervision = 0)).map
        .supervisionExpiry := by
    rw [List.filter_map, List.map_map]
    rfl
  have hcall : (((List.finRange 100).map TickEvent.call).filter (tickDue s)).map TickEvent.command =
      ((List.finRange 100).filter fun k => (timedOut (s.ticket k).state).isSome).map .callTimeout := by
    rw [List.filter_map, List.map_map]
    rfl
  have habandon : ((s.orders.map fun o => TickEvent.abandon o.number).filter (tickDue s)).map TickEvent.command =
      (s.orders.filter (parkedOut s)).map fun o => .orderAbandoned o.number := by
    rw [List.filter_map, List.map_map]
    refine congrArg (List.map _) (List.filter_congr fun o ho => ?_)
    rw [Function.comp_apply, tickDue, orderOf_of_mem hnodup ho, Option.any_some]
  rw [dueEvents, tickEvents]
  simp only [List.filter_append, List.map_append, hsupervision, hcall, habandon]
  unfold dueCommands
  refine congrArg₂ (· ++ ·) (congrArg₂ (· ++ ·) ((congrArg₂ (· ++ ·) rfl ?_).trans (List.append_assoc ..).symm) ?_) rfl
  · show List.map _ (List.filter _ ([TickEvent.activation, .commitDrain] ++ [.closeDrain])) = _
    rw [List.filter_append, List.map_append]
    simp only [List.filter_cons, List.filter_nil]
    refine congrArg₂ (· ++ ·) ?_ ?_
    · cases hcommit : s.commit with
      | editing => rw [tickDue_activation_other (by rw [hcommit]; nofun), tickDue_commitDrain_other (by rw [hcommit]; nofun)]; rfl
      | waiting d =>
        rw [tickDue_activation_other (by rw [hcommit]; nofun), if_neg Bool.false_ne_true]
        simp only [tickDue_commitDrain hcommit]
        split <;> rfl
      | scheduled d m =>
        rw [tickDue_commitDrain_other (by rw [hcommit]; nofun)]
        simp only [tickDue_activation hcommit]
        split <;> rfl
    · rw [tickDue]
      rcases s.dayState with _ | ⟨_ | n, _ | _⟩ <;> rfl
  · refine congrArg (List.map _) (List.filter_congr fun k _ => ?_)
    rcases (s.ticket k).state with _ | _ | ⟨p, _ | n⟩ | _ | _ <;> rfl

section
variable (hsupervision : ∀ p : CounterPort, (s.port p).online = true → 2 ≤ (s.port p).supervision)
  (hcall : ∀ (k : TicketNo) (p : CounterPort) (n : Nat), (s.ticket k).state = .called p n → 2 ≤ n)
  (hpark : ∀ o ∈ s.orders, o.state = .parked → o.idle + 1 < s.ret.config.parkTimeout * 60)
  (hcommit : ∀ d m, s.commit ≠ .scheduled d m)
  (hdrain : ∀ d : CommitDrain, s.commit = .waiting d → d.expired = false → 2 ≤ d.timer)
  (hclose : ∀ n, s.dayState = .closing n false → 2 ≤ n)
include hsupervision hcall hpark hcommit hdrain hclose

/-- Nothing falls due where every count has a step more to go. -/
theorem not_due (e : TickEvent) : tickDue (ticked s) e ≠ true := by
  intro hdue
  obtain ⟨q, hq⟩ := tickClock_eq s
  cases e with
  | supervision p =>
    have hzero : ((ticked s).port p).online = true ∧ ((ticked s).port p).supervision = 0 := by simpa [tickDue] using hdue
    rw [ticked_port] at hzero
    split at hzero
    · next honline =>
      have := hsupervision p honline
      have hcount : (s.port p).supervision - 1 = 0 := hzero.2
      omega
    · next hoff => exact hoff hzero.1
  | call k =>
    rw [tickDue, ticked_ticket, TicketRec.tick] at hdue
    cases hstate : (s.ticket k).state with
    | called p n =>
      have := hcall k p n hstate
      obtain ⟨m, rfl⟩ : ∃ m, n = m + 2 := ⟨n - 2, by omega⟩
      rw [hstate] at hdue
      cases hdue
    | _ => simp [hstate, timedOut] at hdue
  | abandon n =>
    have horders : (ticked s).orders = s.orders.map fun o => { o with idle := satUp Config.maxAge o.idle 1 } := by
      rw [ticked_eq, hq]
      rfl
    rw [tickDue] at hdue
    cases ho : orderOf (ticked s).orders n with
    | none =>
      rw [ho] at hdue
      cases hdue
    | some o =>
      obtain ⟨hmem, -⟩ := orderOf_some ho
      rw [horders] at hmem
      obtain ⟨o', ho', rfl⟩ := List.mem_map.mp hmem
      rw [ho, Option.any_some] at hdue
      obtain ⟨hparked, hidle⟩ : o'.state = .parked ∧ parkSeconds (ticked s) ≤ min Config.maxAge (o'.idle + 1) := by
        simpa [parkedOut, satUp] using hdue
      rw [parkSeconds, ticked_config] at hidle
      have := hpark o' ho' hparked
      omega
  | activation =>
    rw [tickDue_activation_other fun d m => ?_] at hdue
    · cases hdue
    · rw [ticked_eq, hq]
      show s.commit.tick ≠ _
      cases h : s.commit with
      | scheduled d m => exact absurd h (hcommit d m)
      | _ => exact nofun
  | commitDrain =>
    have hticked : (ticked s).commit = s.commit.tick := by
      rw [ticked_eq, hq]
      rfl
    cases h : s.commit with
    | waiting d =>
      rw [h] at hticked
      obtain ⟨hexpired, htimer⟩ := (tickDue_commitDrain hticked).mp hdue
      cases hd : d.expired with
      | true =>
        rw [hd, if_pos rfl] at hexpired
        exact absurd (hd.symm.trans hexpired) (by decide)
      | false =>
        have := hdrain d h hd
        rw [hd, if_neg Bool.false_ne_true] at htimer
        have hcount : d.timer - 1 = 0 := htimer
        omega
    | _ =>
      rw [h] at hticked
      rw [tickDue_commitDrain_other (by rw [hticked]; nofun)] at hdue
      cases hdue
  | closeDrain =>
    have hticked : (ticked s).dayState = s.dayState.tick := by
      rw [ticked_eq, hq]
      rfl
    rw [tickDue, hticked] at hdue
    rcases h : s.dayState with _ | ⟨n, _ | _⟩ <;> rw [h] at hdue
    · cases hdue
    · have := hclose n h
      obtain ⟨m, rfl⟩ : ∃ m, n = m + 2 := ⟨n - 2, by omega⟩
      cases hdue
    · cases hdue

end

/-- Settles O32. -/
theorem tickTakesOneStepOfEveryCount : Obligations.TickTakesOneStepOfEveryCount := by
  refine ⟨fun s hq hconfig hnodup => ?_, fun s hq hbelow hsupervision hcall hpark hcommit hdrain hclose => ?_⟩
  · rw [← ticked_config] at hconfig
    rw [← ticked_numbers] at hnodup
    have hperm := sortBy_perm (fun e => Config.rank s.free e.code) (dueEvents (ticked s))
    refine ⟨(sortBy (fun e => Config.rank s.free e.code) (dueEvents (ticked s))).map TickEvent.command, ?_, ?_⟩
    · rw [← dueEvents_commands hnodup]
      exact hperm.map _
    · refine congrArg Host.Outcome.next ((clockTick_eq s).trans (takeTickEvents_eq (ticked_quiet hq) fun e he => ?_))
      exact ripe_of_due hconfig hnodup (List.mem_filter.mp (hperm.mem_iff.mp he)).2
  · have hnone : dueEvents (ticked s) = [] := List.filter_eq_nil_iff.mpr fun e _ hdue =>
      not_due hsupervision hcall hpark hcommit hdrain hclose e hdue
    have htick : clockTick s = ticked s := by
      rw [clockTick_eq, hnone]
      rfl
    refine (congrArg Host.Outcome.next htick).trans (congrArg Host.Outcome.next ?_)
    simp only [ticked, hbelow, Nat.not_le.mpr hbelow, decide_false, Bool.false_and, Bool.false_eq_true, if_false,
      if_true] <;> rfl

end Sys2Proof.Machine
end

section
/-! PROOFS. The reading requests answer whole and change nothing else (R21, R67, R162, R170, R179, R191). -/

namespace Sys2Proof.Machine

variable {s : State} {tag n : Nat}

/-! ### Numbers -/

theorem numberIn_iff (lo hi n : Nat) : numberIn lo hi n = true ↔ lo ≤ n ∧ n ≤ hi := by
  simp [numberIn]

theorem numberIn_val {m : Nat} (i : Fin m) : numberIn 1 m (i.val + 1) = true :=
  (numberIn_iff ..).mpr ⟨Nat.le_add_left .., i.isLt⟩

theorem numberIn_out {m : Nat} (h : n = 0 ∨ m < n) : numberIn 1 m n = false := by
  rw [← Bool.not_eq_true, numberIn_iff]
  omega

theorem portOfNumber_out (h : n = 0 ∨ 14 < n) : portOfNumber n = none := by
  unfold portOfNumber
  split
  · exact if_neg (by omega)
  · rfl

/-! ### Groups and pages -/

/-- The entries of a vector from one on. -/
theorem groupsFrom_val {α β : Type} {m : Nat} (v : Vector α m) (i : Fin m) (f : Nat → α → β) :
    groupsFrom v (i.val + 1) f = ((List.finRange m).drop i.val).map fun j => f (j.val + 1) v[j] := by
  have hbefore : ((List.finRange m).take i.val).filter (fun j => decide (i.val + 1 ≤ j.val + 1)) = [] := by
    refine List.filter_eq_nil_iff.mpr fun j hj => ?_
    obtain ⟨k, hk, rfl⟩ := List.mem_take_iff_getElem.mp hj
    rw [List.getElem_finRange, decide_eq_true_iff]
    have hlt : k < i.val := (lt_min_iff.mp hk).1
    exact fun hle => absurd (Nat.le_of_succ_le_succ hle) (Nat.not_le.mpr hlt)
  have hafter : ((List.finRange m).drop i.val).filter (fun j => decide (i.val + 1 ≤ j.val + 1)) =
      (List.finRange m).drop i.val := by
    refine List.filter_eq_self.mpr fun j hj => ?_
    obtain ⟨k, hk, rfl⟩ := List.mem_drop_iff_getElem.mp hj
    rw [List.getElem_finRange, decide_eq_true_iff]
    exact Nat.succ_le_succ (Nat.le_add_right ..)
  rw [groupsFrom]
  conv_lhs => rw [← List.take_append_drop i.val (List.finRange m)]
  rw [List.filter_append, hbefore, hafter, List.nil_append]

theorem stationEntries_number (t : Totals) (p : CounterPort) : stationEntries t p.number = some (stationGroups t p) :=
  (if_pos (numberIn_val p)).trans (congrArg some (groupsFrom_val ..))

theorem operatorEntries_number (t : Totals) (k : OperatorNo) : operatorEntries t k.number = some (operatorGroups t k) :=
  (if_pos (numberIn_val k)).trans (congrArg some (groupsFrom_val ..))

theorem departmentEntries_number (t : Totals) (k : Fin 32) :
    departmentEntries t (k.val + 1) = some (departmentGroups t k) :=
  (if_pos (numberIn_val k)).trans (congrArg some (groupsFrom_val ..))

theorem stationEntries_out (t : Totals) (h : n = 0 ∨ 14 < n) : stationEntries t n = none :=
  if_neg (by rw [numberIn_out h]; nofun)

theorem operatorEntries_out (t : Totals) (h : n = 0 ∨ 32 < n) : operatorEntries t n = none :=
  if_neg (by rw [numberIn_out h]; nofun)

theorem departmentEntries_out (t : Totals) (h : n = 0 ∨ 32 < n) : departmentEntries t n = none :=
  if_neg (by rw [numberIn_out h]; nofun)

/-- A page that holds all there is. -/
theorem itemPage_whole {items : List ItemRecord} {first last : Nat}
    (h : (items.filter fun r => first ≤ r.item.plu && r.item.plu ≤ last).length ≤ 32) :
    itemPage items first last = (items.filter fun r => first ≤ r.item.plu && r.item.plu ≤ last, none) := by
  unfold itemPage
  dsimp only
  exact Prod.ext (List.take_of_length_le h) (if_pos h)

/-- A page that leaves some, with the number to go on from. -/
theorem itemPage_more {items : List ItemRecord} {first last : Nat} {r : ItemRecord}
    (h : 32 < (items.filter fun r => first ≤ r.item.plu && r.item.plu ≤ last).length)
    (hr : (items.filter fun r => first ≤ r.item.plu && r.item.plu ≤ last)[31]? = some r) :
    itemPage items first last =
      ((items.filter fun r => first ≤ r.item.plu && r.item.plu ≤ last).take 32, some (r.item.plu + 1)) := by
  have hlast : ((items.filter fun r => first ≤ r.item.plu && r.item.plu ≤ last).take 32).getLast? = some r := by
    rw [List.getLast?_eq_getElem?, List.length_take, min_eq_left h.le, List.getElem?_take]
    exact hr
  unfold itemPage
  dsimp only
  exact Prod.ext rfl ((if_neg (Nat.not_le.mpr h)).trans (congrArg (Option.map fun x => x.item.plu + 1) hlast))

theorem itemEntries_page {items page : List ItemRecord} {more : Option Nat} (hlo : 1 ≤ n) (hhi : n ≤ 99999)
    (hpage : itemPage items n 99999 = (page, more)) : itemEntries items n =
      some (page.map fun r => .item r.item.plu r.status r.item.department r.item.mode r.totals, more) := by
  have hpage' : itemPage items n Config.maxPlu = (page, more) := hpage
  rw [itemEntries, if_pos ((pluInRange_iff n).mpr ⟨hlo, hhi⟩), hpage']

theorem orderNumber_in (hlo : 1 ≤ n) (hhi : n ≤ 9999) : ¬ (n < 1 ∨ Config.maxOrderNumber < n) := by
  have : Config.maxOrderNumber = 9999 := rfl
  omega

/-! ### The requests -/

theorem calReport_online {p : CounterPort} (honline : (s.port p).online = true) (hkind : (s.port p).kind = some .scale) :
    calReport p s = .calibration s.ret.cal[p] (s.port p).weigh.state (windowLength s.ret.cal[p])
      (s.port p).weigh.window.length (s.port p).weigh.window.sum (s.port p).weigh.zo (s.port p).weigh.zi := by
  rw [← windowSum_eq]
  exact if_pos ⟨honline, hkind⟩

theorem calReport_other {p : CounterPort} (h : (s.port p).online = true → (s.port p).kind ≠ some .scale) :
    calReport p s = .calibration s.ret.cal[p] .noData (windowLength s.ret.cal[p]) 0 0 0 0 :=
  if_neg fun ⟨honline, hkind⟩ => h honline hkind

section
variable (h : UplinkOpen s)
include h

theorem exec_calRead_answers {p : CounterPort} {data : ReplyData} (hdata : calReport p s = data) :
    exec (.calRead tag p.number) s = .next (replied tag .ok data s) := by
  refine exec_refused h rfl ?_
  rw [calReadOp, portOfNumber_number]
  exact congrArg (fun d => reply tag .ok d (uplinkRaised s)) hdata

theorem exec_pluRead {first last : Nat} (hfirst : 1 ≤ first) (hle : first ≤ last) (hlast : last ≤ 99999) :
    exec (.pluRead tag first last) s = .next (replied tag .ok
      (.items s.ret.generation (itemPage s.ret.items first last).1 (itemPage s.ret.items first last).2) s) := by
  refine exec_refused h rfl (if_neg ?_)
  rw [(pluInRange_iff first).mpr ⟨hfirst, hle.trans hlast⟩, (pluInRange_iff last).mpr ⟨hfirst.trans hle, hlast⟩]
  simpa using hle

theorem exec_totalsRead {part : TotalsPart} {l : List TotalsEntry} {more : Option Nat}
    (hpart : totalsPart s (some part) n = some (l, more)) :
    exec (.totalsRead tag (some part) n) s = .next (replied tag .ok (.totals part (totalsHeader s) l more) s) := by
  refine exec_refused h rfl ?_
  have hraised : totalsPart (uplinkRaised s) (some part) n = some (l, more) := hpart
  unfold totalsReadOp
  rw [hraised]
  rfl

theorem exec_totalsRead_refused {part : Option TotalsPart} (hpart : totalsPart s part n = none) :
    exec (.totalsRead tag part n) s = .next (replied tag .badRecord .none s) := by
  refine exec_refused h rfl ?_
  have hraised : totalsPart (uplinkRaised s) part n = none := hpart
  unfold totalsReadOp
  rw [hraised]
  cases part <;> rfl

theorem exec_dayRecordRead {r : DayRecord} (hr : s.ret.day.record = some r) {part : RecordPart} {l : List TotalsEntry}
    {more : Bool} (hpart : recordPart r (some part) n = some (l, more)) :
    exec (.dayRecordRead tag (some part) n) s = .next (replied tag .ok (.dayRecord part r.header l more) s) := by
  refine exec_refused h rfl ?_
  have hraised : (uplinkRaised s).ret.day.record = some r := hr
  simp only [dayRecordReadOp, hraised, hpart]

theorem exec_dayRecordRead_refused {r : DayRecord} (hr : s.ret.day.record = some r) {part : Option RecordPart}
    (hpart : recordPart r part n = none) :
    exec (.dayRecordRead tag part n) s = .next (replied tag .badRecord .none s) := by
  refine exec_refused h rfl ?_
  have hraised : (uplinkRaised s).ret.day.record = some r := hr
  unfold dayRecordReadOp
  rw [hraised]
  dsimp only
  rw [hpart]
  cases part <;> rfl

theorem exec_dayRecordRead_none (hr : s.ret.day.record = none) (part : Option RecordPart) (n : Nat) :
    exec (.dayRecordRead tag part n) s = .next (replied tag .noRecord .none s) := by
  refine exec_refused h rfl ?_
  have hraised : (uplinkRaised s).ret.day.record = none := hr
  unfold dayRecordReadOp
  rw [hraised]
  rfl

end

/-- Settles O12. -/
theorem readingRequestsAnswer : Obligations.ReadingRequestsAnswer := by
  refine ⟨fun s tag h => ⟨?status, fun p => ⟨fun honline hkind => ?cal, fun hoff => ?noCal⟩, fun n hn => ?calRefused⟩,
    fun s tag h => ⟨fun first last hfirst hle hlast => ⟨fun hfits => ?plu, fun r hmore hr => ?pluMore⟩,
      fun first last hout => ?pluRefused, ?orders, fun n => ⟨fun o hlo hhi ho => ?order, fun hlo hhi hnone => ?noOrder,
        fun hout => ?orderRefused⟩⟩, fun s tag h => ?totals, fun s tag h => ⟨fun r hr => ?record, fun hnone => ?noRecord⟩⟩
  case status => exact exec_replied h rfl h.1 rfl
  case cal => exact exec_calRead_answers h (calReport_online honline hkind)
  case noCal =>
    refine exec_calRead_answers h (calReport_other fun honline hkind => ?_)
    obtain hfalse | hother := hoff
    · exact absurd (honline.symm.trans hfalse) (by decide)
    · exact hother hkind
  case calRefused =>
    refine exec_refused h rfl ?_
    rw [calReadOp, portOfNumber_out hn]
    rfl
  case plu =>
    rw [exec_pluRead h hfirst hle hlast, itemPage_whole hfits]
  case pluMore =>
    rw [exec_pluRead h hfirst hle hlast, itemPage_more hmore hr]
  case pluRefused =>
    refine exec_refused h rfl (if_pos ?_)
    have hbad : ¬ (pluInRange first = true ∧ pluInRange last = true ∧ first ≤ last) := by
      rw [pluInRange_iff, pluInRange_iff]
      omega
    cases hfirst : pluInRange first with
    | false => rfl
    | true =>
      cases hlast : pluInRange last with
      | false => rfl
      | true => exact decide_eq_true (Nat.lt_of_not_le fun hle => hbad ⟨hfirst, hlast, hle⟩)
  case orders => exact exec_refused h rfl rfl
  case order =>
    refine exec_refused h rfl ?_
    have hraised : orderOf (uplinkRaised s).orders n = some o := ho
    simp only [orderReadOp, if_neg (orderNumber_in hlo hhi), hraised]
  case noOrder =>
    refine exec_refused h rfl ?_
    have hraised : orderOf (uplinkRaised s).orders n = none :=
      List.find?_eq_none.mpr fun o ho => by simpa using hnone o ho
    rw [orderReadOp, if_neg (orderNumber_in hlo hhi), hraised]
    rfl
  case orderRefused => exact exec_refused h rfl (if_pos (hout.imp_left fun hzero => hzero ▸ Nat.one_pos))
  case totals =>
    refine ⟨fun n => exec_totalsRead h rfl, fun p => exec_totalsRead h ?_, fun k => exec_totalsRead h ?_,
      fun k => exec_totalsRead h ?_, fun first hlo hhi => ⟨fun hfits => exec_totalsRead h ?_,
        fun r hmore hr => exec_totalsRead h ?_⟩,
      fun n => ⟨exec_totalsRead_refused h rfl, fun hout => exec_totalsRead_refused h ?_,
        fun hout => ⟨exec_totalsRead_refused h ?_, exec_totalsRead_refused h ?_⟩,
        fun hout => exec_totalsRead_refused h ?_⟩⟩
    · exact congrArg (Option.map (·, none)) (stationEntries_number s.ret.totals p)
    · exact congrArg (Option.map (·, none)) (operatorEntries_number s.ret.totals k)
    · exact congrArg (Option.map (·, none)) (departmentEntries_number s.ret.totals k)
    · exact itemEntries_page hlo hhi (itemPage_whole hfits)
    · exact itemEntries_page hlo hhi (itemPage_more hmore hr)
    · exact congrArg (Option.map (·, none)) (stationEntries_out s.ret.totals hout)
    · exact congrArg (Option.map (·, none)) (operatorEntries_out s.ret.totals hout)
    · exact congrArg (Option.map (·, none)) (departmentEntries_out s.ret.totals hout)
    · exact if_neg fun hin => by
        rw [pluInRange_iff] at hin
        omega
  case record =>
    refine ⟨fun n => ⟨exec_dayRecordRead h hr rfl, exec_dayRecordRead h hr rfl⟩, fun p => exec_dayRecordRead h hr ?_,
      fun k => exec_dayRecordRead h hr ?_, fun k => exec_dayRecordRead h hr ?_,
      fun n hlo hhi => exec_dayRecordRead h hr ?_,
      fun n => ⟨exec_dayRecordRead_refused h hr rfl, fun hout => exec_dayRecordRead_refused h hr ?_,
        fun hout => ⟨exec_dayRecordRead_refused h hr ?_, exec_dayRecordRead_refused h hr ?_⟩,
        fun hout => exec_dayRecordRead_refused h hr ?_⟩⟩
    · exact congrArg (Option.map (·, false)) (stationEntries_number r.totals p)
    · exact congrArg (Option.map (·, false)) (operatorEntries_number r.totals k)
    · exact congrArg (Option.map (·, false)) (departmentEntries_number r.totals k)
    · rw [← List.length_drop]
      exact if_pos ((numberIn_iff ..).mpr ⟨hlo, hhi⟩)
    · exact congrArg (Option.map (·, false)) (stationEntries_out r.totals hout)
    · exact congrArg (Option.map (·, false)) (operatorEntries_out r.totals hout)
    · exact congrArg (Option.map (·, false)) (departmentEntries_out r.totals hout)
    · exact if_neg (by rw [numberIn_out hout]; nofun)
  case noRecord => exact exec_dayRecordRead_none h hnone

end Sys2Proof.Machine
end

section
/-! PROOFS. TAKE_DECISION: which job the composer takes, and what starting it does (R103 to R105). -/

namespace Sys2Proof.Machine

variable {s base : State} {p : CounterPort} {j : Job} {a b : List Job} {n : Nat} {t : Template} {m : MsgCode}

/-! ### The choice (R104) -/

theorem eligible_iff (s : State) (j : Job) : eligible s j = true ↔ (s.port j.station).slots.free ≠ [] := by
  simp [eligible]

theorem isSummary_iff (j : Job) : isSummary j = true ↔ ∃ n k w, j.source = .summary n k w := by
  unfold isSummary
  cases h : j.source with
  | summary n k w => exact iff_of_true rfl ⟨n, k, w, rfl⟩
  | _ => exact iff_of_false Bool.false_ne_true nofun

/-- The oldest entry that passes a test. -/
theorem find?_oldest {α : Type} {f : α → Bool} {l r : List α} {x : α} (hl : ∀ y ∈ l, f y = false) (hx : f x = true) :
    (l ++ x :: r).find? f = some x := by
  rw [List.find?_append, List.find?_eq_none.mpr fun y hy => by rw [hl y hy]; nofun, List.find?_cons_of_pos hx]
  rfl

theorem takeChoice_none (h : ∀ j ∈ s.composer.queue, (s.port j.station).slots.free = []) : takeChoice s = none := by
  have hnone (f : Job → Bool) : s.composer.queue.find? (fun j => eligible s j && f j) = none := by
    refine List.find?_eq_none.mpr fun j hj hp => ?_
    exact (eligible_iff s j).mp (Bool.and_eq_true_iff.mp hp).1 (h j hj)
  unfold takeChoice
  rw [hnone, hnone]

section
variable (hqueue : s.composer.queue = a ++ j :: b) (hfree : (s.port j.station).slots.free ≠ [])
include hqueue hfree

omit hfree in
/-- The queue holds one more job that can be taken, beside `j`. -/
theorem find?_beside {f : Job → Bool} (hj : f j = false)
    {k : Job} (hk : s.composer.queue.find? (fun x => eligible s x && f x) = some k) :
    k ∈ a ++ b ∧ (s.port k.station).slots.free ≠ [] ∧ f k = true := by
  have hpasses : (eligible s k && f k) = true := List.find?_some (p := fun x => eligible s x && f x) hk
  obtain ⟨helig, hfk⟩ := Bool.and_eq_true_iff.mp hpasses
  have hmem : k ∈ a ++ j :: b := hqueue ▸ List.mem_of_find?_eq_some hk
  refine ⟨?_, (eligible_iff s k).mp helig, hfk⟩
  have hne : k ≠ j := fun h => by rw [h, hj] at hfk; cases hfk
  simpa [hne] using hmem

/-- A SUMMARY is taken when it is due, or when nothing else can be. -/
theorem takeChoice_summary (hsummary : isSummary j = true)
    (holdest : ∀ x ∈ a, isSummary x = true → (s.port x.station).slots.free = [])
    (hdue : s.ret.config.serviceRatio ≤ s.composer.serviceCount ∨
      ∀ x ∈ a ++ b, isSummary x = false → (s.port x.station).slots.free = []) : takeChoice s = some (j, 0) := by
  have hsum : s.composer.queue.find? (fun j => eligible s j && isSummary j) = some j := by
    rw [hqueue]
    refine find?_oldest (fun x hx => ?_) (by rw [(eligible_iff s j).mpr hfree, hsummary]; rfl)
    refine Bool.eq_false_iff.mpr fun hp => ?_
    obtain ⟨helig, hx'⟩ := Bool.and_eq_true_iff.mp hp
    exact (eligible_iff s x).mp helig (holdest x hx hx')
  unfold takeChoice
  rw [hsum]
  cases hoth : s.composer.queue.find? fun j => eligible s j && !isSummary j with
  | none => rfl
  | some k =>
    refine if_pos (hdue.resolve_right fun hnone => ?_)
    obtain ⟨hmem, hk, hother⟩ := find?_beside hqueue (f := fun x => !isSummary x) (by rw [hsummary]; rfl) hoth
    exact hk (hnone k hmem (by simpa using hother))

section
variable (hother : isSummary j = false)
  (holdest : ∀ x ∈ a, isSummary x = false → (s.port x.station).slots.free = [])
include hother holdest

theorem find?_other : s.composer.queue.find? (fun j => eligible s j && !isSummary j) = some j := by
  rw [hqueue]
  refine find?_oldest (fun x hx => ?_) (by rw [(eligible_iff s j).mpr hfree, hother]; rfl)
  refine Bool.eq_false_iff.mpr fun hp => ?_
  obtain ⟨helig, hx'⟩ := Bool.and_eq_true_iff.mp hp
  exact (eligible_iff s x).mp helig (holdest x hx (by simpa using hx'))

/-- Another job is taken where no SUMMARY can be. -/
theorem takeChoice_alone (hnone : ∀ x ∈ a ++ b, isSummary x = true → (s.port x.station).slots.free = []) :
    takeChoice s = some (j, 0) := by
  unfold takeChoice
  rw [find?_other hqueue hfree hother holdest]
  cases hsum : s.composer.queue.find? fun j => eligible s j && isSummary j with
  | none => rfl
  | some k =>
    obtain ⟨hmem, hk, hsummary⟩ := find?_beside hqueue (f := isSummary) hother hsum
    exact absurd (hnone k hmem hsummary) hk

/-- Another job is taken ahead of a SUMMARY that is not yet due. -/
theorem takeChoice_ahead (hcount : s.composer.serviceCount < s.ret.config.serviceRatio)
    (hsome : ∃ x ∈ a ++ b, isSummary x = true ∧ (s.port x.station).slots.free ≠ []) :
    takeChoice s = some (j, s.composer.serviceCount + 1) := by
  obtain ⟨x, hx, hsummary, hxfree⟩ := hsome
  obtain ⟨k, hsum⟩ : ∃ k, s.composer.queue.find? (fun j => eligible s j && isSummary j) = some k := by
    refine Option.isSome_iff_exists.mp (List.find?_isSome.mpr ⟨x, ?_, ?_⟩)
    · rw [hqueue]
      simp only [List.mem_append, List.mem_cons] at hx ⊢
      exact hx.imp_right .inr
    · rw [(eligible_iff s x).mpr hxfree, hsummary]
      rfl
  unfold takeChoice
  rw [find?_other hqueue hfree hother holdest, hsum]
  exact if_neg (Nat.not_le.mpr hcount)

end

end

/-! ### The start (R105) -/

theorem startOf_ok (hsummary : ∀ n k w, j.source = .summary n k w → summaryTemplate s.ret = some t)
    (hitem : ∀ sr, j.source = .item sr → itemTemplate s.ret sr.item.template = some t)
    (hreprint : ∀ n, j.source = .reprint n → ∃ e sr, s.log.find? (fun x => x.serial == n) = some e ∧
      e.state = .printed ∧ e.reprints < 3 ∧ e.sale = some sr ∧ itemTemplate s.ret sr.item.template = some t) :
    startOf s j = .ok t := by
  cases hsource : j.source with
  | item sr => simp only [startOf, hsource, hitem sr hsource]
  | summary n k w => simp only [startOf, hsource, hsummary n k w hsource]
  | reprint n =>
    obtain ⟨e, sr, he, hprinted, hcount, hsale, htemplate⟩ := hreprint n hsource
    have hentry : logEntry s n = some e := he
    have hrefusal : entryRefusal e = none := by
      exact (if_neg (not_not_intro hprinted)).trans (if_neg (Nat.not_le.mpr hcount))
    have hbind : (e.sale.bind fun sr => itemTemplate s.ret sr.item.template) = some t := by
      rw [hsale]
      exact htemplate
    simp only [startOf, hsource, hentry, hrefusal, hbind]

/-- The composer as the take leaves it, ahead of the job's start. -/
def jobTaken (j : Job) (n : Nat) (s : State) : State :=
  { s with composer := { s.composer with
      queue := s.composer.queue.filter fun k => k.station ≠ j.station, serviceCount := n } }

theorem takeDecision_takes (hnone : s.composer.current = none) (hchoice : takeChoice s = some (j, n)) :
    takeDecision s = startComposition j (clearPrinterBusy j.station (jobTaken j n s)) := by
  rw [takeDecision, hnone, hchoice]
  rfl

theorem takeDecision_none (h : s.composer.current ≠ none ∨ takeChoice s = none) : takeDecision s = s := by
  unfold takeDecision
  split
  · next hnone hchoice =>
    obtain h | h := h
    · exact absurd hnone h
    · rw [hchoice] at h
      cases h
  · rfl

theorem startOf_clearPrinterBusy (p : CounterPort) (s : State) (j : Job) :
    startOf (clearPrinterBusy p s) j = startOf s j := by
  obtain h | h := clearPrinterBusy_cases p s <;> rw [h]
  rfl

theorem startComposition_ok (h : startOf s j = .ok t) : startComposition j s = { s with composer := { s.composer with
    current := some { job := j, template := t, table0 := s.ret.table0, table1 := s.ret.table1, dropped := false } } } := by
  rw [startComposition, h]

theorem startComposition_error (h : startOf s j = .error m) :
    startComposition j s = dayTest (reportRefusal j m { s with free := s.free + 1 }) := by
  rw [startComposition, h]

/-- The composer at work on a job just taken. -/
def jobStarted (j : Job) (t : Template) (l : List Job) (n : Nat) (s : State) : State := { s with composer := {
  queue := l, serviceCount := n
  current := some { job := j, template := t, table0 := s.ret.table0, table1 := s.ret.table1, dropped := false } } }

theorem takeDecision_starts (hnone : s.composer.current = none) (hchoice : takeChoice s = some (j, n))
    (hqueue : s.composer.queue = a ++ j :: b) (hstations : ∀ x ∈ a ++ b, x.station ≠ j.station)
    (hstart : startOf s j = .ok t) : takeDecision s = if (s.port j.station).held = some .printerBusy then
      (jobStarted j t (a ++ b) n s).setPort j.station { s.port j.station with held := none, displayDue := true }
    else jobStarted j t (a ++ b) n s := by
  have hfilter : s.composer.queue.filter (fun k => k.station ≠ j.station) = a ++ b := by
    have hall : (a ++ b).filter (fun k => decide (k.station ≠ j.station)) = a ++ b :=
      List.filter_eq_self.mpr fun x hx => decide_eq_true (hstations x hx)
    rw [List.filter_append] at hall
    rw [hqueue, List.filter_append, List.filter_cons_of_neg (by simp), hall]
  have hstart' : startOf (clearPrinterBusy j.station (jobTaken j n s)) j = .ok t :=
    (startOf_clearPrinterBusy ..).trans hstart
  rw [takeDecision_takes hnone hchoice, startComposition_ok hstart', ← hfilter]
  by_cases hheld : (s.port j.station).held = some .printerBusy
  · rw [if_pos hheld, clearPrinterBusy, if_pos (by exact hheld)]
    rfl
  · rw [if_neg hheld, clearPrinterBusy, if_neg (by exact hheld)]
    rfl

/-! ### A job that cannot start -/

/-- The state left by the last job of the queue, whose start is refused. -/
def queueEnded (s : State) : State :=
  { s with composer := { queue := [], current := none, serviceCount := 0 }, free := s.free + 1 }

theorem clearPrinterBusy_port (p : CounterPort) (s : State) :
    ∃ h b, clearPrinterBusy p s = s.setPort p { s.port p with held := h, displayDue := b } := by
  obtain h | h := clearPrinterBusy_cases p s <;> rw [h]
  · exact ⟨_, _, (State.setPort_self s p).symm⟩
  · exact ⟨none, true, rfl⟩

theorem takeChoice_only (hqueue : s.composer.queue = [j]) (hfree : (s.port j.station).slots.free ≠ []) :
    takeChoice s = some (j, 0) := by
  have hempty (P : Job → Prop) (x : Job) (hx : x ∈ ([] : List Job)) : P x := absurd hx List.not_mem_nil
  cases hsummary : isSummary j with
  | true => exact takeChoice_summary (a := []) (b := []) hqueue hfree hsummary (hempty _) (.inr (hempty _))
  | false => exact takeChoice_alone (a := []) (b := []) hqueue hfree hsummary (hempty _) (hempty _)

theorem takeDecision_refuses (hnone : s.composer.current = none) (hqueue : s.composer.queue = [j])
    (hfree : (s.port j.station).slots.free ≠ []) (hstart : startOf s j = .error m) : ∃ h b, takeDecision s =
      dayTest (reportRefusal j m ((queueEnded s).setPort j.station
        { s.port j.station with held := h, displayDue := b })) := by
  have hstart' : startOf (clearPrinterBusy j.station (jobTaken j 0 s)) j = .error m :=
    (startOf_clearPrinterBusy ..).trans hstart
  have htaken : jobTaken j 0 s = { s with composer := { queue := [], current := none, serviceCount := 0 } } := by
    rw [jobTaken, hqueue, List.filter_cons_of_neg (by simp)]
    show ({ s with composer := { queue := _, current := s.composer.current, serviceCount := 0 } } : State) = _
    rw [hnone]
    rfl
  obtain ⟨h, b, hcleared⟩ := clearPrinterBusy_port j.station (jobTaken j 0 s)
  refine ⟨h, b, ?_⟩
  rw [takeDecision_takes hnone (takeChoice_only hqueue hfree), startComposition_error hstart', hcleared, htaken]
  rfl

theorem bind_passedDrain (hcommit : s.commit = .editing) (hday : s.dayState = .trading) (o : Option Snapshot) :
    o.bind (passedDrain s) = none := by
  cases o with
  | none => rfl
  | some sn =>
    show passedDrain s sn = none
    rw [passedDrain, hcommit, hday]

theorem refuseItem_open {c : Port} (hcommit : s.commit = .editing) (hday : s.dayState = .trading) (m : MsgCode) :
    refuseItem p m (s.setPort p c) = s.setPort p { c with
      record := none, sale := .item, held := some m
      snapshot := c.snapshot.map fun sn => { sn with live := some (livePrice sn c.weigh.latest) }
      displayDue := true } := by
  unfold refuseItem
  rw [modPort_setPort, setSale_message, reprice_setPort]
  dsimp only
  rw [bind_passedDrain (by exact hcommit) (by exact hday)]

theorem refuseSummary_off {c : Port} (hswitch : c.calSwitch = .off) (n : Nat) (m : MsgCode) :
    refuseSummary p n m (s.setPort p c) =
      ({ s with orders := s.orders.map fun o => if o.number = n then { o with summaryInFlight := false } else o } :
        State).setPort p { c with sale := .idle, held := some m, displayDue := true } := by
  rw [refuseSummary, modOrder_setPort, toIdle, State.port_setPort_self, if_neg (by rw [hswitch]; decide),
    setSale_message]

theorem startOf_item {sr : SaleRecord} (hsource : j.source = .item sr)
    (h : itemTemplate s.ret sr.item.template = none) : startOf s j = .error .templateMissing := by
  simp only [startOf, hsource, h]

theorem startOf_summary {k : Option OperatorNo} {w : Stamp} (hsource : j.source = .summary n k w)
    (h : summaryTemplate s.ret = none) : startOf s j = .error .templateMissing := by
  simp only [startOf, hsource, h]

theorem startOf_unlogged (hsource : j.source = .reprint n) (h : ∀ x ∈ s.log, x.serial ≠ n) :
    startOf s j = .error .notInLog := by
  have hentry : logEntry s n = none := List.find?_eq_none.mpr fun x hx => by simpa using h x hx
  simp only [startOf, hsource, hentry]

section
variable {e : LogEntry} {sr : SaleRecord} (hsource : j.source = .reprint n)
  (he : s.log.find? (fun x => x.serial == n) = some e) (hsale : e.sale = some sr)
include hsource he hsale

theorem startOf_entry (h : entryRefusal e = some m) (ht : itemTemplate s.ret sr.item.template ≠ none) :
    startOf s j = .error m := by
  have hentry : logEntry s n = some e := he
  obtain ⟨t, ht⟩ := Option.ne_none_iff_exists'.mp ht
  have hbind : (e.sale.bind fun sr => itemTemplate s.ret sr.item.template) = some t := by rw [hsale]; exact ht
  simp only [startOf, hsource, hentry, h, hbind]

theorem startOf_template (h : entryRefusal e = none) (ht : itemTemplate s.ret sr.item.template = none) :
    startOf s j = .error .templateMissing := by
  have hentry : logEntry s n = some e := he
  have hbind : (e.sale.bind fun sr => itemTemplate s.ret sr.item.template) = none := by rw [hsale]; exact ht
  simp only [startOf, hsource, hentry, h, hbind]

end

/-- Settles O52. -/
theorem takeDecisionFollowsRatio : Obligations.TakeDecisionFollowsRatio := by
  intro s hq free summary shown ended
  have hnot (x : Job) : isSummary x = false ↔ ¬ summary x := by
    rw [← Bool.not_eq_true]
    exact not_congr (isSummary_iff x)
  refine ⟨fun h => ?none, ?taken, ?refused⟩
  case none =>
    have htake : takeDecision s = s := takeDecision_none (h.imp_right fun hall =>
      takeChoice_none fun j hj => not_not.mp (hall j hj))
    exact congrArg Host.Outcome.next ((congrArg flush htake).trans (flush_of_quiet hq))
  case taken =>
    intro a b j t hnone hqueue hfree hstations hsum hitem hreprint taken
    have htaken (n : Nat) (hchoice : takeChoice s = some (j, n)) : taken n := by
      have htake := takeDecision_starts hnone hchoice hqueue hstations (startOf_ok hsum hitem hreprint)
      refine ⟨fun hheld => ?_, fun hheld hs => ?_⟩
      · rw [if_neg hheld] at htake
        exact congrArg Host.Outcome.next ((congrArg flush htake).trans (flush_of_quiet hq))
      · rw [if_pos hheld] at htake
        refine ⟨_, congrArg (fun u => Host.Outcome.next (flush u)) htake, ?_⟩
        exact flush_shown (c := { s.port j.station with held := none }) hs (hq _) hq
    refine ⟨fun hsummary holdest hdue => htaken 0 (takeChoice_summary hqueue hfree ((isSummary_iff j).mpr hsummary) ?_ ?_),
      fun hother holdest => ⟨fun hnone' => htaken 0 (takeChoice_alone hqueue hfree ((hnot j).mpr hother) ?_ ?_),
        fun hcount hsome => htaken _ (takeChoice_ahead hqueue hfree ((hnot j).mpr hother) ?_ hcount ?_)⟩⟩
    · exact fun x hx h => not_not.mp (holdest x hx ((isSummary_iff x).mp h))
    · exact hdue.imp_right fun hall x hx h => not_not.mp (hall x hx ((hnot x).mp h))
    · exact fun x hx h => not_not.mp (holdest x hx ((hnot x).mp h))
    · exact fun x hx h => not_not.mp (hnone' x hx ((isSummary_iff x).mp h))
    · exact fun x hx h => not_not.mp (holdest x hx ((hnot x).mp h))
    · obtain ⟨x, hx, hsummary, hxfree⟩ := hsome
      exact ⟨x, hx, (isSummary_iff x).mpr hsummary, hxfree⟩
  case refused =>
    intro j hnone hqueue hfree hs hday p c
    refine ⟨fun sr sn hsource hcommit htemplate hsnap => ?item, fun n k w hsource htemplate hswitch => ?summary,
      fun n m hsource hwhy => ?reprint⟩
    case item =>
      obtain ⟨h, b, htake⟩ := takeDecision_refuses hnone hqueue hfree (startOf_item hsource htemplate)
      have hreport : reportRefusal j .templateMissing ((queueEnded s).setPort p { c with held := h, displayDue := b }) =
          refuseItem p .templateMissing ((queueEnded s).setPort p { c with held := h, displayDue := b }) := by
        rw [reportRefusal, hsource]
      rw [hreport, refuseItem_open (s := queueEnded s) hcommit hday, dayTest_trading (by exact hday)] at htake
      refine ⟨_, congrArg (fun u => Host.Outcome.next (flush u)) htake, ?_⟩
      rw [hsnap]
      exact flush_shown (base := queueEnded s) (c := { c with
        sale := .item, record := none, held := some .templateMissing
        snapshot := some { sn with live := some (livePrice sn c.weigh.latest) } }) hs (hq p) hq
    case summary =>
      obtain ⟨h, b, htake⟩ := takeDecision_refuses hnone hqueue hfree (startOf_summary hsource htemplate)
      have hreport : reportRefusal j .templateMissing ((queueEnded s).setPort p { c with held := h, displayDue := b }) =
          refuseSummary p n .templateMissing ((queueEnded s).setPort p { c with held := h, displayDue := b }) := by
        rw [reportRefusal, hsource]
      rw [hreport, refuseSummary_off (by exact hswitch), dayTest_trading (by exact hday)] at htake
      refine ⟨_, congrArg (fun u => Host.Outcome.next (flush u)) htake, ?_⟩
      exact flush_shown (c := { c with sale := .idle, held := some .templateMissing })
        (base := { queueEnded s with orders := s.orders.map fun o =>
          if o.number = n then { o with summaryInFlight := false } else o }) hs (hq p) hq
    case reprint =>
      have hstart : startOf s j = .error m := by
        obtain ⟨hlog, rfl⟩ | ⟨e, sr, he, hsale, ⟨ht, hstate, rfl⟩ | ⟨ht, hstate, hcount, rfl⟩ | ⟨ht, hstate, hcount, rfl⟩⟩ := hwhy
        · exact startOf_unlogged hsource hlog
        · exact startOf_entry hsource he hsale (if_pos hstate) ht
        · exact startOf_entry hsource he hsale ((if_neg (not_not_intro hstate)).trans (if_pos hcount)) ht
        · exact startOf_template hsource he hsale
            ((if_neg (not_not_intro hstate)).trans (if_neg (Nat.not_le.mpr hcount))) ht
      obtain ⟨h, b, htake⟩ := takeDecision_refuses hnone hqueue hfree hstart
      have hreport : reportRefusal j m ((queueEnded s).setPort p { c with held := h, displayDue := b }) =
          (queueEnded s).setPort p { c with held := some m, displayDue := true } := by
        rw [reportRefusal, hsource]
        exact modPort_setPort ..
      rw [hreport, dayTest_trading (by exact hday)] at htake
      refine ⟨_, congrArg (fun u => Host.Outcome.next (flush u)) htake, ?_⟩
      exact flush_shown (c := { c with held := some m }) (base := queueEnded s) hs (hq p) hq

end Sys2Proof.Machine
end

section
/-! PROOFS. A composition that closes its station's snapshot: what the commit and the day make of the close. -/

namespace Sys2Proof.Machine

variable {s b : State} {p : CounterPort} {c x : Port} {m : MsgCode} {sn : Snapshot} {d : CommitDrain} {a : Bool}
  {g n : Nat} {F : State → State}

/-! ### The move out of PRINTING (R12, R58, R61) -/

/-- The station left the calling list, where it was asking. -/
def leftCalling (a : Bool) (p : CounterPort) (u : State) : State :=
  { u with tickets := { u.tickets with calling := u.tickets.calling.filter fun q => !(a && decide (q = p)) } }

theorem leftCalling_false (p : CounterPort) (u : State) : leftCalling false p u = u := by
  have hcalling : u.tickets.calling.filter (fun q => !(false && decide (q = p))) = u.tickets.calling :=
    List.filter_eq_self.mpr fun _ _ => rfl
  rw [leftCalling, hcalling]

/-- An asking station leaves the calling list when its switch is ON (R12). -/
def Port.leavesCalling (c : Port) : Bool := decide (c.calSwitch = .on ∧ c.service = .asking)

/-- The port that a move to IDLE or CALIBRATING leaves. -/
def Port.idled (c : Port) (message : Option MsgCode) : Port :=
  { c with
    sale := if c.calSwitch = .on then .calibrating else .idle
    service := if c.leavesCalling then .free else c.service
    held := message }

theorem toIdle_idled (h : c.sale = .printing ∨ c.sale = .item) (message : Option MsgCode) (u : State) :
    toIdle p message (u.setPort p c) =
      (leftCalling c.leavesCalling p u).setPort p { c.idled message with displayDue := true } := by
  have hne (v : SaleState) (hv : v = .calibrating ∨ v = .idle) : ¬ (c.sale = v ∧ message = none) := by
    rintro ⟨rfl, -⟩
    obtain h | h := h <;> obtain hv | hv := hv <;> exact nomatch h.symm.trans hv
  rw [toIdle, State.port_setPort_self, Port.idled]
  by_cases hswitch : c.calSwitch = .on
  · rw [if_pos hswitch, leaveCalling_setPort]
    by_cases hasking : c.service = .asking
    · have hleaves : c.leavesCalling = true := decide_eq_true ⟨hswitch, hasking⟩
      have hfilter : u.tickets.calling.filter (· ≠ p) =
          u.tickets.calling.filter fun q => !(true && decide (q = p)) := by
        refine List.filter_congr fun q _ => ?_
        simp
      rw [if_pos hasking, hleaves, if_pos rfl, hfilter, setSale_setPort, if_neg (hne _ (.inl rfl))]
      simp only [hswitch, if_true]
      rfl
    · have hstays : c.leavesCalling = false := decide_eq_false fun h => hasking h.2
      rw [if_neg hasking, hstays, leftCalling_false, if_neg Bool.false_ne_true, setSale_setPort,
        if_neg (hne _ (.inl rfl))]
      simp only [hswitch, if_true]
  · have hstays : c.leavesCalling = false := decide_eq_false fun h => hswitch h.1
    rw [if_neg hswitch, hstays, leftCalling_false, if_neg Bool.false_ne_true, setSale_setPort,
      if_neg (hne _ (.inr rfl))]
    simp only [hswitch, if_false]

/-! ### The close (R60, R79) -/

/-- Forced cancels counted in the commit record. -/
def CommitState.forcedBy (n : Nat) : CommitState → CommitState
  | .waiting d => .waiting { d with forced := d.forced + n }
  | other => other

theorem applied_setPort {y : Port} (forced : Nat) (s : State) (p : CounterPort) (hsnap : c.snapshot = y.snapshot) :
    applied forced (s.setPort p c) = (applied forced (s.setPort p y)).setPort p c := by
  have h := appliedFor_setPort (c := c) [] forced (s.setPort p y) p (by rw [State.port_setPort_self, hsnap])
  rw [State.setPort_setPort] at h
  exact h

theorem applied_commit_congr (v : CommitState) (forced : Nat) (s : State) :
    applied forced { s with commit := v } = applied forced s := by
  unfold applied appliedFor
  rw [notify_eq, notify_eq]
  rfl

theorem leftCalling_applied (a : Bool) (p q : CounterPort) (forced : Nat) (s : State) (y : Port) :
    leftCalling a p (markAllDisplays (applied forced (s.setPort q y))) =
      markAllDisplays (applied forced ((leftCalling a p s).setPort q y)) := by
  unfold applied appliedFor
  rw [notify_eq, notify_eq]
  rfl

section
variable (hF : ∀ u, F (u.setPort p c) = (leftCalling a p u).setPort p { x with displayDue := true })
include hF

/-- The close of a snapshot that no WAITING commit awaits. -/
theorem finished_uncounted (h : ∀ d, s.commit = .waiting d → g ≠ prevGen s.ret.generation) :
    F (reportClose [] g (s.setPort p c)) = (leftCalling a p s).setPort p { x with displayDue := true } := by
  rw [reportClose_uncounted (s := s.setPort p c) h, hF]

theorem finished_counted (hd : s.commit = .waiting d) (hg : g = prevGen s.ret.generation) (hmany : 2 ≤ d.awaited) :
    F (reportClose [] g (s.setPort p c)) =
      (leftCalling a p { s with commit := .waiting { d with awaited := d.awaited - 1 } }).setPort p
        { x with displayDue := true } := by
  rw [reportClose_counted (s := s.setPort p c) hd hg hmany]
  exact hF { s with commit := .waiting { d with awaited := d.awaited - 1 } }

theorem finished_completes (hd : s.commit = .waiting d) (hg : g = prevGen s.ret.generation) (hlast : d.awaited ≤ 1)
    (hdue : c.displayDue = true) (hsnap : c.snapshot = x.snapshot) : F (reportClose [] g (s.setPort p c)) =
      markAllDisplays (applied d.forced ((leftCalling a p s).setPort p x)) := by
  have happlied : markAllDisplays (applied d.forced (s.setPort p c)) =
      (markAllDisplays (applied d.forced (s.setPort p x))).setPort p c := by
    rw [applied_setPort d.forced s p hsnap, markAllDisplays_setPort]
    congr 1
    rw [← hdue]
  rw [reportClose_completes (s := s.setPort p c) hd hg hlast]
  show F (markAllDisplays (applied d.forced (s.setPort p c))) = _
  rw [happlied, hF, leftCalling_applied, ← markAllDisplays_setPort]
  refine congrArg markAllDisplays ?_
  rw [applied_setPort d.forced (leftCalling a p s) p (y := x) rfl, State.setPort_setPort]

end

/-! ### The end of the event -/

/-- The composition's event ends in `u`, its station shown. -/
def ShownAt (s : State) (p : CounterPort) (u : State) : Prop :=
  ∃ t, exec .compositionComplete s = .next t ∧ OnlyPort u t p ∧
    t.port p = { u.port p with tx := (u.port p).tx ++ [.display (displayOf t p)] }

/-- What the event makes of `u`, where the station's snapshot has closed with `n` forced cancels: a WAITING commit
counts the close of a stale one, and completes with the last; a CLOSING day completes on a quiet counter. -/
def ClosesInto (s : State) (p : CounterPort) (stale : Prop) (n : Nat) (u : State) : Prop :=
  (s.dayState = .trading → (∀ d, s.commit = .waiting d → ¬ stale) → ShownAt s p u) ∧
  (∀ d : CommitDrain, s.dayState = .trading → s.commit = .waiting d → stale →
    (2 ≤ d.awaited → ShownAt s p { u with
      commit := .waiting { d with awaited := d.awaited - 1, forced := d.forced + n } }) ∧
    (d.awaited ≤ 1 → ∃ t, exec .compositionComplete s = .next t ∧ EveryStationShown (applied (d.forced + n) u) t)) ∧
  (∀ k e, s.dayState = .closing k e → (∀ d, s.commit ≠ .waiting d) →
    ((∃ q : CounterPort, q ≠ p ∧ (s.port q).snapshot ≠ none) ∨ s.composer.queue ≠ [] → ShownAt s p u) ∧
    ((∀ q : CounterPort, q ≠ p → (s.port q).snapshot = none) → s.composer.queue = [] →
      ServiceSound s → ∃ (ended : List Order) (t : State), ended.Perm u.orders ∧
        exec .compositionComplete s = .next t ∧ EveryStationShown (dayClosedWith ended u) t))

theorem shownAt_of {u : State} (hs : x.state = .up ∧ x.online = true ∧ x.kind = some .scale) (hdue : x.displayDue = false)
    (hq : Quiet u)
    (hexec : exec .compositionComplete s = .next (flush (u.setPort p { x with displayDue := true }))) :
    ShownAt s p (u.setPort p x) := by
  obtain ⟨⟨hrest, hothers⟩, hport⟩ := flush_shown (p := p) hs hdue hq
  refine ⟨_, hexec, ⟨hrest, fun q hne => ?_⟩, ?_⟩
  · rw [hothers q hne, State.port_setPort_ne _ _ hne]
  · rw [hport, State.port_setPort_self]

/-- The state the close is reported in keeps what the outcome is judged by. -/
structure ClosingBase (s b : State) : Prop where
  commit : b.commit = s.commit
  generation : b.ret.generation = s.ret.generation
  day : b.dayState = s.dayState
  quiet : Quiet b
  queue : b.composer.queue = s.composer.queue
  current : b.composer.current = none
  snapshots : ∀ q, (b.port q).snapshot = (s.port q).snapshot

theorem leftCalling_port (a : Bool) (p q : CounterPort) (u : State) : (leftCalling a p u).port q = u.port q := rfl

theorem CommitState.forcedBy_zero (v : CommitState) : v.forcedBy 0 = v := by cases v <;> rfl

theorem CommitState.forcedBy_other {v : CommitState} (h : ∀ d, v ≠ .waiting d) (n : Nat) : v.forcedBy n = v := by
  cases v with
  | waiting d => exact absurd rfl (h d)
  | editing => rfl
  | scheduled d m => rfl

section
variable (hb : ClosingBase s b) (hx : x.state = .up ∧ x.online = true ∧ x.kind = some .scale)
  (hdue : x.displayDue = false) (hsnap : x.snapshot = none) (hcsnap : c.snapshot = none) (hcdue : c.displayDue = true)
  (hF : ∀ u, F (u.setPort p c) = (leftCalling a p u).setPort p { x with displayDue := true })
  (hforced : n ≠ 0 → ∀ d, s.commit = .waiting d → g = (s.ret.generation + 65535) % 65536)
include hb hF hforced

theorem finished_plain (h : ∀ d, s.commit = .waiting d → g ≠ (s.ret.generation + 65535) % 65536) :
    F (reportClose [] g (State.setPort { b with commit := s.commit.forcedBy n } p c)) =
      (leftCalling a p b).setPort p { x with displayDue := true } := by
  have hcommit : s.commit.forcedBy n = b.commit := by
    rw [hb.commit]
    by_cases hn : n = 0
    · rw [hn, CommitState.forcedBy_zero]
    · exact CommitState.forcedBy_other (fun d hd => h d hd (hforced hn d hd)) n
  rw [hcommit]
  refine finished_uncounted hF fun d hd => ?_
  rw [hb.generation]
  exact h d (hb.commit.symm.trans hd)

include hx hdue hsnap hcsnap hcdue

theorem closesInto_of
    (hexec : exec .compositionComplete s = .next (flush (dayTest (F (reportClose [] g
      (State.setPort { b with commit := s.commit.forcedBy n } p c))))))
    (hline : s.composer.queue = [] → ServiceSound s → LineKept False (F (reportClose [] g
      (State.setPort { b with commit := s.commit.forcedBy n } p c)))) :
    ClosesInto s p (g = (s.ret.generation + 65535) % 65536) n ((leftCalling a p b).setPort p x) := by
  have hquiet : Quiet (leftCalling a p b) := hb.quiet
  have hstarted {d : CommitDrain} (hd : s.commit = .waiting d) :
      ({ b with commit := s.commit.forcedBy n } : State).commit = .waiting { d with forced := d.forced + n } := by
    rw [hd]
    rfl
  refine ⟨fun hday hnone => ?trading, fun d hday hd hstale => ⟨fun hmany => ?counted, fun hlast => ?completes⟩,
    fun k e hday hnone => ⟨fun hbusy => ?busy, fun hothers hqueue hs => ?closes⟩⟩
  case trading =>
    rw [finished_plain hb hF hforced hnone,
      dayTest_trading (s := (leftCalling a p b).setPort p _) (hb.day.trans hday)] at hexec
    exact shownAt_of hx hdue hquiet hexec
  case counted =>
    rw [finished_counted hF (hstarted hd) (hstale.trans (congrArg prevGen hb.generation).symm) hmany,
      dayTest_trading (by exact hb.day.trans hday)] at hexec
    exact shownAt_of (u := leftCalling a p
      { b with commit := .waiting { d with awaited := d.awaited - 1, forced := d.forced + n } }) hx hdue hquiet hexec
  case completes =>
    rw [finished_completes hF (hstarted hd) (hstale.trans (congrArg prevGen hb.generation).symm) hlast hcdue
      (hcsnap.trans hsnap.symm)] at hexec
    have happlied : applied (d.forced + n) ((leftCalling a p { b with commit := s.commit.forcedBy n }).setPort p x) =
        applied (d.forced + n) ((leftCalling a p b).setPort p x) :=
      applied_commit_congr (s.commit.forcedBy n) (d.forced + n) ((leftCalling a p b).setPort p x)
    have hday' : (markAllDisplays (applied (d.forced + n) ((leftCalling a p b).setPort p x))).dayState = .trading := by
      rw [markAllDisplays_dayState, applied, appliedFor, notify_dayState]
      exact hb.day.trans hday
    dsimp only at hexec
    rw [happlied, dayTest_trading hday'] at hexec
    exact ⟨_, hexec, flush_markAllDisplays (applied_quiet (hquiet.setPort hdue) _)⟩
  case busy =>
    rw [finished_plain hb hF hforced fun d hd => absurd hd (hnone d), dayTest_busy] at hexec
    · exact shownAt_of hx hdue hquiet hexec
    · obtain ⟨q, hne, hq⟩ | hqueue := hbusy
      · refine .inl ⟨q, ?_⟩
        rw [State.port_setPort_ne _ _ hne, leftCalling_port, hb.snapshots]
        exact hq
      · exact .inr (.inl (hb.queue ▸ hqueue))
  case closes =>
    have hkept := hline hqueue hs
    rw [finished_plain hb hF hforced fun d hd => absurd hd (hnone d)] at hexec hkept
    have hsnaps (q : CounterPort) : (((leftCalling a p b).setPort p { x with displayDue := true }).port q).snapshot = none := by
      by_cases hq : q = p
      · subst hq
        rw [State.port_setPort_self]
        exact hsnap
      · rw [State.port_setPort_ne _ _ hq, leftCalling_port, hb.snapshots]
        exact hothers q hq
    obtain ⟨ended, hperm, hclosed⟩ := dayTest_quiet hkept (hb.day.trans hday) hsnaps ⟨hb.queue.trans hqueue, hb.current⟩
    have hmarked : markAllDisplays (dayClosedWith ended ((leftCalling a p b).setPort p { x with displayDue := true })) =
        markAllDisplays (dayClosedWith ended ((leftCalling a p b).setPort p x)) := by
      refine dayClosedWith_marked (s := (leftCalling a p b).setPort p x) ended
        (ports := ((leftCalling a p b).setPort p { x with displayDue := true }).ports) (day := b.dayState)
        (calling := (leftCalling a p b).tickets.calling) fun q => ?_
      show ({ ((leftCalling a p b).setPort p { x with displayDue := true }).port q with
        service := .free, displayDue := true } : Port) = _
      rw [State.port_setPort, State.port_setPort]
      split <;> rfl
    rw [hclosed, hmarked] at hexec
    exact ⟨ended, _, hperm, hexec, flush_markAllDisplays (dayClosedWith_quiet (hquiet.setPort hdue) ended)⟩

end

end Sys2Proof.Machine
end

section
/-! PROOFS. COMPOSITION_COMPLETE of an ITEM job: the label refused, or posted and issued (R58 to R63, R107, R117). -/

namespace Sys2Proof.Machine

variable {s u b t : State} {p : CounterPort} {c : Port} {m : MsgCode} {sn : Snapshot} {sr : SaleRecord} {k : SlotNo}
  {rest : List SlotNo} {l : SlotLabel} {comp : Composition}

theorem exec_composition (hcurrent : s.composer.current = some comp) (hdropped : comp.dropped = false)
    (hjob : completeJob comp (freeComposer s) = .ok t) : exec .compositionComplete s = .next (flush (dayTest t)) := by
  show execCompositionComplete s = _
  rw [execCompositionComplete, hcurrent]
  simp only [hdropped, Bool.false_eq_true, if_false, hjob]

/-! ### Posting (R111, R112) -/

/-- A label is sent at once to a READY printer with nothing before it. -/
abbrev SentAtOnce (c : Port) : Prop := c.printer = .ready ∧ c.slots.outstanding = none ∧ c.slots.post = []

/-- The port with a label posted to its first free slot. -/
def Port.withLabel (k : SlotNo) (rest : List SlotNo) (l : SlotLabel) (c : Port) : Port :=
  { c with slots := { c.slots with
      labels := c.slots.labels.set k (some l), free := rest, post := c.slots.post ++ [k] } }

/-- The port with the posted label sent. -/
def Port.withSent (k : SlotNo) (l : SlotLabel) (c : Port) : Port :=
  { c with tx := c.tx ++ labelFrames k l, slots := { c.slots with outstanding := some k } }

theorem postLabel_setPort (hfree : c.slots.free = k :: rest) : postLabel p k l (s.setPort p c) =
    s.setPort p (c.withLabel k rest l) := by
  rw [postLabel, modPort_setPort, Port.withLabel, hfree]
  rfl

theorem feedPrinter_kept (h : c.printer = .fault ∨ c.slots.outstanding ≠ none) :
    feedPrinter p (s.setPort p c) = s.setPort p c := by
  obtain hsame | ⟨k, rest, l, -, -, -, hready, hout, -⟩ := feedPrinter_cases p (s.setPort p c)
  · exact hsame
  · rw [State.port_setPort_self] at hready hout
    obtain h | h := h
    · exact nomatch hready.symm.trans h
    · exact absurd hout h

section
variable {y : Port} (hslots : y.slots = (c.withLabel k rest l).slots) (hprinter : y.printer = c.printer)
include hslots hprinter

theorem feedPrinter_sent (h : SentAtOnce c) (hreach : reachable y = true) :
    feedPrinter p (s.setPort p y) = s.setPort p (y.withSent k l) := by
  obtain ⟨hready, hout, hpost⟩ := h
  refine feedPrinter_setPort_sends (k := k) (rest := []) (l := l) ?_ ?_ hreach (hprinter.trans hready) ?_ p s
  · rw [hslots, Port.withLabel, hpost]
    rfl
  · rw [hslots]
    exact Vector.getElem_set_self _
  · rw [hslots]
    exact hout

theorem feedPrinter_waits (h : c.printer = .fault ∨ c.slots.outstanding ≠ none) :
    feedPrinter p (s.setPort p y) = s.setPort p y := by
  refine feedPrinter_kept (h.imp hprinter.trans ?_)
  rw [hslots]
  exact id

end

/-- Port `x` is `y` with its posted label sent where nothing stands before it at `c`, and `y` itself where it waits. -/
def LabelFed (c : Port) (k : SlotNo) (l : SlotLabel) (y x : Port) : Prop :=
  SentAtOnce c ∧ x = y.withSent k l ∨ (c.printer = .fault ∨ c.slots.outstanding ≠ none) ∧ x = y

theorem feedPrinter_fed {x y : Port} (hslots : y.slots = (c.withLabel k rest l).slots) (hprinter : y.printer = c.printer)
    (hreach : y.state = .up ∧ y.online = true) (hx : LabelFed c k l y x) (b : Bool) :
    feedPrinter p (s.setPort p { y with displayDue := b }) = s.setPort p { x with displayDue := b } := by
  obtain ⟨hsent, rfl⟩ | ⟨hwaits, rfl⟩ := hx
  · exact feedPrinter_sent (y := { y with displayDue := b }) hslots hprinter hsent ((reachable_iff _).mpr hreach)
  · exact feedPrinter_waits (y := { x with displayDue := b }) hslots hprinter hwaits

/-! ### A refused label (R61) -/

/-- The port of a refused ITEM job: back in ITEM, priced again. -/
def Port.refusedItem (sn : Snapshot) (m : MsgCode) (c : Port) : Port :=
  { c with
    sale := .item, record := none, held := some m
    snapshot := some { sn with live := some (livePrice sn c.weigh.latest) } }

section
variable (hsnap : c.snapshot = some sn)
include hsnap

theorem refuseItem_priced (m : MsgCode) (s : State) :
    reprice p (setSale p .item (some m) (modPort p (fun c => { c with record := none }) (s.setPort p c))) =
      s.setPort p { c.refusedItem sn m with displayDue := true } := by
  rw [modPort_setPort, setSale_message, reprice_setPort, hsnap]
  rfl

theorem refuseItem_kept (h : passedDrain s sn = none) (m : MsgCode) :
    refuseItem p m (s.setPort p c) = s.setPort p { c.refusedItem sn m with displayDue := true } := by
  have hnone : (({ c.refusedItem sn m with displayDue := true } : Port).snapshot.bind
      (passedDrain (s.setPort p { c.refusedItem sn m with displayDue := true }))) = none := h
  unfold refuseItem
  dsimp only
  rw [refuseItem_priced hsnap, State.port_setPort_self, hnone]

theorem refuseItem_passed {d : MsgCode} (h : passedDrain s sn = some d) (m : MsgCode) :
    refuseItem p m (s.setPort p c) = forcedCancel d p (s.setPort p { c.refusedItem sn m with displayDue := true }) := by
  have hsome : (({ c.refusedItem sn m with displayDue := true } : Port).snapshot.bind
      (passedDrain (s.setPort p { c.refusedItem sn m with displayDue := true }))) = some d := h
  unfold refuseItem
  dsimp only
  rw [refuseItem_priced hsnap, State.port_setPort_self, hsome]

end

theorem passedDrain_iff : passedDrain s sn = some m ↔
    (∃ d, s.commit = .waiting d ∧ d.expired = true ∧ sn.generation = (s.ret.generation + 65535) % 65536 ∧
      m = .priceChanged) ∨
    ((∀ d, s.commit ≠ .waiting d) ∧ (∃ n, s.dayState = .closing n true) ∧ m = .dayClosing) := by
  unfold passedDrain
  cases hcommit : s.commit with
  | waiting d =>
    by_cases hpassed : d.expired = true ∧ sn.generation = prevGen s.ret.generation
    · simp only [if_pos hpassed, Option.some.injEq]
      refine ⟨fun h => .inl ⟨d, rfl, hpassed.1, hpassed.2, h.symm⟩, fun h => ?_⟩
      obtain ⟨_, -, -, -, h⟩ | ⟨h, -⟩ := h
      · exact h.symm
      · exact absurd rfl (h d)
    · simp only [if_neg hpassed]
      refine iff_of_false nofun fun h => ?_
      obtain ⟨_, hd, hexpired, hgen, -⟩ | ⟨h, -⟩ := h
      · cases hd
        exact hpassed ⟨hexpired, hgen⟩
      · exact absurd rfl (h d)
  | _ =>
    rcases hday : s.dayState with _ | ⟨n, _ | _⟩
    · simp
    · simp
    · refine ⟨fun h => .inr ⟨nofun, ⟨n, rfl⟩, (Option.some.inj h).symm⟩, fun h => ?_⟩
      obtain ⟨_, hd, -⟩ | ⟨-, -, rfl⟩ := h
      · cases hd
      · rfl

theorem forcedCancel_setPort (hsnap : c.snapshot = some sn) (m : MsgCode) : forcedCancel m p (s.setPort p c) =
    toIdle p (some m) (reportClose [] sn.generation
      (State.setPort { s with ret := s.ret.cancelCounted p, commit := s.commit.cancelCounted m } p
        { closedPort s.ret.cal[p] c with displayDue := true })) := by
  rw [forcedCancel_eq (sn := sn) m (by rw [State.port_setPort_self]; exact hsnap), closedByCancel,
    State.port_setPort_self]
  exact congrArg (fun v => toIdle p (some m) (reportClose [] sn.generation v))
    (State.setPort_setPort { s with ret := s.ret.cancelCounted p, commit := s.commit.cancelCounted m } p c _)

/-- A drain that has passed the snapshot counts its cancel in the commit record alone. -/
theorem cancelCounted_passed (h : passedDrain s sn = some m) : s.commit.cancelCounted m = s.commit.forcedBy 1 := by
  obtain ⟨d, hd, -, -, rfl⟩ | ⟨hnone, -, rfl⟩ := passedDrain_iff.mp h
  · rw [hd]
    rfl
  · rw [CommitState.forcedBy_other hnone]
    cases hcommit : s.commit with
    | waiting d => exact absurd hcommit (hnone d)
    | _ => rfl

theorem freeComposer_kept (hqueue : s.composer.queue = []) (hs : ServiceSound s) :
    LineKept False (freeComposer s) ∧ (freeComposer s).composer.Empty := by
  have hempty : (freeComposer s).composer.Empty := ⟨hqueue, rfl⟩
  refine ⟨lineSound_of (composerSound_of_empty hempty) { hs with summaries := fun j n k w hlive => ?_ } False.elim, hempty⟩
  obtain hmem | ⟨d, hd, -⟩ := hlive
  · rw [hempty.1] at hmem
    cases hmem
  · cases hd

theorem freeComposer_base (hq : Quiet s) (r : Retained) (hgen : r.generation = s.ret.generation) :
    ClosingBase s { freeComposer s with ret := r } :=
  ⟨rfl, hgen, rfl, hq, rfl, rfl, fun _ => rfl⟩

section
variable (hq : Quiet s) (hcurrent : s.composer.current = some comp) (hdropped : comp.dropped = false)
  (hsource : comp.job.source = .item sr) (hstation : comp.job.station = p) (hs : ScaleOnline s p)
  (hsnap : (s.port p).snapshot = some sn)
include hq hcurrent hdropped hsource hstation hs hsnap

section
variable (himage : (imageOf comp (itemFieldText s.ret.operators sr s.ret.day.nextSerial false)
    (itemBarcode sr.item.plu sr.amounts.final)).2 = true)
include himage

omit hq hs hsnap in
theorem exec_itemOverflows : exec .compositionComplete s =
    .next (flush (dayTest (refuseItem p .labelFieldOverflow (freeComposer s)))) := by
  refine exec_composition hcurrent hdropped ?_
  subst hstation
  simp only [completeJob, hsource]
  exact if_pos himage

/-- A label that overflows brings its station back to ITEM. -/
theorem itemOverflows_refused (h : passedDrain s sn = none) : ShownAt s p
    ((freeComposer s).setPort p ((s.port p).refusedItem sn .labelFieldOverflow)) := by
  have hrefused : refuseItem p .labelFieldOverflow (freeComposer s) =
      (freeComposer s).setPort p { (s.port p).refusedItem sn .labelFieldOverflow with displayDue := true } := by
    conv_lhs => rw [← State.setPort_self (freeComposer s) p]
    exact refuseItem_kept (s := freeComposer s) hsnap h _
  have hexec := exec_itemOverflows hcurrent hdropped hsource hstation himage
  rw [hrefused, dayTest_busy (.inl ⟨p, by rw [State.port_setPort_self]; exact Option.some_ne_none _⟩)] at hexec
  exact shownAt_of (u := freeComposer s) hs (hq p) hq hexec

/-- A label that overflows once a drain has passed its snapshot is a forced cancel. -/
theorem itemOverflows_cancels (h : passedDrain s sn = some m) :
    ClosesInto s p (sn.generation = (s.ret.generation + 65535) % 65536) 1
      ((leftCalling (s.port p).leavesCalling p { freeComposer s with ret := s.ret.cancelCounted p }).setPort p
        ((closedPort s.ret.cal[p] ((s.port p).refusedItem sn .labelFieldOverflow)).idled (some m))) := by
  have hrefused : refuseItem p .labelFieldOverflow (freeComposer s) =
      toIdle p (some m) (reportClose [] sn.generation (State.setPort
        { freeComposer s with ret := s.ret.cancelCounted p, commit := s.commit.forcedBy 1 } p
        { closedPort s.ret.cal[p] ((s.port p).refusedItem sn .labelFieldOverflow) with displayDue := true })) := by
    have hpassed := refuseItem_passed (p := p) (s := freeComposer s) hsnap h .labelFieldOverflow
    have hcancelled := forcedCancel_setPort (p := p) (s := freeComposer s)
      (c := { (s.port p).refusedItem sn .labelFieldOverflow with displayDue := true }) rfl m
    rw [show (freeComposer s).setPort p (s.port p) = freeComposer s from State.setPort_self (freeComposer s) p] at hpassed
    rw [← cancelCounted_passed h]
    exact hpassed.trans hcancelled
  have hexec := exec_itemOverflows hcurrent hdropped hsource hstation himage
  rw [hrefused] at hexec
  refine closesInto_of (freeComposer_base hq (s.ret.cancelCounted p) rfl) hs (hq p) rfl rfl rfl (fun u => ?_) ?_ hexec ?_
  · exact toIdle_idled (c := { closedPort s.ret.cal[p] ((s.port p).refusedItem sn .labelFieldOverflow) with
      displayDue := true }) (.inr rfl) (some m) u
  · intro _ d hd
    obtain ⟨_, -, -, hgen, -⟩ | ⟨hnone, -⟩ := passedDrain_iff.mp h
    · exact hgen
    · exact absurd hd (hnone d)
  · intro hqueue hsound
    obtain ⟨hkept, hempty⟩ := freeComposer_kept hqueue hsound
    have hline := refuseItem_line hkept (hempty.unbound p) .labelFieldOverflow
    rw [hrefused] at hline
    exact hline

end

end

end Sys2Proof.Machine
end

section
/-! PROOFS. COMPOSITION_COMPLETE of an ITEM job whose label fits: posted and issued (R60, R111, R117 to R119). -/

namespace Sys2Proof.Machine

variable {s u b t : State} {p : CounterPort} {c x : Port} {m : MsgCode} {sn : Snapshot} {sr : SaleRecord} {k : SlotNo}
  {rest : List SlotNo} {l : SlotLabel} {comp : Composition}

/-- The store once a sale is counted under the next serial, as stale where it carries G - 1 (R63, R117). -/
def soldRet (sr : SaleRecord) (r : Retained) : Retained :=
  let sold := moveSale true sr { r with day := { r.day with nextSerial := r.day.nextSerial + 1 } }
  if sr.generation = (r.generation + 65535) % 65536 then countGrand { staleSales := 1 } sold else sold

/-- The orders once the sale's line has joined its own (R151). -/
def lineJoined (serial : Nat) (sr : SaleRecord) (orders : List Order) : List Order :=
  (sr.order.map (·.1)).elim orders fun n => orders.map fun o => if o.number = n then
    { o with lines := o.lines ++ [lineOf serial sr], total := o.total + sr.amounts.final, idle := 0 } else o

/-- The log with an entry more, over the oldest of 256 (R119). -/
@[irreducible] def entryPushed (e : LogEntry) (log : List LogEntry) : List LogEntry := (log ++ [e]).drop (log.length + 1 - 256)

/-- An issued item label's sale, counted, logged and joined to its order. -/
def itemCounted (p : CounterPort) (sr : SaleRecord) (s : State) : State :=
  { s with
    ret := soldRet sr s.ret
    log := entryPushed { serial := s.ret.day.nextSerial, sale := some sr, state := .posted, reprints := 0, station := p
                         order := sr.order.map (·.1), day := s.ret.day.number } s.log
    orders := lineJoined s.ret.day.nextSerial sr s.orders }

/-- The notice of an issued item label. -/
def itemNotice (p : CounterPort) (sr : SaleRecord) (serial : Nat) : NoticeBody :=
  .itemIssued serial p sr.item.plu sr.quantity sr.amounts.final (sr.order.map (·.1))

/-- An issued item label, before its station's snapshot closes. -/
def itemIssued (p : CounterPort) (sr : SaleRecord) (s : State) : State :=
  notify (itemNotice p sr s.ret.day.nextSerial) (itemCounted p sr s)

theorem countStale_eq {r : Retained}
    (hu : u.ret = moveSale true sr { r with day := { r.day with nextSerial := r.day.nextSerial + 1 } }) :
    countStale sr u = { u with ret := soldRet sr r } := by
  have hgen : u.ret.generation = r.generation := by rw [hu]; rfl
  unfold countStale soldRet
  dsimp only
  rw [hgen]
  by_cases hstale : sr.generation = prevGen r.generation
  · rw [if_pos hstale, if_pos (by exact hstale), ← hu]
    rfl
  · rw [if_neg hstale, if_neg (by exact hstale), ← hu]

theorem pushLog_eq (e : LogEntry) (s : State) :
    pushLog e s = { s with log := entryPushed e s.log } := by
  unfold entryPushed pushLog
  simp [Config.maxLog]

theorem issueItem_eq (p : CounterPort) (sr : SaleRecord) (s : State) : issueItem p sr s =
    toIdle p none (modPort p (fun c => { c with record := none }) (closeSnapshot p (itemIssued p sr s))) := by
  let entry : LogEntry := { serial := s.ret.day.nextSerial, sale := some sr, state := .posted, reprints := 0
                            station := p, order := sr.order.map (·.1), day := s.ret.day.number }
  have hcounted : countStale sr (modRet (moveSale true sr) (pushLog entry (takeSerial s))) =
      { s with ret := soldRet sr s.ret, log := entryPushed entry s.log } := by
    rw [pushLog_eq, countStale_eq (r := s.ret) rfl]
    rfl
  have hjoined : itemCounted p sr s = { ({ s with ret := soldRet sr s.ret, log := entryPushed entry s.log } : State) with
      orders := lineJoined s.ret.day.nextSerial sr s.orders } := rfl
  unfold issueItem itemIssued
  dsimp only
  rw [hcounted, hjoined, lineJoined, itemNotice]
  cases sr.order with
  | none => rfl
  | some o => rfl

theorem itemIssued_setPort (p : CounterPort) (sr : SaleRecord) (s : State) (c : Port) :
    itemIssued p sr (s.setPort p c) = (itemIssued p sr s).setPort p c :=
  notify_setPort (itemCounted p sr s) p c (itemNotice p sr s.ret.day.nextSerial)

theorem itemIssued_base (hq : Quiet s) (p : CounterPort) (sr : SaleRecord) :
    ClosingBase s (itemIssued p sr (freeComposer s)) := by
  have hgen : (soldRet sr s.ret).generation = s.ret.generation := by
    unfold soldRet
    dsimp only
    split <;> rfl
  refine ⟨notify_commit _ _, ?_, notify_dayState _ _, (notify_quiet_iff _ _).mpr hq, ?_, ?_, fun q => ?_⟩
  · rw [itemIssued, notify_ret]
    exact hgen
  · rw [itemIssued, notify_composer]
    rfl
  · rw [itemIssued, notify_composer]
    rfl
  · rw [itemIssued, notify_port]
    rfl

theorem itemIssued_cal (p q : CounterPort) (sr : SaleRecord) (s : State) :
    (itemIssued p sr s).ret.cal[q] = s.ret.cal[q] := by
  have hcal : (soldRet sr s.ret).cal = s.ret.cal := by
    unfold soldRet
    dsimp only
    split <;> rfl
  have hissued : (itemIssued p sr s).ret.cal = s.ret.cal := (congrArg Retained.cal (notify_ret _ _)).trans hcal
  rw [hissued]

/-- The port an issued label leaves, its label not yet sent. -/
def itemLeft (cal : Option CalRecord) (k : SlotNo) (rest : List SlotNo) (l : SlotLabel) (c : Port) : Port :=
  ({ closedPort cal (c.withLabel k rest l) with record := none } : Port).idled none

/-- The label an ITEM job composes. -/
def itemLabel (comp : Composition) (sr : SaleRecord) (r : Retained) : SlotLabel :=
  { cls := .item
    image := (imageOf comp (itemFieldText r.operators sr r.day.nextSerial false)
      (itemBarcode sr.item.plu sr.amounts.final)).1
    serial := r.day.nextSerial, day := r.day.number, sale := some sr }

/-- The end of an issue: the station out of PRINTING, and the printer fed. -/
def itemFinished (p : CounterPort) (u : State) : State :=
  feedPrinter p (toIdle p none (modPort p (fun c => { c with record := none }) u))

theorem itemLeft_slots (cal : Option CalRecord) (k : SlotNo) (rest : List SlotNo) (l : SlotLabel) (c : Port) :
    (itemLeft cal k rest l c).slots = (c.withLabel k rest l).slots := rfl

theorem itemLeft_printer (cal : Option CalRecord) (k : SlotNo) (rest : List SlotNo) (l : SlotLabel) (c : Port) :
    (itemLeft cal k rest l c).printer = c.printer := rfl

theorem itemLeft_link (cal : Option CalRecord) (k : SlotNo) (rest : List SlotNo) (l : SlotLabel) (c : Port) :
    (itemLeft cal k rest l c).state = c.state ∧ (itemLeft cal k rest l c).online = c.online := ⟨rfl, rfl⟩

theorem itemFinished_setPort {cal : Option CalRecord} (hsale : c.sale = .printing) (hreach : c.state = .up ∧ c.online = true)
    (hx : LabelFed c k l (itemLeft cal k rest l c) x) (u : State) :
    itemFinished p (u.setPort p { closedPort cal (c.withLabel k rest l) with displayDue := true }) =
      (leftCalling c.leavesCalling p u).setPort p { x with displayDue := true } := by
  have hidled : toIdle p none (modPort p (fun c => { c with record := none }) (u.setPort p
      { closedPort cal (c.withLabel k rest l) with displayDue := true })) =
      (leftCalling c.leavesCalling p u).setPort p { itemLeft cal k rest l c with displayDue := true } := by
    rw [modPort_setPort]
    exact toIdle_idled (c := { closedPort cal (c.withLabel k rest l) with record := none, displayDue := true })
      (.inl hsale) none u
  rw [itemFinished, hidled]
  exact feedPrinter_fed (itemLeft_slots cal k rest l c) (itemLeft_printer cal k rest l c)
    ((itemLeft_link cal k rest l c).imp_left (·.trans hreach.1) |>.imp_right (·.trans hreach.2)) hx true

section
variable (hq : Quiet s) (hcurrent : s.composer.current = some comp) (hdropped : comp.dropped = false)
  (hsource : comp.job.source = .item sr) (hstation : comp.job.station = p) (hs : ScaleOnline s p)
  (hsale : (s.port p).sale = .printing) (hsnap : (s.port p).snapshot = some sn)
  (himage : (imageOf comp (itemFieldText s.ret.operators sr s.ret.day.nextSerial false)
    (itemBarcode sr.item.plu sr.amounts.final)).2 = false)
  (hfree : (s.port p).slots.free = k :: rest)
include hcurrent hdropped hsource hstation hsnap himage hfree

omit hcurrent hdropped hsnap hfree in
theorem completeJob_issues : completeJob comp (freeComposer s) =
    postOutcome p (itemLabel comp sr s.ret) (issueItem p sr) (freeComposer s) := by
  subst hstation
  simp only [completeJob, hsource]
  refine if_neg ?_
  rw [show (freeComposer s).ret = s.ret from rfl, himage]
  exact Bool.false_ne_true

omit hcurrent hdropped hsource hstation hsnap himage in
theorem postOutcome_posts (l : SlotLabel) (after : State → State) : postOutcome p l after (freeComposer s) =
    .ok (feedPrinter p (after ((freeComposer s).setPort p ((s.port p).withLabel k rest l)))) := by
  have hpost := postLabel_setPort (s := freeComposer s) (p := p) (l := l) hfree
  rw [show (freeComposer s).setPort p (s.port p) = freeComposer s from State.setPort_self (freeComposer s) p] at hpost
  have hhead : ((freeComposer s).port p).slots.free = k :: rest := hfree
  unfold postOutcome
  rw [hhead]
  exact congrArg (fun u => Except.ok (feedPrinter p (after u))) hpost

omit hcurrent hdropped hsource hstation himage hfree in
theorem issueItem_posted (l : SlotLabel) :
    feedPrinter p (issueItem p sr ((freeComposer s).setPort p ((s.port p).withLabel k rest l))) =
      itemFinished p (reportClose [] sn.generation (State.setPort
        { itemIssued p sr (freeComposer s) with commit := s.commit.forcedBy 0 } p
        { closedPort s.ret.cal[p] ((s.port p).withLabel k rest l) with displayDue := true })) := by
  have hcommit : ({ itemIssued p sr (freeComposer s) with commit := s.commit.forcedBy 0 } : State) =
      itemIssued p sr (freeComposer s) := by
    rw [CommitState.forcedBy_zero, ← show (itemIssued p sr (freeComposer s)).commit = s.commit from notify_commit _ _]
  have hclose := closeSnapshotFor_setPort (s := itemIssued p sr (freeComposer s)) (p := p) (named := [])
    (c := (s.port p).withLabel k rest l) hsnap
  rw [itemIssued_cal] at hclose
  rw [issueItem_eq, itemIssued_setPort, hcommit]
  exact congrArg (itemFinished p) hclose

include hq hs hsale

/-- An issued label closes its station's snapshot. -/
theorem item_issues (hx : LabelFed (s.port p) k (itemLabel comp sr s.ret)
      (itemLeft s.ret.cal[p] k rest (itemLabel comp sr s.ret) (s.port p)) x) :
    ClosesInto s p (sn.generation = (s.ret.generation + 65535) % 65536) 0
      ((leftCalling (s.port p).leavesCalling p (itemIssued p sr (freeComposer s))).setPort p x) := by
  have hposts := postOutcome_posts (s := s) (p := p) hfree (itemLabel comp sr s.ret) (issueItem p sr)
  have hjob := (completeJob_issues (s := s) hsource hstation himage).trans hposts
  have hexec := exec_composition hcurrent hdropped hjob
  rw [issueItem_posted hsnap] at hexec hposts
  obtain ⟨hframe, hdue, hnone⟩ : (x.state = .up ∧ x.online = true ∧ x.kind = some .scale) ∧ x.displayDue = false ∧
      x.snapshot = none := by
    obtain ⟨-, rfl⟩ | ⟨-, rfl⟩ := hx <;> exact ⟨hs, hq p, rfl⟩
  refine closesInto_of (itemIssued_base hq p sr) hframe hdue hnone rfl rfl (fun u => ?_) (fun h => absurd rfl h) hexec ?_
  · exact itemFinished_setPort hsale ⟨hs.1, hs.2.1⟩ hx u
  · intro hqueue hsound
    obtain ⟨hkept, hempty⟩ := freeComposer_kept hqueue hsound
    refine postOutcome_line (fun v hv => ?_) hposts
    refine issueItem_line (hkept.congr (congrArg Floor.line hv)) ?_ fun _ _ _ h => h.elim
    rw [composer_of_line (congrArg Floor.line hv)]
    exact hempty.unbound p

end

end Sys2Proof.Machine
end

section
/-! PROOFS. COMPOSITION_COMPLETE of a SUMMARY and of a REPRINT job (R107, R117, R124, R159, R160). -/

namespace Sys2Proof.Machine

variable {s u b t : State} {p : CounterPort} {c x : Port} {m : MsgCode} {sr : SaleRecord} {k i : SlotNo}
  {rest : List SlotNo} {l : SlotLabel} {comp : Composition} {o : Order} {e : LogEntry} {n : Nat}
  {op : Option OperatorNo} {w : Stamp}

/-- The event ends with the station shown as `x`, all else as `b` has it. -/
def EndsShown (s : State) (p : CounterPort) (b : State) (x : Port) : Prop :=
  ∃ t, exec .compositionComplete s = .next t ∧ OnlyPort b t p ∧
    t.port p = { x with tx := x.tx ++ [.display (displayOf t p)] }

section
variable (hcurrent : s.composer.current = some comp) (hdropped : comp.dropped = false)
include hcurrent hdropped

theorem endsShown_of (hday : b.dayState = .trading) (hq : Quiet b)
    (hs : x.state = .up ∧ x.online = true ∧ x.kind = some .scale) (hdue : x.displayDue = false)
    (hjob : completeJob comp (freeComposer s) = .ok (b.setPort p { x with displayDue := true })) : EndsShown s p b x := by
  have hexec := exec_composition hcurrent hdropped hjob
  rw [dayTest_trading (by exact hday)] at hexec
  exact ⟨_, hexec, flush_shown hs hdue hq⟩

end

/-- The posted label is sent or waits, as what stands before it says. -/
theorem labelFed_of {y : Port} (hslots : y.slots = (c.withLabel k rest l).slots) (htx : y.tx = c.tx)
    (h : SentAtOnce c ∨ c.printer = .fault ∨ c.slots.outstanding ≠ none) :
    LabelFed c k l y { y with
      slots := { (c.withLabel k rest l).slots with outstanding := if SentAtOnce c then some k else c.slots.outstanding }
      tx := if SentAtOnce c then c.tx ++ labelFrames k l else c.tx } := by
  by_cases hsent : SentAtOnce c
  · rw [if_pos hsent, if_pos hsent, ← hslots, ← htx]
    exact .inl ⟨hsent, rfl⟩
  · rw [if_neg hsent, if_neg hsent, ← htx]
    refine .inr ⟨h.resolve_left hsent, ?_⟩
    rw [show ({ (c.withLabel k rest l).slots with outstanding := c.slots.outstanding } : SlotCtx) = y.slots from hslots.symm]

/-! ### Summaries -/

/-- The store and the lists once a summary is issued and its order closed SERVED. -/
def summaryCounted (p : CounterPort) (o : Order) (s : State) : State :=
  { s with
    ret := countGrand { ordersClosed := 1 } { s.ret with day := { s.ret.day with nextSerial := s.ret.day.nextSerial + 1 } }
    log := entryPushed { serial := s.ret.day.nextSerial, sale := none, state := .posted, reprints := 0, station := p
                         order := some o.number, day := s.ret.day.number } s.log
    orders := s.orders.filter fun x => x.number ≠ o.number
    tickets := { s.tickets with recs := s.tickets.recs.set o.ticket TicketRec.fresh } }

/-- An issued summary label, before its station is free. -/
def summaryIssued (p : CounterPort) (o : Order) (s : State) : State :=
  notify (.orderClosed .served o.number o.ticket (some p) (some s.ret.day.nextSerial) (some (liveLines o)) (some o.total))
    (notify (.summaryIssued s.ret.day.nextSerial p o.number o.total) (summaryCounted p o s))

theorem issueSummary_eq (p : CounterPort) (o : Order) (s : State) :
    issueSummary p o s = toIdle p none (setService p .free (summaryIssued p o s)) := by
  unfold issueSummary summaryIssued summaryCounted
  dsimp only
  rw [pushLog_eq]
  simp only [notify_eq]
  rfl

theorem summaryIssued_setPort (p : CounterPort) (o : Order) (s : State) (c : Port) :
    summaryIssued p o (s.setPort p c) = (summaryIssued p o s).setPort p c := by
  unfold summaryIssued
  simp only [notify_eq]
  rfl

theorem summaryIssued_quiet (hq : Quiet s) (p : CounterPort) (o : Order) : Quiet (summaryIssued p o s) :=
  (notify_quiet_iff _ _).mpr ((notify_quiet_iff _ _).mpr hq)

theorem summaryIssued_dayState (p : CounterPort) (o : Order) (s : State) :
    (summaryIssued p o s).dayState = s.dayState :=
  (notify_dayState _ _).trans (notify_dayState _ _)

/-- The port of a station whose summary is posted, the label not yet sent. -/
def Port.summaryLeft (i : SlotNo) (rest : List SlotNo) (l : SlotLabel) (c : Port) : Port :=
  { c.withLabel i rest l with service := .free, sale := .idle, held := none }

theorem issueSummary_posted (hswitch : c.calSwitch = .off) (hsale : c.sale = .printing) (i : SlotNo) (rest : List SlotNo)
    (l : SlotLabel) (s : State) : issueSummary p o (s.setPort p (c.withLabel i rest l)) =
      (summaryIssued p o s).setPort p { c.summaryLeft i rest l with displayDue := true } := by
  rw [issueSummary_eq, summaryIssued_setPort, setService_setPort]
  exact toIdle_off (c := { c.withLabel i rest l with service := .free }) (w := .printing) _ p hswitch hsale nofun

/-- The label a SUMMARY job composes. -/
def summaryLabel (comp : Composition) (p : CounterPort) (op : Option OperatorNo) (w : Stamp) (o : Order) (r : Retained) :
    SlotLabel :=
  { cls := .summary
    image := (imageOf comp (summaryFieldText r.operators o p op w r.day.nextSerial) (summaryBarcode o.number o.total)).1
    serial := r.day.nextSerial, day := r.day.number, sale := none }

section
variable (hq : Quiet s) (hcurrent : s.composer.current = some comp) (hdropped : comp.dropped = false)
  (hsource : comp.job.source = .summary n op w) (hstation : comp.job.station = p) (hs : ScaleOnline s p)
  (hday : s.dayState = .trading) (hswitch : (s.port p).calSwitch = .off) (horder : orderOf s.orders n = some o)
include hq hcurrent hdropped hsource hstation hs hday hswitch horder

/-- A summary that overflows leaves its order OPEN. -/
theorem summary_overflows
    (himage : (imageOf comp (summaryFieldText s.ret.operators o p op w s.ret.day.nextSerial)
      (summaryBarcode o.number o.total)).2 = true) :
    EndsShown s p
      { freeComposer s with orders := s.orders.map fun o => if o.number = n then { o with summaryInFlight := false } else o }
      { s.port p with sale := .idle, held := some .labelFieldOverflow } := by
  have hjob : completeJob comp (freeComposer s) = .ok (refuseSummary p n .labelFieldOverflow (freeComposer s)) := by
    subst hstation
    have horder' : orderOf (freeComposer s).orders n = some o := horder
    simp only [completeJob, hsource, horder']
    exact if_pos himage
  rw [← State.setPort_self (freeComposer s) p] at hjob
  have hrefused := refuseSummary_off (s := freeComposer s) (p := p) (c := s.port p) hswitch n .labelFieldOverflow
  rw [show (freeComposer s).port p = s.port p from rfl, hrefused] at hjob
  rw [show (freeComposer s).setPort p (s.port p) = freeComposer s from State.setPort_self (freeComposer s) p] at hjob
  exact endsShown_of hcurrent hdropped hday hq hs (hq p) hjob

/-- A summary that fits closes its order SERVED. -/
theorem summary_issues (hsale : (s.port p).sale = .printing)
    (himage : (imageOf comp (summaryFieldText s.ret.operators o p op w s.ret.day.nextSerial)
      (summaryBarcode o.number o.total)).2 = false)
    (hfree : (s.port p).slots.free = i :: rest)
    (hx : LabelFed (s.port p) i (summaryLabel comp p op w o s.ret)
      ((s.port p).summaryLeft i rest (summaryLabel comp p op w o s.ret)) x) :
    EndsShown s p (summaryIssued p o (freeComposer s)) x := by
  have hjob : completeJob comp (freeComposer s) =
      postOutcome p (summaryLabel comp p op w o s.ret) (issueSummary p o) (freeComposer s) := by
    subst hstation
    have horder' : orderOf (freeComposer s).orders n = some o := horder
    simp only [completeJob, hsource, horder']
    refine if_neg ?_
    rw [show (freeComposer s).ret = s.ret from rfl, himage]
    exact Bool.false_ne_true
  rw [postOutcome_posts hfree, issueSummary_posted hswitch hsale,
    feedPrinter_fed (y := (s.port p).summaryLeft i rest (summaryLabel comp p op w o s.ret)) rfl rfl ⟨hs.1, hs.2.1⟩ hx] at hjob
  obtain ⟨hframe, hdue⟩ : (x.state = .up ∧ x.online = true ∧ x.kind = some .scale) ∧ x.displayDue = false := by
    obtain ⟨-, rfl⟩ | ⟨-, rfl⟩ := hx <;> exact ⟨hs, hq p⟩
  refine endsShown_of hcurrent hdropped ((summaryIssued_dayState p o _).trans hday) (summaryIssued_quiet (by exact hq) p o) hframe hdue hjob

end

/-! ### Reprints -/

/-- The store and the log once a reprint is posted. -/
def reprintCounted (p : CounterPort) (n : Nat) (s : State) : State :=
  { s with
    log := s.log.map fun e => if e.serial = n then { e with reprints := e.reprints + 1 } else e
    ret := countGrand { reprints := 1 } (countStation p { reprints := 1 } s.ret) }

theorem postReprint_clear (hheld : c.held = none) (n : Nat) (s : State) :
    postReprint p n (s.setPort p c) = (reprintCounted p n s).setPort p c := by
  unfold postReprint
  rw [State.port_setPort_self, hheld]
  rfl

theorem postReprint_held (hheld : c.held ≠ none) (n : Nat) (s : State) : postReprint p n (s.setPort p c) =
    (reprintCounted p n s).setPort p { c with held := none, displayDue := true } := by
  have hsome : c.held.isSome = true := Option.isSome_iff_ne_none.mpr hheld
  unfold postReprint
  rw [State.port_setPort_self, hsome]
  exact clearHeld_setPort (reprintCounted p n s) p c

/-- The label a REPRINT job composes. -/
def reprintLabel (comp : Composition) (sr : SaleRecord) (n : Nat) (r : Retained) : SlotLabel :=
  { cls := .reprint
    image := (imageOf comp (itemFieldText r.operators sr n true) (itemBarcode sr.item.plu sr.amounts.final)).1
    serial := n, day := r.day.number, sale := none }

section
variable (hq : Quiet s) (hcurrent : s.composer.current = some comp) (hdropped : comp.dropped = false)
  (hsource : comp.job.source = .reprint n) (hstation : comp.job.station = p) (hs : ScaleOnline s p)
  (hday : s.dayState = .trading)
include hq hcurrent hdropped hsource hstation hs hday

omit hsource hstation in
theorem completedReprint_refused (hjob : completeJob comp (freeComposer s) = .ok (holdMessage p m (freeComposer s))) :
    EndsShown s p (freeComposer s) { s.port p with held := some m } :=
  endsShown_of hcurrent hdropped hday hq hs (hq p) hjob

/-- The entry is gone or no longer PRINTED. -/
theorem reprint_notVoidable (h : ∀ e, logEntry s n = some e → e.state ≠ .printed) :
    EndsShown s p (freeComposer s) { s.port p with held := some .notVoidable } := by
  have hnone : ((logEntry s n).filter fun e => decide (e.state = .printed)) = none := by
    refine Option.filter_eq_none_iff.mpr fun e he => ?_
    simpa using h e he
  refine completedReprint_refused hq hcurrent hdropped hs hday ?_
  subst hstation
  have hlog : logEntry (freeComposer s) n = logEntry s n := rfl
  simp only [completeJob, hsource, hlog, hnone]
  rfl

section
variable (he : logEntry s n = some e) (hprinted : e.state = .printed) (hsale : e.sale = some sr)
include he hprinted hsale

omit hq hcurrent hdropped hs hday in
theorem completeJob_reprint : completeJob comp (freeComposer s) =
    if (imageOf comp (itemFieldText s.ret.operators sr n true) (itemBarcode sr.item.plu sr.amounts.final)).2 then
      .ok (holdMessage p .labelFieldOverflow (freeComposer s))
    else postOutcome p (reprintLabel comp sr n s.ret) (postReprint p n) (freeComposer s) := by
  have hentry : (((logEntry s n).filter fun e => decide (e.state = .printed)).bind (·.sale)) = some sr := by
    rw [he, Option.filter_some_pos (by simpa using hprinted)]
    exact hsale
  subst hstation
  have hlog : logEntry (freeComposer s) n = logEntry s n := rfl
  simp only [completeJob, hsource, hlog, hentry]
  rfl

theorem reprint_overflows
    (himage : (imageOf comp (itemFieldText s.ret.operators sr n true) (itemBarcode sr.item.plu sr.amounts.final)).2 = true) :
    EndsShown s p (freeComposer s) { s.port p with held := some .labelFieldOverflow } :=
  completedReprint_refused hq hcurrent hdropped hs hday
    ((completeJob_reprint hsource hstation he hprinted hsale).trans (if_pos himage))

section
variable
  (himage : (imageOf comp (itemFieldText s.ret.operators sr n true) (itemBarcode sr.item.plu sr.amounts.final)).2 = false)
  (hfree : (s.port p).slots.free = k :: rest)
include himage hfree

omit hq hcurrent hdropped hs hday in
theorem completeJob_posts : completeJob comp (freeComposer s) = .ok (feedPrinter p (postReprint p n
    ((freeComposer s).setPort p ((s.port p).withLabel k rest (reprintLabel comp sr n s.ret))))) :=
  (completeJob_reprint hsource hstation he hprinted hsale).trans
    ((if_neg (by rw [himage]; exact Bool.false_ne_true)).trans (postOutcome_posts hfree _ _))

/-- A posted reprint shows its station nothing where no message is held. -/
theorem reprint_posts (hheld : (s.port p).held = none)
    (hx : LabelFed (s.port p) k (reprintLabel comp sr n s.ret)
      ((s.port p).withLabel k rest (reprintLabel comp sr n s.ret)) x) :
    exec .compositionComplete s = .next ((reprintCounted p n (freeComposer s)).setPort p x) := by
  have hjob := completeJob_posts hsource hstation he hprinted hsale himage hfree
  have hfed := feedPrinter_fed (s := reprintCounted p n (freeComposer s)) (p := p)
    (y := (s.port p).withLabel k rest (reprintLabel comp sr n s.ret)) rfl rfl ⟨hs.1, hs.2.1⟩ hx (s.port p).displayDue
  have hxdue : x.displayDue = (s.port p).displayDue := by
    obtain ⟨-, rfl⟩ | ⟨-, rfl⟩ := hx <;> rfl
  rw [postReprint_clear (c := (s.port p).withLabel k rest _) hheld] at hjob
  have hexec := exec_composition hcurrent hdropped (hjob.trans (congrArg Except.ok hfed))
  rw [← hxdue, dayTest_trading (by exact hday), flush_of_quiet (Quiet.setPort (by exact hq) (hxdue.trans (hq p)))] at hexec
  exact hexec

/-- A posted reprint clears a held message. -/
theorem reprint_posts_held (hheld : (s.port p).held ≠ none)
    (hx : LabelFed (s.port p) k (reprintLabel comp sr n s.ret)
      { (s.port p).withLabel k rest (reprintLabel comp sr n s.ret) with held := none } x) :
    EndsShown s p (reprintCounted p n (freeComposer s)) x := by
  have hjob := completeJob_posts hsource hstation he hprinted hsale himage hfree
  rw [postReprint_held (c := (s.port p).withLabel k rest _) hheld,
    feedPrinter_fed (y := { (s.port p).withLabel k rest (reprintLabel comp sr n s.ret) with held := none })
      rfl rfl ⟨hs.1, hs.2.1⟩ hx] at hjob
  obtain ⟨hframe, hdue⟩ : (x.state = .up ∧ x.online = true ∧ x.kind = some .scale) ∧ x.displayDue = false := by
    obtain ⟨-, rfl⟩ | ⟨-, rfl⟩ := hx <;> exact ⟨hs, hq p⟩
  exact endsShown_of hcurrent hdropped hday hq hframe hdue hjob

end

end

end

end Sys2Proof.Machine
end

section
/-! PROOFS. COMPOSITION_COMPLETE: what becomes of every composition (R107). -/

namespace Sys2Proof.Machine

variable {s : State} {comp : Composition}

/-- A dropped composition is discarded. -/
theorem exec_composition_dropped (hq : Quiet s) (hcurrent : s.composer.current = some comp) (hdropped : comp.dropped = true)
    (hday : s.dayState = .trading) : exec .compositionComplete s = .next (freeComposer s) := by
  show execCompositionComplete s = _
  rw [execCompositionComplete, hcurrent]
  simp only [hdropped, if_true]
  rw [dayTest_trading (by exact hday), flush_of_quiet (by exact hq)]

/-- Settles O53: an item label, a summary and a reprint each by whether its label fits, and the item label that does
not by whether a drain has passed its snapshot. -/
theorem compositionIssuesOrRefuses : Obligations.CompositionIssuesOrRefuses := by
  unfold Obligations.CompositionIssuesOrRefuses
  intro s comp hq hcurrent p serial day idle shown sent posted feeds logged
  refine ⟨fun hdropped hday => exec_composition_dropped hq hcurrent hdropped hday, ?_, ?_, ?_⟩
  · intro sr sn hdropped hsource hs hsale hsnap stale answers asked left leaves closes passed image
    refine ⟨fun himage => ⟨fun hno => ?_, fun m hm => ?_⟩, fun k rest himage hfree hfeeds => ?_⟩
    · refine itemOverflows_refused hq hcurrent hdropped hsource rfl hs hsnap himage ?_
      exact Option.eq_none_iff_forall_ne_some.mpr fun m hm => hno m (passedDrain_iff.mp hm)
    · exact itemOverflows_cancels hq hcurrent hdropped hsource rfl hs hsnap himage (passedDrain_iff.mpr hm)
    · have hfed := labelFed_of (k := k) (rest := rest) (l := itemLabel comp sr s.ret) (c := s.port p)
        (y := itemLeft s.ret.cal[p] k rest (itemLabel comp sr s.ret) (s.port p)) rfl rfl hfeeds
      have hissues := item_issues hq hcurrent hdropped hsource rfl hs hsale hsnap himage hfree hfed
      refine cast (congrArg (fun v => closes 0 ((left (notify (itemNotice p sr serial) v)).setPort p
        (posted (itemLabel comp sr s.ret) k rest (leaves none)))) ?_) hissues
      unfold itemCounted lineJoined entryPushed
      cases sr.order <;> rfl
  · intro n op w o hdropped hsource hs hday hsale hswitch horder image
    obtain ⟨-, rfl⟩ := orderOf_some horder
    refine ⟨fun himage => summary_overflows hq hcurrent hdropped hsource rfl hs hday hswitch horder himage,
      fun i rest himage hfree hfeeds => ?_⟩
    have hfed := labelFed_of (k := i) (rest := rest) (l := summaryLabel comp p op w o s.ret) (c := s.port p)
      (y := (s.port p).summaryLeft i rest (summaryLabel comp p op w o s.ret)) rfl rfl hfeeds
    have hissues := summary_issues hq hcurrent hdropped hsource rfl hs hday hswitch horder hsale himage hfree hfed
    unfold summaryIssued summaryCounted entryPushed at hissues
    exact hissues
  · intro n hdropped hsource hs hday
    refine ⟨fun hgone => reprint_notVoidable hq hcurrent hdropped hsource rfl hs hday hgone, ?_⟩
    intro e sr he hprinted hsale image
    refine ⟨fun himage => reprint_overflows hq hcurrent hdropped hsource rfl hs hday he hprinted hsale himage,
      fun k rest himage hfree hfeeds => ⟨fun hheld => ?_, fun hheld => ?_⟩⟩
    · have hfed := labelFed_of (k := k) (rest := rest) (l := reprintLabel comp sr n s.ret) (c := s.port p)
        (y := (s.port p).withLabel k rest (reprintLabel comp sr n s.ret)) rfl rfl hfeeds
      exact reprint_posts hq hcurrent hdropped hsource rfl hs hday he hprinted hsale himage hfree hheld hfed
    · have hfed := labelFed_of (k := k) (rest := rest) (l := reprintLabel comp sr n s.ret) (c := s.port p)
        (y := { (s.port p).withLabel k rest (reprintLabel comp sr n s.ret) with held := none }) rfl rfl hfeeds
      exact reprint_posts_held hq hcurrent hdropped hsource rfl hs hday he hprinted hsale himage hfree hheld hfed

end Sys2Proof.Machine
end

section
/-! PROOFS. Reading a payload: what each form of R181 takes from the front, and the requests of R187. -/

namespace Sys2Proof.Machine

variable {α β : Type} {r : Reader α} {f : α → Reader β} {l rest : List Byte} {x : α} {k m n tag : Nat} {b : Byte}
  {values : List α}

/-! ### Readers -/

theorem reader_bind_some {l' : List Byte} (h : r l = some (x, l')) : (r >>= f) l = f x l' := by
  show ((r l).bind fun y => f y.1 y.2) = _
  rw [h]
  rfl

theorem reader_bind_none (h : r l = none) : (r >>= f) l = none := by
  show ((r l).bind fun y => f y.1 y.2) = _
  rw [h]
  rfl

theorem readWhole_eq_some (h : r l = some (x, [])) : readWhole r l = some x := by
  unfold readWhole
  rw [h]

theorem readWhole_eq_none (h : r l = none) : readWhole r l = none := by
  unfold readWhole
  rw [h]

/-- The reader takes `k` bytes wherever it does not fail. -/
def ReadsExactly (r : Reader α) (k : Nat) : Prop := ∀ l x l', r l = some (x, l') → l.length = l'.length + k

theorem readsExactly_pure (x : α) : ReadsExactly (pure x) 0 := by
  intro l y l' h
  cases h
  rfl

theorem readsExactly_failure (k : Nat) : ReadsExactly (failure : Reader α) k := nofun

theorem readsExactly_bind (hr : ReadsExactly r k) (hf : ∀ x, ReadsExactly (f x) m) : ReadsExactly (r >>= f) (k + m) := by
  intro l y l' h
  cases hfirst : r l with
  | none => exact nomatch (reader_bind_none (f := f) hfirst).symm.trans h
  | some z =>
    have hlater := hf z.1 _ _ _ ((reader_bind_some (f := f) hfirst).symm.trans h)
    have hlength := hr _ _ _ hfirst
    omega

theorem readsExactly_readByte : ReadsExactly readByte 1 := by
  intro l x l' h
  cases l with
  | nil => exact nomatch h
  | cons b rest =>
    cases h
    rfl

theorem readsExactly_readJudged (values : List α) : ReadsExactly (readJudged values) 1 :=
  readsExactly_bind readsExactly_readByte fun _ => readsExactly_pure _

theorem readsExactly_readEnum (values : List α) : ReadsExactly (readEnum values) 1 := by
  refine readsExactly_bind (m := 0) (readsExactly_readJudged values) fun x => ?_
  cases x with
  | none => exact readsExactly_failure 0
  | some y => exact readsExactly_pure y

theorem readsExactly_readCode : ReadsExactly readCode 1 :=
  readsExactly_bind readsExactly_readByte fun _ => readsExactly_pure _

theorem readsExactly_readList (hr : ReadsExactly r 1) (n : Nat) : ReadsExactly (readList r n) n := by
  induction n with
  | zero => exact readsExactly_pure []
  | succ n ih =>
    have hreads := readsExactly_bind hr fun x => readsExactly_bind ih fun xs => readsExactly_pure (x :: xs)
    rw [Nat.add_zero, Nat.add_comm] at hreads
    exact hreads

theorem readWhole_of_length (hr : ReadsExactly r k) (hlength : l.length ≠ k) : readWhole r l = none := by
  unfold readWhole
  split
  · next x h => exact absurd ((hr _ _ _ h).trans (Nat.zero_add k)) hlength
  · rfl

/-! ### Numbers and dates -/

theorem readNumFrom_append (l rest : List Byte) (m : Nat) :
    readNumFrom m l.length (l ++ rest) = some (l.foldl (fun m b => 256 * m + b.toNat) m, rest) := by
  induction l generalizing m with
  | nil => rfl
  | cons b l ih => exact ih (256 * m + b.toNat)

theorem beBytes_length (k n : Nat) : (beBytes k n).length = k := by
  induction k generalizing n with
  | zero => rfl
  | succ k ih => rw [beBytes, List.length_append, ih, List.length_singleton]

theorem foldl_beBytes (k n : Nat) : (beBytes k n).foldl (fun m b => 256 * m + b.toNat) 0 = n % 256 ^ k := by
  induction k generalizing n with
  | zero => exact (Nat.mod_one n).symm
  | succ k ih =>
    have hsplit : n % (256 * 256 ^ k) = n % 256 + 256 * (n / 256 % 256 ^ k) := Nat.mod_mul
    rw [beBytes, List.foldl_append, ih, Nat.pow_succ', hsplit, Nat.add_comm]
    rfl

/-- A number is read back from its form. -/
theorem readNum_beBytes (h : n < 256 ^ k) (rest : List Byte) : readNum k (beBytes k n ++ rest) = some (n, rest) := by
  have hread := readNumFrom_append (beBytes k n) rest 0
  rw [beBytes_length, foldl_beBytes, Nat.mod_eq_of_lt h] at hread
  exact hread

theorem readByte_beBytes (h : n < 256) (rest : List Byte) : readByte (beBytes 1 n ++ rest) = some (n, rest) := by
  have hbyte : (BitVec.ofNat 8 n).toNat = n := Nat.mod_eq_of_lt h
  show some ((BitVec.ofNat 8 n).toNat, rest) = _
  rw [hbyte]

/-- A date is read back from its form. -/
theorem readDate_beDate {d : Date} (hyear : d.year < 65536) (hmonth : d.month < 256) (hday : d.day < 256)
    (rest : List Byte) : readDate (beDate d ++ rest) = some (d, rest) := by
  rw [beDate, List.append_assoc, List.append_assoc]
  exact (reader_bind_some (readNum_beBytes hyear _)).trans
    ((reader_bind_some (readByte_beBytes hmonth _)).trans (reader_bind_some (readByte_beBytes hday rest)))

/-! ### Payloads -/

theorem payloadOf_short (h : rest.length < 2) : payloadOf (b :: rest) = [] := by
  rw [payloadOf, List.length_cons, show rest.length + 1 - 2 = 0 by omega, List.take_zero]

theorem payloadOf_cons (h : 2 ≤ rest.length) : payloadOf (b :: rest) = b :: payloadOf rest := by
  rw [payloadOf, List.length_cons, show rest.length + 1 - 2 = rest.length - 2 + 1 by omega, List.take_succ_cons]
  rfl

theorem payloadOf_length (rest : List Byte) : (payloadOf rest).length = rest.length - 2 := by
  rw [payloadOf, List.length_take]
  omega

/-! ### Requests (R187) -/

theorem readRequestCode_unknown (h : n = 0 ∨ 20 < n) (tag : Nat) : readRequestCode tag n = failure := by
  unfold readRequestCode
  split
  case h_21 => rfl
  all_goals omega

theorem readsExactly_bare (h : n ∈ [1, 4, 10, 12, 17]) (tag : Nat) : ReadsExactly (readRequestCode tag n) 0 := by
  simp only [List.mem_cons, List.not_mem_nil, or_false] at h
  obtain rfl | rfl | rfl | rfl | rfl := h <;> exact readsExactly_pure _

theorem readsExactly_translateWrite (tag : Nat) : ReadsExactly (readRequestCode tag 14) 130 :=
  readsExactly_bind (k := 1) (m := 129) readsExactly_readByte fun _ =>
    readsExactly_bind (k := 1) (m := 128) (readsExactly_readEnum _) fun _ =>
      readsExactly_bind (k := 128) (m := 0) (readsExactly_readList readsExactly_readCode 128) fun _ => readsExactly_pure _

/-- A block of no entries or of more than 32 is no PLU_STAGE. -/
theorem readStage_unbounded {count : Byte} (h : count = 0 ∨ 32 < count.toNat) (l : List Byte) :
    readRequestCode tag 9 (count :: l) = none := by
  refine reader_bind_none (reader_bind_some (x := count.toNat) (l' := l) rfl |>.trans ?_)
  rw [if_neg]
  · rfl
  · rintro ⟨hlow, hhigh⟩
    obtain rfl | h := h
    · exact absurd hlow (by decide)
    · exact absurd hhigh (Nat.not_le.mpr h)

/-- A frame is malformed when its header is no request's. -/
theorem malformed_header {len port kind tag : Byte} (h : port ≠ 0 ∨ kind ≠ 12 ∨ tag = 0) (rest : List Byte) :
    malformedRequest (len :: port :: kind :: tag :: rest) = true := by
  rw [malformedRequest, requestOfFrame, if_neg]
  · rfl
  · rintro ⟨hkind, hport, htag⟩
    obtain h | h | rfl := h
    · exact h (BitVec.eq_of_toNat_eq hport)
    · exact h (BitVec.eq_of_toNat_eq hkind)
    · exact htag rfl

/-- A frame is malformed when its payload is empty or its data fits no form of its code. -/
theorem malformed_payload {len port kind tag code : Byte}
    (h : 2 ≤ rest.length → readWhole (readRequestCode tag.toNat code.toNat) (payloadOf rest) = none) :
    malformedRequest (len :: port :: kind :: tag :: code :: rest) = true := by
  have hnone : readWhole (readRequest tag.toNat) (payloadOf (code :: rest)) = none := by
    obtain hshort | hlong := Nat.lt_or_ge rest.length 2
    · rw [payloadOf_short hshort]
      rfl
    · rw [payloadOf_cons hlong]
      exact h hlong
  rw [malformedRequest, requestOfFrame, hnone, ite_self]
  rfl

theorem malformed_stage {len port kind tag count : Byte} (h : count = 0 ∨ 32 < count.toNat) (rest : List Byte) :
    malformedRequest (len :: port :: kind :: tag :: 9 :: count :: rest) = true := by
  refine malformed_payload fun _ => readWhole_eq_none ?_
  obtain hshort | hlong := Nat.lt_or_ge rest.length 2
  · rw [payloadOf_short hshort]
    rfl
  · rw [payloadOf_cons hlong]
    exact readStage_unbounded h _

/-- The payload of a frame on the uplink is read back. -/
theorem requestOfFrame_frameBytes (hlow : 1 ≤ tag) (hhigh : tag ≤ 255) (payload : List Byte) :
    requestOfFrame (frameBytes 0 12 tag payload) = readWhole (readRequest tag) payload := by
  have htag : (BitVec.ofNat 8 tag).toNat = tag := Nat.mod_eq_of_lt (by omega)
  have hpayload (check : List Byte) (h : check.length = 2) : payloadOf (payload ++ check) = payload := by
    rw [payloadOf, List.length_append, h, Nat.add_sub_cancel, List.take_left]
  unfold frameBytes
  dsimp only [List.cons_append]
  rw [requestOfFrame, htag, hpayload _ rfl]
  exact if_pos ⟨rfl, rfl, by omega⟩

theorem read_status (hlow : 1 ≤ tag) (hhigh : tag ≤ 255) :
    requestOfFrame (frameBytes 0 12 tag [1]) = some (.status tag) := by
  rw [requestOfFrame_frameBytes hlow hhigh]
  rfl

section
variable {c d : Nat} (hlow : 1 ≤ tag) (hhigh : tag ≤ 255) (hc : c < 16777216)
include hlow hhigh hc

theorem read_pluRead (hd : d < 16777216) :
    requestOfFrame (frameBytes 0 12 tag (8 :: (beBytes 3 c ++ beBytes 3 d))) = some (.pluRead tag c d) := by
  rw [requestOfFrame_frameBytes hlow hhigh]
  refine readWhole_eq_some ?_
  show readRequestCode tag 8 (beBytes 3 c ++ beBytes 3 d) = _
  refine (reader_bind_some (readNum_beBytes hc _)).trans ?_
  rw [← List.append_nil (beBytes 3 d)]
  exact reader_bind_some (readNum_beBytes hd [])

theorem read_timeSet {d : Date} (hyear : d.year < 65536) (hmonth : d.month < 256) (hday : d.day < 256) :
    requestOfFrame (frameBytes 0 12 tag (20 :: (beDate d ++ beBytes 3 c))) = some (.timeSet tag d c) := by
  rw [requestOfFrame_frameBytes hlow hhigh]
  refine readWhole_eq_some ?_
  show readRequestCode tag 20 (beDate d ++ beBytes 3 c) = _
  refine (reader_bind_some (readDate_beDate hyear hmonth hday _)).trans ?_
  rw [← List.append_nil (beBytes 3 c)]
  exact reader_bind_some (readNum_beBytes hc [])

end

end Sys2Proof.Machine
end

section
/-! PROOFS. Frames thrown away: the receiver's checks, the kind checks of the counter ports and the malformed requests
of the uplink (R182, R184, R186, R187). -/

namespace Sys2Proof.Machine

variable {α : Type} {s : State} {p : CounterPort} {frame l rest : List Byte} {x y b : Byte} {values : List α} {n : Nat}
  {port : LinkPort} {ch : RxChar} {chars : List RxChar} {taking full unread : Bool}

/-! ### The receiver's checks (R182) -/

theorem receive_framing (h : ch.byte.toNat < 6 ∨ (ch :: chars).length < ch.byte.toNat ∨
    ∃ x ∈ (ch :: chars).take ch.byte.toNat, x.stopOk = false) (full : Bool) : receive (ch :: chars) full = .framing := by
  unfold receive
  dsimp only
  refine if_pos (h.imp_right (Or.imp (fun hshort => ?_) fun hstop => ?_))
  · exact Nat.lt_of_le_of_lt (List.length_take_le' _ _) hshort
  · simpa using hstop

section
variable (hlow : 6 ≤ ch.byte.toNat) (hlength : ch.byte.toNat ≤ (ch :: chars).length)
  (hstop : ∀ x ∈ (ch :: chars).take ch.byte.toNat, x.stopOk = true)
include hlow hlength hstop

/-- A frame whose characters all came is judged by what waits and by its check. -/
theorem receive_whole (full : Bool) : receive (ch :: chars) full =
    if full then .overrun
    else if checkHolds (((ch :: chars).take ch.byte.toNat).map (·.byte)) then .good else .check := by
  unfold receive
  dsimp only
  refine if_neg ?_
  rintro (hshort | hshort | hbad)
  · omega
  · rw [List.length_take_of_le hlength] at hshort
    omega
  · obtain ⟨x, hx, hbad⟩ := List.any_eq_true.mp hbad
    rw [hstop x hx] at hbad
    exact absurd hbad (by decide)

end

/-! ### FRAME_DISCARD (R182, R184) -/

theorem counterPortOf_uplink (h : port.val = 0) : counterPortOf port = none := by
  unfold counterPortOf
  rw [h]
  rfl

theorem counterPortOf_counter (h : port.val = p.number) : counterPortOf port = some p := by
  have hval : port.val - 1 = p.val := by rw [h]; exact Nat.add_sub_cancel _ _
  unfold counterPortOf
  rw [dif_pos (by rw [hval]; exact p.isLt), if_pos (by rw [h]; exact Nat.le_add_left 1 _)]
  exact congrArg some (Fin.ext hval)

/-- FRAME_DISCARD changes the error counts of its port by `f`. -/
def DiscardAdds (port : LinkPort) (chars : List RxChar) (taking : Bool) (s : State) (f : ErrorCounts → ErrorCounts) : Prop :=
  (port.val = 0 → s.uplink.resetPending = false → exec (.frameDiscard port chars taking) s =
    .next { s with uplink := { s.uplink with errors := f s.uplink.errors } }) ∧
  ∀ p : CounterPort, port.val = p.number → exec (.frameDiscard port chars taking) s =
    .next (s.setPort p { s.port p with errors := f (s.port p).errors })

/-- The receiver is full: on the uplink a request waits, on a counter port a frame is being taken. -/
def receiverFull (port : LinkPort) (taking : Bool) (s : State) : Bool :=
  if port.val = 0 then s.uplink.waiting.isSome else taking

theorem discardAdds_of {f : ErrorCounts → ErrorCounts}
    (h : ∀ e : ErrorCounts, e.take (receive chars (receiverFull port taking s)) = f e) :
    DiscardAdds port chars taking s f := by
  refine ⟨fun hport hopen => ?_, fun p hport => ?_⟩
  · have hfull : receiverFull port taking s = s.uplink.waiting.isSome := if_pos hport
    show execFrameDiscard port chars taking s = _
    unfold execFrameDiscard discardFrame
    rw [counterPortOf_uplink hport, ← h, hfull, hopen]
    rfl
  · have hfull : receiverFull port taking s = taking := if_neg (by rw [hport]; exact Nat.succ_ne_zero _)
    show execFrameDiscard port chars taking s = _
    unfold execFrameDiscard discardFrame
    rw [counterPortOf_counter hport, ← h, hfull]
    rfl

theorem frameDiscard_pending (hport : port.val = 0) (h : s.uplink.resetPending = true) :
    exec (.frameDiscard port chars taking) s = .next s := by
  show execFrameDiscard port chars taking s = _
  unfold execFrameDiscard discardFrame
  rw [counterPortOf_uplink hport, h]
  rfl

/-! ### Good frames -/

theorem goodFrame_length (h : goodFrame frame = true) : frame.length = (frame.headD 0).toNat ∧ 6 ≤ frame.length := by
  obtain ⟨hgood, hlength⟩ := Bool.and_eq_true_iff.mp h
  have hlength := of_decide_eq_true hlength
  refine ⟨hlength, Nat.le_of_not_lt fun hshort => ?_⟩
  have hgood := of_decide_eq_true hgood
  cases frame with
  | nil => exact nomatch hgood
  | cons b rest =>
    rw [List.map_cons, receive_framing (.inl (by rw [hlength] at hshort; exact hshort))] at hgood
    exact nomatch hgood

/-- A good frame is its Length, Port, Kind and Tag and at least two bytes more. -/
theorem goodFrame_parts (h : goodFrame frame = true) : ∃ (len port kind tag : Byte) (rest : List Byte),
    frame = len :: port :: kind :: tag :: rest ∧ rest.length + 4 = len.toNat := by
  obtain ⟨hlength, hlow⟩ := goodFrame_length h
  match frame, hlow with
  | len :: port :: kind :: tag :: rest, _ => exact ⟨len, port, kind, tag, rest, rfl, hlength⟩

/-! ### The kind checks (R186) -/

theorem readJudged_cons (values : List α) (b : Byte) (l : List Byte) :
    readJudged values (b :: l) = some (if b.toNat = 0 then none else values[b.toNat - 1]?, l) := rfl

theorem readEnum_unknown (h : b = 0 ∨ values.length < b.toNat) (l : List Byte) : readEnum values (b :: l) = none := by
  have hjudged := readJudged_cons values b l
  have hnone : (if b.toNat = 0 then none else values[b.toNat - 1]?) = none := by
    obtain rfl | h := h
    · rfl
    · rw [if_neg (by omega), List.getElem?_eq_none (by omega)]
  rw [hnone] at hjudged
  exact reader_bind_some hjudged

/-- An enumerated value is one byte, known or not. -/
theorem readEnum_cons (values : List α) (b : Byte) (l : List Byte) :
    readEnum values (b :: l) = none ∨ ∃ v, readEnum values (b :: l) = some (v, l) := by
  have hjudged := readJudged_cons values b l
  cases hvalue : (if b.toNat = 0 then none else values[b.toNat - 1]?) with
  | none =>
    rw [hvalue] at hjudged
    exact .inl (reader_bind_some hjudged)
  | some v =>
    rw [hvalue] at hjudged
    exact .inr ⟨v, reader_bind_some hjudged⟩

theorem readStatus_unknown (h : (x = 0 ∨ 2 < x.toNat) ∨ (y = 0 ∨ 3 < y.toNat)) : readStatus false [x, y] = none := by
  have hprinter (hy : y = 0 ∨ 3 < y.toNat) : readPrinter [y] = none :=
    readEnum_unknown (values := [PrinterCondition.ready, .paperOut, .jam]) hy []
  obtain hx | hy := h
  · exact reader_bind_none (readEnum_unknown (values := [Switch.off, .on]) hx [y])
  · obtain hnone | ⟨v, hswitch⟩ := readEnum_cons [Switch.off, .on] x [y]
    · exact reader_bind_none hnone
    · exact (reader_bind_some hswitch).trans (reader_bind_none (hprinter hy))

theorem readHello_unknown (h : (x = 0 ∨ 2 < x.toNat) ∨ (y = 0 ∨ 3 < y.toNat)) (p : CounterPort) :
    readHello p [1, x, y] = none :=
  (reader_bind_some (readJudged_cons _ 1 [x, y])).trans (reader_bind_none (readStatus_unknown h))

theorem keyOf_unknown (h : n = 0 ∨ 20 < n) (p : CounterPort) (k : Nat) : keyOf p k n = none := by
  unfold keyOf
  split
  case h_21 => rfl
  all_goals omega

theorem readKey_unknown (h : b = 0 ∨ 20 < b.toNat) (p : CounterPort) (l : List Byte) : readKey p (b :: l) = none := by
  have hkey : b.toNat = 0 ∨ 20 < b.toNat := h.imp_left fun h => by rw [h]; rfl
  refine (reader_bind_some (r := readByte) (x := b.toNat) (l' := l) rfl).trans ?_
  cases hnum : readNum 3 l with
  | none => exact reader_bind_none hnum
  | some z =>
    refine (reader_bind_some hnum).trans ?_
    rw [keyOf_unknown hkey]
    rfl

theorem readPrintDone_unknown (h : b = 0 ∨ 3 < b.toNat) (p : CounterPort) (unread : Bool) (x : Byte) (l : List Byte) :
    readCounter p unread 5 (x :: b :: l) = none :=
  reader_bind_none (f := fun _ => pure _) (readEnum_unknown (values := [PrintOutcome.ok, .paperOut, .jam]) h l)

/-! ### MALFORMED_FRAME (R186) -/

theorem commandOfFrame_none {len port kind tag : Byte}
    (h : port.toNat = p.number → kindLength kind.toNat = some len.toNat →
      readWhole (readCounter p unread kind.toNat) (payloadOf rest) = none) :
    commandOfFrame p unread (len :: port :: kind :: tag :: rest) = none := by
  unfold commandOfFrame
  dsimp only
  split
  · next hframe => exact h hframe.2 hframe.1
  · rfl

/-- A good frame that spells no command is counted. -/
theorem malformedFrame_counted (hgood : goodFrame frame = true)
    (h : commandOfFrame p (switchUnread (s.port p)) frame = none) :
    exec (.malformedFrame p frame) s = .next (s.setPort p { s.port p with errors :=
      { (s.port p).errors with protocol := min 65535 ((s.port p).errors.protocol + 1) } }) := by
  show execMalformedFrame p frame s = _
  rw [execMalformedFrame, hgood, malformedFrame, h, ← protocolError_eq]
  rfl

section
variable (hgood : goodFrame frame = true)
include hgood

theorem malformedFrame_port (h : frame[1]? ≠ some (BitVec.ofNat 8 p.number)) (unread : Bool) :
    commandOfFrame p unread frame = none := by
  obtain ⟨len, port, kind, tag, rest, rfl, -⟩ := goodFrame_parts hgood
  refine commandOfFrame_none fun hport => absurd ?_ h
  rw [← hport, BitVec.ofNat_toNat, BitVec.setWidth_eq]
  rfl

/-- A frame whose kind has another Length, or none, is no command. -/
theorem malformedFrame_kind (hkind : frame[2]? = some b) (h : kindLength b.toNat ≠ some frame.length) (unread : Bool) :
    commandOfFrame p unread frame = none := by
  obtain ⟨len, port, kind, tag, rest, rfl, hlength⟩ := goodFrame_parts hgood
  obtain rfl : kind = b := Option.some.inj hkind
  refine commandOfFrame_none fun _ hlen => absurd (hlen.trans (congrArg some ?_)) h
  exact hlength.symm

/-- A frame of a kind whose payload cannot be read is no command. -/
theorem malformedFrame_payload (hkind : frame[2]? = some b)
    (h : ∀ rest, kindLength b.toNat = some (rest.length + 4) → (∀ i, frame[i + 4]? = rest[i]?) →
      readWhole (readCounter p unread b.toNat) (payloadOf rest) = none) : commandOfFrame p unread frame = none := by
  obtain ⟨len, port, kind, tag, rest, rfl, hlength⟩ := goodFrame_parts hgood
  obtain rfl : kind = b := Option.some.inj hkind
  exact commandOfFrame_none fun _ hlen => h rest (hlen.trans (congrArg some hlength.symm)) fun _ => rfl

theorem malformedFrame_key (hkind : frame[2]? = some 4) (hkey : frame[4]? = some b) (h : b = 0 ∨ 20 < b.toNat) :
    commandOfFrame p unread frame = none := by
  refine malformedFrame_payload hgood hkind fun rest hlength hrest => ?_
  rw [hrest 0] at hkey
  match rest, Option.some.inj hlength with
  | [a, _, _, _, _, _], _ =>
    obtain rfl : a = b := Option.some.inj hkey
    exact readWhole_eq_none (readKey_unknown h p _)

theorem malformedFrame_printDone (hkind : frame[2]? = some 5) (houtcome : frame[5]? = some b) (h : b = 0 ∨ 3 < b.toNat) :
    commandOfFrame p unread frame = none := by
  refine malformedFrame_payload hgood hkind fun rest hlength hrest => ?_
  rw [hrest 1] at houtcome
  match rest, Option.some.inj hlength with
  | [_, a, _, _], _ =>
    obtain rfl : a = b := Option.some.inj houtcome
    exact readWhole_eq_none (readPrintDone_unknown h p unread _ _)

theorem malformedFrame_status (hkind : frame[2]? = some 2)
    (h : frame[4]? = some b ∧ (b = 0 ∨ 2 < b.toNat) ∨ frame[5]? = some b ∧ (b = 0 ∨ 3 < b.toNat)) :
    commandOfFrame p false frame = none := by
  refine malformedFrame_payload hgood hkind fun rest hlength hrest => ?_
  rw [hrest 0, hrest 1] at h
  match rest, Option.some.inj hlength with
  | [x, y, _, _], _ =>
    refine readWhole_eq_none (reader_bind_none (readStatus_unknown (h.imp ?_ ?_)))
    all_goals
      rintro ⟨hb, h⟩
      obtain rfl := Option.some.inj hb
      exact h

theorem malformedFrame_hello (hkind : frame[2]? = some 1) (hscale : frame[4]? = some 1)
    (h : frame[5]? = some b ∧ (b = 0 ∨ 2 < b.toNat) ∨ frame[6]? = some b ∧ (b = 0 ∨ 3 < b.toNat)) :
    commandOfFrame p unread frame = none := by
  refine malformedFrame_payload hgood hkind fun rest hlength hrest => ?_
  rw [hrest 0] at hscale
  rw [hrest 1, hrest 2] at h
  match rest, Option.some.inj hlength with
  | [k, x, y, _, _], _ =>
    obtain rfl : k = 1 := Option.some.inj hscale
    refine readWhole_eq_none (readHello_unknown (h.imp ?_ ?_) p)
    all_goals
      rintro ⟨hb, h⟩
      obtain rfl := Option.some.inj hb
      exact h

end

theorem kindLength_unknown (h : n ∉ [1, 2, 3, 4, 5, 6]) : kindLength n = none := by
  unfold kindLength
  split
  case h_7 => rfl
  all_goals exact absurd (by decide) h

theorem kindLength_listed : ∀ {x : Nat × Nat}, x ∈ [(1, 9), (2, 8), (3, 18), (4, 10), (5, 8), (6, 6)] →
    kindLength x.1 = some x.2 := by
  decide

theorem switchUnread_false (h : (s.port p).state ≠ .up ∨ (s.port p).kind = some .scale) :
    switchUnread (s.port p) = false := by
  unfold switchUnread
  obtain h | h := h
  · rw [decide_eq_false h, Bool.false_and]
  · rw [decide_eq_false (not_not_intro h), Bool.and_false]

/-! ### MALFORMED_REQUEST (R187) -/

theorem malformedRequest_answered {len : Byte} (hopen : UplinkOpen s) (hgood : goodFrame (len :: rest) = true)
    (h : malformedRequest (len :: rest) = true) : exec (.malformedRequest len rest) s =
      .next (replied (frameTag (len :: rest)) .badFrame .none { s with uplink := { s.uplink with
        errors := { s.uplink.errors with protocol := min 65535 (s.uplink.errors.protocol + 1) } } }) := by
  refine exec_replied (own := badFrame (frameTag (len :: rest))) hopen ?_ hopen.1 rfl
  show execMalformedRequest len rest s = _
  unfold execMalformedRequest
  dsimp only
  rw [hgood, h]
  rfl

theorem malformedRequest_spelled {len : Byte} (h : malformedRequest (len :: rest) = false) (s : State) :
    exec (.malformedRequest len rest) s = .next s := by
  show execMalformedRequest len rest s = _
  unfold execMalformedRequest
  dsimp only
  rw [h, Bool.and_false]
  rfl

/-- Settles O23: the malformed requests of the uplink, the forms read back, the kind checks of the counter ports, and
the receiver's checks in their order. -/
theorem discardedFramesAreCounted : Obligations.DiscardedFramesAreCounted := by
  unfold Obligations.DiscardedFramesAreCounted
  refine ⟨?_, ?_, ?_, ?_, ?_, ?_⟩
  · intro s len rest hopen frame
    exact ⟨fun hgood h => malformedRequest_answered hopen hgood h, fun h => malformedRequest_spelled h s⟩
  · intro len port kind tag code count rest
    refine ⟨fun h => malformed_header h rest, fun h => malformed_payload fun _ => ?_,
      fun h hrest => malformed_payload fun hlong => ?_, fun h => malformed_stage h rest,
      fun hrest => malformed_payload fun hlong => ?_⟩
    · rw [readRequestCode_unknown (h.imp_left fun h => by rw [h]; rfl)]
      rfl
    · exact readWhole_of_length (readsExactly_bare h _) (by rw [payloadOf_length]; omega)
    · exact readWhole_of_length (readsExactly_translateWrite _) (by rw [payloadOf_length]; omega)
  · intro tag a b d hlow hhigh ha hb
    exact ⟨read_status hlow hhigh, read_pluRead hlow hhigh ha hb, read_timeSet hlow hhigh ha⟩
  · intro s p frame b hgood counted
    refine ⟨fun h => ?_, fun hkind => ⟨fun h => ?_, fun x hx hx1 hx2 => ?_⟩, fun hkind hkey h => ?_,
      fun hkind houtcome h => ?_, fun hread hkind h => ?_, fun hkind hscale h => ?_⟩
      <;> refine malformedFrame_counted hgood ?_
    · exact malformedFrame_port hgood h _
    · exact malformedFrame_kind hgood hkind (by rw [kindLength_unknown h]; nofun) _
    · refine malformedFrame_kind hgood hkind (fun h => hx2 (Option.some.inj ?_)) _
      rw [← h, hx1, kindLength_listed hx]
    · exact malformedFrame_key hgood hkind hkey h
    · exact malformedFrame_printDone hgood hkind houtcome h
    · rw [switchUnread_false hread]
      exact malformedFrame_status hgood hkind h
    · exact malformedFrame_hello hgood hkind hscale h
  · exact fun s p => congrArg Host.Outcome.next (protocolError_eq p s)
  · intro s port ch rest taking chars frame adds full
    have hadds (v : RxVerdict) (h : receive chars full = v) : adds fun e => e.take v :=
      discardAdds_of (port := port) (taking := taking) (s := s) fun e => congrArg e.take h
    refine ⟨frameDiscard_pending, fun h => hadds .framing (receive_framing h full), fun hlow hlength hstop =>
      ⟨fun hfull => hadds .overrun ?_, fun hfull hcheck => hadds .check ?_, fun hfull hcheck => hadds .good ?_⟩⟩
      <;> rw [receive_whole hlow hlength hstop, hfull]
    · rfl
    · rw [checkHolds, decide_eq_false hcheck]
      rfl
    · rw [checkHolds, decide_eq_true hcheck]
      rfl

end Sys2Proof.Machine
end
